-- ==== Sys2Proof/Word.lean ====
section
/-! DEFINITION. Bytes of the serial lines and the plainest arithmetic of the spec (00_scope.md section 5.4). -/

namespace Sys2Proof

/-- One byte on a serial line. -/
abbrev Byte := BitVec 8

/-- A register of the CRC-16 of R166. -/
abbrev Word16 := BitVec 16

/-- Division rounded up, the rule of load arithmetic (00_scope.md section 5.4). -/
def ceilDiv (a b : Nat) : Nat := (a + b - 1) / b

end Sys2Proof
end

