-- ==== Sys2Proof/Config.lean ====
section
/-! DEFINITION. The fixed sizes of the part and the free value the spec leaves open. -/

namespace Sys2Proof.Config

/-- Case type table entries (R2). -/
def typeCount : Nat := 64
/-- Article table entries (R9). -/
def articleMax : Nat := 256
/-- Layers in a station's queue (R15). -/
def layerMax : Nat := 12
/-- Placement records in a station's pool (R15). -/
def poolMax : Nat := 128
/-- Stack table entries (R39). -/
def stackMax : Nat := 160
/-- Support list pairs (R39, R48). -/
def supportMax : Nat := 48
/-- Arrival FIFO records (R65). -/
def fifoMax : Nat := 8
/-- Spill table places (R85). -/
def spillMax : Nat := 6
/-- Magazine sheets (R90). -/
def magazineMax : Nat := 60
/-- Request backlog (R168). -/
def backlogMax : Nat := 4
/-- Waiting BUSY replies (R168). -/
def busyMax : Nat := 4
/-- Report queue (R173). -/
def reportMax : Nat := 24
/-- Longest body of a host frame (R166). -/
def bodyMax : Nat := 1020
/-- Grip-fault count at which the gripper locks out (R147). -/
def lockoutAt : Nat := 6
/-- Release level in percent (R135). -/
def releaseLevel : Nat := 10
/-- Speed cap in mm/s (R128). -/
def speedCap : Nat := 250
/-- Time in ms for which a new level of a sensor or guard input stands before it is an event (R1). -/
def filterMs : Nat := 2
/-- Decay period in ms (R147). -/
def decayPeriod : Nat := 600000

/-- FREE VALUE (DESIGN CHOICE, log 10): how far, in mm, a moving axis gets in the millisecond of the n-th draw.
The use bounds it by the way left. -/
opaque tickAdvance : Nat → Nat

end Sys2Proof.Config
end

