-- ==== Sys2Proof/Syntax.lean ====
section
/-! DEFINITION. The commands of the block: one constructor per row of spec/opcode_table.json. -/

namespace Sys2Proof

/-- Build stations A and B (00_scope.md section 2). -/
inductive StationId
  | A | B
  deriving DecidableEq, Repr

/-- Infeed lanes L1 and L2 (R65). -/
inductive LaneId
  | L1 | L2
  deriving DecidableEq, Repr

/-- Gripper zones A to D (R133). -/
inductive Zone
  | A | B | C | D
  deriving DecidableEq, Repr

/-- The three linear axes (R108). -/
inductive LinAxis
  | X | Y | Z
  deriving DecidableEq, Repr

/-- The four axes: a linear one or the wrist turn T (R108). -/
inductive Axis
  | lin (a : LinAxis)
  | T
  deriving DecidableEq, Repr

/-- The two end limit switches of a linear axis (R127). -/
inductive AxisEnd
  | low | high
  deriving DecidableEq, Repr

/-- The two fault inputs of a zone's driver stage (R133). -/
inductive FaultKind
  | overcurrent | openLoad
  deriving DecidableEq, Repr

/-- One buffer slot, 0..7 (R80). -/
abbrev SlotId := Fin 8

/-- The commands. A request row carries the tag and the body bytes of its frame (R166); an event row carries the
place it concerns and the new level or value of its input. -/
inductive Instr
  -- link and power
  | powerOn
  | goodFrame (bytes : List Byte)
  | linkGapTimeout (before : List Byte) (ending : Byte)
  | linkStopBitError (before : List Byte)
  | frameSent
  | unknownKind (kind tag : Byte) (body : List Byte)
  -- settings requests
  | setCell (tag : Byte) (body : List Byte)
  | setStation (tag : Byte) (body : List Byte)
  | setProfile (tag : Byte) (body : List Byte)
  | setHandling (tag : Byte) (body : List Byte)
  | setGripper (tag : Byte) (body : List Byte)
  | defineType (tag : Byte) (body : List Byte)
  | defineArticle (tag : Byte) (body : List Byte)
  | dropArticle (tag : Byte) (body : List Byte)
  | lockSettings (tag : Byte) (body : List Byte)
  -- plan requests
  | loadLayer (tag : Byte) (body : List Byte)
  | withdrawId (tag : Byte) (body : List Byte)
  | withdrawTag (tag : Byte) (body : List Byte)
  | closePlan (tag : Byte) (body : List Byte)
  | abandonPlan (tag : Byte) (body : List Byte)
  | setDeparture (tag : Byte) (body : List Byte)
  | setSheets (tag : Byte) (body : List Byte)
  -- operating requests
  | home (tag : Byte) (body : List Byte)
  | start (tag : Byte) (body : List Byte)
  | stop (tag : Byte) (body : List Byte)
  | pauseRamped (tag : Byte) (body : List Byte)
  | pauseQuick (tag : Byte) (body : List Byte)
  | resume (tag : Byte) (body : List Byte)
  | recover (tag : Byte) (body : List Byte)
  | gripperReset (tag : Byte) (body : List Byte)
  | clearSlot (tag : Byte) (body : List Byte)
  | stationHold (tag : Byte) (body : List Byte)
  | stationResume (tag : Byte) (body : List Byte)
  | purgeLane (tag : Byte) (body : List Byte)
  | restart (tag : Byte) (body : List Byte)
  -- queries
  | queryStation (tag : Byte) (body : List Byte)
  | queryLayer (tag : Byte) (body : List Byte)
  | queryPlacement (tag : Byte) (body : List Byte)
  | queryStack (tag : Byte) (body : List Byte)
  | querySurface (tag : Byte) (body : List Byte)
  | queryLane (tag : Byte) (body : List Byte)
  | queryShelf (tag : Byte) (body : List Byte)
  | queryGantry (tag : Byte) (body : List Byte)
  | queryGripper (tag : Byte) (body : List Byte)
  | queryType (tag : Byte) (body : List Byte)
  | queryArticle (tag : Byte) (body : List Byte)
  | queryHandling (tag : Byte) (body : List Byte)
  -- infeed events
  | arrival (lane : LaneId) (bytes : List Byte)
  | scannerGapTimeout (lane : LaneId) (before : List Byte)
  | scannerStopBitError (lane : LaneId) (before : List Byte)
  | casePresentOn (lane : LaneId)
  | casePresentOff (lane : LaneId)
  | accumulationEmpty (lane : LaneId) (isEmpty : Bool)
  | waitExpiry (lane : LaneId)
  | slotPresence (slot : SlotId) (on : Bool)
  | spillTableCleared (active : Bool)
  -- stack model
  | walkEnd (st : StationId)
  -- gantry events
  | moveEnd (axis : Axis)
  | homeSwitch (axis : Axis) (active : Bool)
  | homeSwitchNotFound (axis : Axis)
  | endLimit (axis : LinAxis) (side : AxisEnd) (active : Bool)
  -- guard and station events
  | door (isOpen : Bool)
  | curtainBreak (st : StationId)
  | curtainRestore (st : StationId)
  | palletPresent (st : StationId) (on : Bool)
  | warningField (active : Bool)
  -- gripper events
  | vacuumReading (zone : Zone) (value : Nat)
  | gripTimerExpiry
  | releaseTimerExpiry
  | pullInExpiry (zone : Zone)
  | faultInput (zone : Zone) (which : FaultKind) (active : Bool)
  | decayExpiry
  -- departure budget
  | departureTick (st : StationId)
  | duePassed (st : StationId)
  -- receive framer
  | frameCheckMismatch (bytes : List Byte)
  | bodyLengthAbove1020 (bytes : List Byte)
  deriving DecidableEq, Repr

end Sys2Proof
end

