-- ==== Sys2Proof/Machine/Frame.lean ====
section
/-! DEFINITION. Bytes, checks and frames: field coding (R180), the host frame and its CRC-16 (R166), the scanner
frame's CRC-8 (R186), the request kind codes (R181) and the fit of a body to its kind (R181, R182, R183). -/

namespace Sys2Proof.Machine

/-- One-byte field at an offset (R180). -/
def u8 (b : List Byte) (at_ : Nat) : Nat := (b.getD at_ 0).toNat

/-- Two-byte field at an offset, low byte first (R180). -/
def u16 (b : List Byte) (at_ : Nat) : Nat := u8 b at_ + 256 * u8 b (at_ + 1)

/-- Four-byte field at an offset, low byte first (R180). -/
def u32 (b : List Byte) (at_ : Nat) : Nat := u16 b at_ + 65536 * u16 b (at_ + 2)

/-- A number as one byte. -/
def byte (n : Nat) : Byte := BitVec.ofNat 8 n

/-- A number as two bytes, low byte first (R180). -/
def bytes2 (n : Nat) : List Byte := [byte n, byte (n / 256)]

/-- A number as four bytes, low byte first (R180). -/
def bytes4 (n : Nat) : List Byte := bytes2 n ++ bytes2 (n / 65536)

/-- A flag as one byte (R180). -/
def byteOfBool (b : Bool) : Byte := if b then 1 else 0

/-- One bit of the CRC-16 with x^16 + x^12 + x^5 + 1 (R166). -/
def crc16Bit (r : Word16) : Word16 :=
  if r.msb then (r <<< 1) ^^^ 0x1021 else r <<< 1

/-- One byte entering the CRC-16, most significant bit first (R166). -/
def crc16Byte (r : Word16) (b : Byte) : Word16 :=
  Nat.repeat crc16Bit 8 (r ^^^ (b.setWidth 16 <<< 8))

/-- CRC-16 of a byte string, register starting at 0xFFFF, no inversion (R166). -/
def crc16 (bs : List Byte) : Nat := (bs.foldl crc16Byte 0xFFFF).toNat

/-- One bit of the CRC-8 with x^8 + x^2 + x + 1 (R186). -/
def crc8Bit (r : Byte) : Byte :=
  if r.msb then (r <<< 1) ^^^ 0x07 else r <<< 1

/-- One byte entering the CRC-8, most significant bit first (R186). -/
def crc8Byte (r b : Byte) : Byte := Nat.repeat crc8Bit 8 (r ^^^ b)

/-- CRC-8 of a byte string with initial value 0 (R186). -/
def crc8 (bs : List Byte) : Nat := (bs.foldl crc8Byte 0).toNat

/-- Marker of a host frame (R166). -/
def hostMarker : Byte := 0xB6

/-- Marker of a scanner frame (R66). -/
def scanMarker : Byte := 0x3C

/-- The bytes of a host frame with a correct check (R166). -/
def frameBytes (kind tag : Nat) (body : List Byte) : List Byte :=
  let inner := bytes2 body.length ++ [byte kind, byte tag] ++ body
  hostMarker :: inner ++ bytes2 (crc16 inner)

/-- Do these bytes, marker first, make one complete host frame (R166)? -/
def isWholeFrame (f : List Byte) : Bool :=
  u8 f 0 == hostMarker.toNat && 7 ≤ f.length && u16 f 1 ≤ Config.bodyMax && f.length == 7 + u16 f 1

/-- Does the check of a complete host frame match (R167)? -/
def checkMatches (f : List Byte) : Bool :=
  crc16 ((f.drop 1).take (f.length - 3)) == u16 f (f.length - 2)

/-- Is the kind byte the kind of a request (R181)? -/
def isRequestKind (k : Nat) : Bool :=
  (1 ≤ k && k ≤ 0x09) || (0x10 ≤ k && k ≤ 0x15) || (0x20 ≤ k && k ≤ 0x2B) || (0x30 ≤ k && k ≤ 0x3B)

/-- Length of one placement of a LOAD_LAYER body from its form byte and presence byte; none where it cannot be
known or the body ends before they are read (R182). -/
def placementLength (b : List Byte) : Option Nat :=
  match b with
  | [] => none
  | form :: _ =>
    if form = 0 then some 8
    else if form = 1 then
      if b.length < 9 then none
      else
        let p := u8 b 8
        if 4 ≤ p then none
        else some (9 + (if p % 2 = 1 then 4 else 0) + (if 2 ≤ p then 1 else 0))
    else none

/-- Do exactly `count` placements fill the rest of the body (R182)? -/
def placementsFit : Nat → List Byte → Bool
  | 0, b => b.isEmpty
  | n + 1, b =>
    match placementLength b with
    | none => false
    | some k => k ≤ b.length && placementsFit n (b.drop k)

/-- Fit of a LOAD_LAYER body (R182). -/
def loadLayerFits (b : List Byte) : Bool :=
  4 ≤ b.length && placementsFit (u8 b 3) (b.drop 4)

/-- Fit of a SET_PROFILE body by its kind byte (R181). -/
def profileFits (b : List Byte) : Bool :=
  if u8 b 1 = 2 then 3 ≤ b.length && b.length == 3 + 4 * u8 b 2
  else 2 ≤ b.length && u8 b 1 ≤ 1 && b.length == 8

/-- Fit of a WITHDRAW body by its first byte (R181). -/
def withdrawFits (b : List Byte) : Bool :=
  match b with
  | [] => false
  | f :: _ => (f = 0 && b.length == 4) || (f = 1 && b.length == 3)

/-- Fixed body length of a request kind; none for the three kinds whose bodies vary (R181, R183). -/
def fixedLength (k : Nat) : Option Nat :=
  match k with
  | 0x01 => some 93 | 0x02 => some 12 | 0x04 => some 8 | 0x05 => some 9 | 0x06 => some 18
  | 0x07 => some 9 | 0x08 => some 8 | 0x09 => some 0
  | 0x12 => some 1 | 0x13 => some 1 | 0x14 => some 3 | 0x15 => some 1
  | 0x20 => some 0 | 0x21 => some 0 | 0x22 => some 0 | 0x23 => some 1 | 0x24 => some 0 | 0x25 => some 1
  | 0x26 => some 0 | 0x27 => some 1 | 0x28 => some 1 | 0x29 => some 1 | 0x2A => some 1 | 0x2B => some 0
  | 0x30 => some 1 | 0x31 => some 2 | 0x32 => some 3 | 0x33 => some 2 | 0x34 => some 2 | 0x35 => some 1
  | 0x36 => some 0 | 0x37 => some 1 | 0x38 => some 0 | 0x39 => some 1 | 0x3A => some 8 | 0x3B => some 1
  | _ => none

/-- Does a body fit its request kind (step 2 of R169)? -/
def bodyFits (k : Nat) (b : List Byte) : Bool :=
  match k with
  | 0x03 => profileFits b
  | 0x10 => loadLayerFits b
  | 0x11 => withdrawFits b
  | _ => fixedLength k == some b.length

end Sys2Proof.Machine
end

