-- ==== Sys2Proof/WellFormed.lean ====
section
/-! DEFINITION. Which commands the environment can send: the operands the spec lets each row carry. -/

namespace Sys2Proof

open Machine

/-- A request frame's body length (R166). -/
def bodyOk (body : List Byte) : Bool := body.length ≤ Config.bodyMax

/-- Bytes received before a gap or a stop-bit error: no complete scanner frame among them (R66). -/
def scanPartOk (before : List Byte) : Bool := before.length < 18

/-- Operands a command can carry. -/
def Instr.wellFormed : Instr → Bool
  | .powerOn => true
  | .goodFrame bs => isWholeFrame bs && checkMatches bs
  | .linkGapTimeout before _ => !isWholeFrame before
  | .linkStopBitError before => !isWholeFrame before
  | .frameSent => true
  | .unknownKind kind _ body => !isRequestKind kind.toNat && bodyOk body
  | .setCell _ b | .setStation _ b | .setProfile _ b | .setHandling _ b | .setGripper _ b
  | .defineType _ b | .defineArticle _ b | .dropArticle _ b | .lockSettings _ b
  | .loadLayer _ b | .closePlan _ b | .abandonPlan _ b | .setDeparture _ b | .setSheets _ b
  | .home _ b | .start _ b | .stop _ b | .resume _ b | .recover _ b | .gripperReset _ b
  | .clearSlot _ b | .stationHold _ b | .stationResume _ b | .purgeLane _ b | .restart _ b
  | .queryStation _ b | .queryLayer _ b | .queryPlacement _ b | .queryStack _ b | .querySurface _ b
  | .queryLane _ b | .queryShelf _ b | .queryGantry _ b | .queryGripper _ b | .queryType _ b
  | .queryArticle _ b | .queryHandling _ b => bodyOk b
  | .withdrawId _ b => bodyOk b && u8 b 0 != 1
  | .withdrawTag _ b => bodyOk b && u8 b 0 == 1
  | .pauseRamped _ b => bodyOk b && u8 b 0 != 1
  | .pauseQuick _ b => bodyOk b && u8 b 0 == 1
  | .arrival _ bs => bs.length == 18 && u8 bs 0 == scanMarker.toNat
  | .scannerGapTimeout _ before => scanPartOk before
  | .scannerStopBitError _ before => scanPartOk before
  | .casePresentOn _ => true
  | .casePresentOff _ => true
  | .accumulationEmpty _ _ => true
  | .waitExpiry _ => true
  | .slotPresence _ _ => true
  | .spillTableCleared _ => true
  | .walkEnd _ => true
  | .moveEnd _ => true
  | .homeSwitch _ _ => true
  | .homeSwitchNotFound _ => true
  | .endLimit _ _ _ => true
  | .door _ => true
  | .curtainBreak _ => true
  | .curtainRestore _ => true
  | .palletPresent _ _ => true
  | .warningField _ => true
  | .vacuumReading _ v => v ≤ 100
  | .gripTimerExpiry => true
  | .releaseTimerExpiry => true
  | .pullInExpiry _ => true
  | .faultInput _ _ _ => true
  | .decayExpiry => true
  | .departureTick _ => true
  | .duePassed _ => true
  | .frameCheckMismatch bs => isWholeFrame bs && !checkMatches bs
  | .bodyLengthAbove1020 bs => bs.length == 3 && u8 bs 0 == hostMarker.toNat && Config.bodyMax < u16 bs 1

end Sys2Proof
end

