-- ==== Sys2Proof/Machine/State.lean ====
section
/-! DEFINITION. The state of the 7240, as plain data, block by block, and its value right after power-on. -/

namespace Sys2Proof.Machine

/-! ### Things kept per station, lane, zone and linear axis -/

/-- One value for each station. -/
structure PerStation (α : Type) where
  a : α
  b : α
  deriving DecidableEq, Repr

def PerStation.get {α : Type} (p : PerStation α) : StationId → α
  | .A => p.a
  | .B => p.b

def PerStation.set {α : Type} (p : PerStation α) (i : StationId) (v : α) : PerStation α :=
  match i with
  | .A => { p with a := v }
  | .B => { p with b := v }

/-- One value for each lane. -/
structure PerLane (α : Type) where
  l1 : α
  l2 : α
  deriving DecidableEq, Repr

def PerLane.get {α : Type} (p : PerLane α) : LaneId → α
  | .L1 => p.l1
  | .L2 => p.l2

def PerLane.set {α : Type} (p : PerLane α) (i : LaneId) (v : α) : PerLane α :=
  match i with
  | .L1 => { p with l1 := v }
  | .L2 => { p with l2 := v }

/-- One value for each gripper zone. -/
structure PerZone (α : Type) where
  a : α
  b : α
  c : α
  d : α
  deriving DecidableEq, Repr

def PerZone.get {α : Type} (p : PerZone α) : Zone → α
  | .A => p.a
  | .B => p.b
  | .C => p.c
  | .D => p.d

def PerZone.set {α : Type} (p : PerZone α) (z : Zone) (v : α) : PerZone α :=
  match z with
  | .A => { p with a := v }
  | .B => { p with b := v }
  | .C => { p with c := v }
  | .D => { p with d := v }

/-- A set of zones: a zone mask (R180) or the used zones (R137). -/
abbrev ZoneSet := PerZone Bool

/-- One value for each linear axis. -/
structure PerAxis (α : Type) where
  x : α
  y : α
  z : α
  deriving DecidableEq, Repr

def PerAxis.get {α : Type} (p : PerAxis α) : LinAxis → α
  | .X => p.x
  | .Y => p.y
  | .Z => p.z

def PerAxis.set {α : Type} (p : PerAxis α) (i : LinAxis) (v : α) : PerAxis α :=
  match i with
  | .X => { p with x := v }
  | .Y => { p with y := v }
  | .Z => { p with z := v }

/-! ### Inputs -/

/-- The two-level sensor and guard inputs, each behind a bounce filter of its own (R1). -/
inductive Sensor
  | door | warning | spillCleared
  | curtain (st : StationId)
  | pallet (st : StationId)
  | casePresent (l : LaneId)
  | laneEmpty (l : LaneId)
  | slot (i : SlotId)
  | home (a : Axis)
  | limit (a : LinAxis) (side : AxisEnd)
  | fault (z : Zone) (k : FaultKind)
  deriving DecidableEq, Repr

/-- Levels of the sensor and guard inputs after the filter of R1. They belong to the cell, so no reset changes them.
`filter` lists the inputs whose level stands unlike the filtered one, the oldest change first, each with the ms for which it
must still stand before it is an event (R1, log 20). -/
structure Inputs where
  filter : List (Sensor × Nat)
  door : Bool
  warning : Bool
  curtain : PerStation Bool
  pallet : PerStation Bool
  casePresent : PerLane Bool
  laneEmpty : PerLane Bool
  slotPresence : Vector Bool 8
  spillCleared : Bool
  homeX : Bool
  homeY : Bool
  homeZ : Bool
  homeT : Bool
  limitLow : PerAxis Bool
  limitHigh : PerAxis Bool
  reading : PerZone Nat
  overcurrent : PerZone Bool
  openLoad : PerZone Bool
  deriving DecidableEq, Repr

/-! ### Article Directory -/

/-- A defined entry of the case type table with its derived design weight (R2, R4). -/
structure CaseType where
  len : Nat
  wid : Nat
  hei : Nat
  wn : Nat
  wtol : Nat
  dtol : Nat
  rc : Nat
  stab : Nat
  hcls : Nat
  mask : ZoneSet
  minZones : Nat
  duty : Nat
  wd : Nat
  deriving DecidableEq, Repr

/-- One entry of the article table: the 14-digit code as a number, and the type index (R9). -/
structure Article where
  code : Nat
  type : Nat
  deriving DecidableEq, Repr

/-- One handling class (R12). -/
structure Handling where
  profile : Nat
  speed : Nat
  dist : Nat
  cost : Nat
  deriving DecidableEq, Repr

structure Directory where
  types : Vector (Option CaseType) 64
  articles : List Article
  handling : Vector Handling 6
  deriving DecidableEq, Repr

/-! ### Stack Model: verdicts -/

/-- Turn or orientation (R180). -/
inductive Turn
  | t0 | t90
  deriving DecidableEq, Repr

/-- A top or support reference: the deck or one stack entry (R38, R39). -/
inductive Ref
  | deck
  | entry (i : Nat)
  deriving DecidableEq, Repr

/-- The walk result of an ADMIT verdict, which becomes a job's reservation (R51). -/
structure WalkResult where
  loads : List (Nat × Nat)
  base : Nat
  k : Nat
  supports : List (Ref × Nat)
  wd : Nat
  deriving DecidableEq, Repr

/-- Verdicts (R51, R56). -/
inductive Verdict
  | unswept
  | admitted (r : WalkResult)
  | tableFull
  | overhang
  | height
  | gross
  | spread
  | crush (entry shortfall : Nat)
  deriving DecidableEq, Repr

/-! ### Plan Store -/

/-- Placement states (R23). -/
inductive PState
  | pending | bound | placed | void
  deriving DecidableEq, Repr

/-- A placement record (R17) with the footprint size fixed when the layer is taken (R19). -/
structure Placement where
  id : Nat
  type : Nat
  i0 : Nat
  j0 : Nat
  turn : Turn
  aisle : Nat
  order : Option Nat
  override : Option Nat
  cx : Nat
  cy : Nat
  state : PState
  verdict : Verdict
  deriving DecidableEq, Repr

/-- A layer record (R16). `sheetDone` and `sheetJob` are the model's marks for R28 and R27 (log 25). -/
structure Layer where
  tag : Nat
  sheet : Bool
  report : Bool
  early : Bool
  earlyEff : Bool
  sheetDue : Bool
  placements : List Placement
  sheetDone : Bool
  sheetJob : Bool
  deriving DecidableEq, Repr

/-- Plan state of a station (R15). -/
structure Plan where
  queue : List Layer
  closed : Bool
  deriving DecidableEq, Repr

/-! ### Stack Model -/

inductive Footprint
  | full | half
  deriving DecidableEq, Repr

/-- Station limits (R36). -/
structure Limits where
  hMax : Nat
  gMax : Nat
  tol : Nat
  foot : Footprint
  deriving DecidableEq, Repr

/-- A cell of the surface map (R38). -/
structure Cell where
  h : Nat
  ref : Ref
  deriving DecidableEq, Repr

/-- What a stack entry records (R39). -/
inductive EntryKind
  | case (id type : Nat)
  | sheet
  deriving DecidableEq, Repr

/-- A stack entry (R39); its index is its position in the table. -/
structure Entry where
  kind : EntryKind
  i0 : Nat
  j0 : Nat
  cx : Nat
  cy : Nat
  base : Nat
  top : Nat
  weight : Nat
  rating : Nat
  allow : Nat
  k : Nat
  supports : List (Ref × Nat)
  deriving DecidableEq, Repr

/-- A candidate of a sweep (R59). -/
inductive Cand
  | sheet
  | placement (id : Nat)
  deriving DecidableEq, Repr

/-- Sweep states (R57). -/
inductive SweepState
  | idle | running | waiting
  deriving DecidableEq, Repr

/-- A station's sweep: while RUNNING the head of the list is the candidate whose walk runs (R59). -/
structure Sweep where
  state : SweepState
  list : List Cand
  deriving DecidableEq, Repr

/-- Stack Model of a station. -/
structure Stack where
  limits : Limits
  map : List Cell
  highest : Nat
  table : List Entry
  gross : Nat
  sheetVerdict : Verdict
  sweep : Sweep
  deriving DecidableEq, Repr

/-! ### Infeed Unit -/

/-- Read status of an arrival (R67). -/
inductive ReadStatus
  | ok | noRead | multiLabel | badCheck
  deriving DecidableEq, Repr

/-- Run-off reasons (R185). -/
inductive Reason
  | badCheck | noRead | multiLabel | unknownArticle | size | overweight | underweight
  | untracked | purge | lostAtPick | notInPlan | bufferFull | ungrippable
  deriving DecidableEq, Repr

/-- Disposition of a record (R67). -/
inductive Disposition
  | accepted
  | runOff (r : Reason)
  deriving DecidableEq, Repr

/-- The four measurements of a scanner frame (R67). -/
structure Measured where
  len : Nat
  wid : Nat
  hei : Nat
  wei : Nat
  deriving DecidableEq, Repr

/-- An arrival record (R67). -/
structure ArrivalRec where
  lane : LaneId
  seq : Nat
  status : ReadStatus
  code : Option Nat
  type : Option Nat
  meas : Option Measured
  orient : Option Turn
  disp : Disposition
  purge : Bool
  deriving DecidableEq, Repr

/-- Pick-point states (R65); a release has a record or none and a reason (R75). -/
inductive Pick
  | empty
  | front
  | picking
  | releasing (hasRecord : Bool) (reason : Reason)
  deriving DecidableEq, Repr

/-- A receiver that assembles frames: HUNTING, or ASSEMBLING with the bytes so far, marker first (R66, R167). -/
inductive Receiver
  | hunting
  | assembling (got : List Byte)
  deriving DecidableEq, Repr

/-- One lane (R65). -/
structure Lane where
  purging : Bool
  fifo : List ArrivalRec
  pick : Pick
  wait : Nat
  seq : Nat
  rx : Receiver
  deriving DecidableEq, Repr

/-- One buffer slot (R80); the lifting mark of R82 and the stale mark of R106 stand with the state they belong to. -/
inductive Slot
  | empty (lifting : Bool)
  | held (rec : ArrivalRec) (shelved : Nat) (stale : Bool)
  | blocked
  deriving DecidableEq, Repr

/-! ### Dispatcher -/

inductive JobKind
  | place | sheet | put | putaway
  deriving DecidableEq, Repr

/-- Where a job picks (R89). -/
inductive Source
  | lane (l : LaneId)
  | slot (i : SlotId)
  | magazine
  deriving DecidableEq, Repr

/-- Where a job sets down (R89). -/
inductive Dest
  | placement (st : StationId) (id : Nat)
  | sheet (st : StationId)
  | slot (i : SlotId)
  | spill
  deriving DecidableEq, Repr

/-- What a job carries (R89). -/
inductive Item
  | case (r : ArrivalRec)
  | sheet
  deriving DecidableEq, Repr

/-- Job phases (R89, R121). -/
inductive Phase
  | approach | pickDown | grip | pickUp | travel | setDown | release | clear
  deriving DecidableEq, Repr

/-- The profile a job's moves use once resolved (R112). -/
inductive Resolved
  | slot (n : Nat)
  | fallback
  deriving DecidableEq, Repr

/-- The job record (R89). The source case before the grip is the front case or slot case of `source`.
`laden`, `unladen`, `subst` are R112's; `spillK` is R119's; `delivered` is the type of the case a PUT or PUTAWAY has
released, which it references to its end (R7); `gripFailed` (R122, R124), `abandoned` (R24) and `committed` (R90) are the
model's marks (log 25). -/
structure Job where
  kind : JobKind
  source : Source
  dest : Option Dest
  carried : Option Item
  turn : Turn
  cls : Nat
  profile : Nat
  speed : Nat
  dist : Nat
  reservation : Option WalkResult
  phase : Phase
  gripped : Bool
  released : Bool
  laden : Resolved
  unladen : Resolved
  subst : Bool
  spillK : Option Nat
  gripFailed : Bool
  abandoned : Bool
  committed : Bool
  delivered : Option Nat
  deriving DecidableEq, Repr

/-! ### Gantry Controller -/

/-- A profile of a defined slot (R110). -/
inductive Profile
  | linear (v0 vt pr : Nat)
  | sCurve (v0 vt pr : Nat)
  | table (steps : List (Nat × Nat))
  deriving DecidableEq, Repr

/-- A three-coordinate place of the geometry (R109). -/
structure Place where
  x : Nat
  y : Nat
  h : Nat
  deriving DecidableEq, Repr

/-- The cell geometry of SET_CELL (R109). -/
structure Geometry where
  pick : PerLane Place
  slots : Vector Place 8
  spill : Place
  magazine : Place
  originX : PerStation Nat
  originY : PerStation Nat
  zoneLow : PerStation Nat
  zoneHigh : PerStation Nat
  deriving DecidableEq, Repr

/-- The plan of one move: start speed, peak speed, the place on the ramp where the axis has the peak speed (R113, R114),
and the creep that ends a descent (R115). -/
structure MovePlan where
  start : Nat
  peak : Nat
  ramp : Int
  creepDist : Nat
  creepSpeed : Nat
  deriving DecidableEq, Repr

/-- A move in progress of a linear axis. Places on its ramp are mm from where the axis has the profile's start speed V0,
negative below it. `base` is the place of the move's own start speed, which lies below V0 where the cap does (R128).
`origin` is where the plan was last made and `coord` the place on the ramp the axis had there: `base` at a move's start
(R113, R128). `target` is the target of the move (R129), and `stopAt` where a ramp to rest ends it instead (R123, R125). -/
structure Move where
  origin : Int
  base : Int
  coord : Int
  target : Int
  stopAt : Option Int
  profile : Profile
  limit : Nat
  plan : MovePlan
  deriving DecidableEq, Repr

/-- A linear axis (R108); an invalid counter is none. -/
structure LinState where
  counter : Option Int
  homed : Bool
  move : Option Move
  deriving DecidableEq, Repr

/-- The wrist axis T (R108). -/
structure TState where
  pos : Option Turn
  homed : Bool
  move : Option Turn
  deriving DecidableEq, Repr

/-- Fault causes (R116). -/
inductive FaultCause
  | home | limit | drop | release | stuck
  deriving DecidableEq, Repr

/-- Gantry states (R116). -/
inductive GState
  | unhomed | homing | idle | busy | stopping | stopped
  | faulted (c : FaultCause)
  | awaitPutaway
  deriving DecidableEq, Repr

/-- Why axes are being brought to rest (R123, R125). -/
inductive RestFor
  | cancel
  | replan
  | await
  | stop (phaseDone : Bool)
  deriving DecidableEq, Repr

/-- What the motion in progress is for (R121). -/
inductive Motion
  | none
  | rise
  | travel
  | descent
  | toRest (w : RestFor)
  deriving DecidableEq, Repr

structure Gantry where
  state : GState
  kept : Option FaultCause
  homing : Nat
  axes : PerAxis LinState
  t : TState
  motion : Motion
  profiles : Vector (Option Profile) 8
  geometry : Geometry
  geomDefined : Bool
  clearance : Nat
  homingSpeed : Nat
  waitLimit : Nat
  lastTravel : Nat
  heldChange : Bool
  deriving DecidableEq, Repr

/-! ### Gripper Unit -/

/-- Vacuum valve modes (R133); HOLD carries the time since its entry in ms (R134). -/
inductive Valve
  | off
  | full
  | hold (ms : Nat)
  deriving DecidableEq, Repr

/-- One gripper zone (R133). -/
structure ZoneRec where
  valve : Valve
  blow : Bool
  faulted : Bool
  deriving DecidableEq, Repr

/-- Gripper settings (R135). -/
structure GripSet where
  g : Nat
  lo : Nat
  gripMs : Nat
  releaseMs : Nat
  pullIn : Nat
  freq : Nat
  deriving DecidableEq, Repr

/-- Gripper states (R136). -/
inductive GripState
  | idle | gripping | holding | releasing | lockedOut
  deriving DecidableEq, Repr

structure Gripper where
  state : GripState
  attempt : Nat
  timer : Option Nat
  zones : PerZone ZoneRec
  used : ZoneSet
  duty : Nat
  counter : Nat
  decay : Option Nat
  dropMark : Bool
  set : GripSet
  deriving DecidableEq, Repr

/-! ### Cell Guard and Stations -/

/-- What PAUSED returns to (R151). -/
inductive Ret
  | run | finishing
  deriving DecidableEq, Repr

/-- What GUARD_STOPPED returns to (R151). -/
inductive GuardMem
  | ret (r : Ret)
  | paused (r : Ret)
  deriving DecidableEq, Repr

/-- Guard causes (R151). -/
structure Causes where
  door : Bool
  curtainA : Bool
  curtainB : Bool
  deriving DecidableEq, Repr

/-- Cell run states with their memory (R151). -/
inductive CellRun
  | off
  | run
  | finishing
  | paused (r : Ret)
  | guardStopped (m : GuardMem) (c : Causes)
  deriving DecidableEq, Repr

/-- The cell run state and the restart policy, AUTO or LATCHED (R151, R152). -/
structure CellGuard where
  run : CellRun
  auto : Bool
  deriving DecidableEq, Repr

/-- Hold reasons (R156). -/
inductive Hold
  | host | sheetsOut | debris
  deriving DecidableEq, Repr

/-- The station states other than EXCHANGE (R156). -/
inductive Standing
  | noPallet | idle | building | complete | held (h : Hold) | unverified
  deriving DecidableEq, Repr

/-- Station states; EXCHANGE remembers the state it left (R156, R159). -/
inductive Mode
  | plain (m : Standing)
  | exchange (remembered : Standing)
  deriving DecidableEq, Repr

/-- Departure of a station (R162). -/
inductive Departure
  | unset
  | counting (seconds : Nat)
  | passed
  deriving DecidableEq, Repr

/-- Schedule status (R163). -/
inductive Sched
  | none | onTime | atRisk | late
  deriving DecidableEq, Repr

/-- A station at the Cell Guard. -/
structure Station where
  mode : Mode
  absentSeen : Bool
  departure : Departure
  sheetCost : Nat
  margin : Nat
  est : Nat
  slack : Option Int
  status : Sched
  deriving DecidableEq, Repr

/-! ### Line Link: replies -/

/-- Result codes (R171). -/
inductive Result
  | ok | unknownKind | badLength | range | undefined | locked | state | full | noRoom | overlap | outside
  | inFlight | notFound | busy | order | rampShort
  deriving DecidableEq, Repr

/-- The OK reply of QUERY_STATION (R165, R64). -/
structure StationView where
  cell : CellGuard
  mode : Mode
  pallet : Bool
  curtainBroken : Bool
  absentSeen : Bool
  inZone : Bool
  departure : Departure
  sheetCost : Nat
  margin : Nat
  est : Nat
  slack : Option Int
  status : Sched
  closed : Bool
  layers : Nat
  free : Nat
  limits : Limits
  entries : Nat
  gross : Nat
  highest : Nat
  sweep : SweepState
  sheetVerdict : Verdict
  magazine : Nat
  stall : Bool
  deriving DecidableEq, Repr

/-- The OK reply of QUERY_LAYER (R35). -/
structure LayerView where
  tag : Nat
  sheet : Bool
  report : Bool
  early : Bool
  earlyEff : Bool
  sheetDue : Bool
  eligible : Bool
  pending : Nat
  bound : Nat
  placed : Nat
  void : Nat
  ids : List Nat
  layers : Nat
  free : Nat
  deriving DecidableEq, Repr

/-- A record as QUERY_LANE shows it (R88). -/
structure RecView where
  seq : Nat
  status : ReadStatus
  type : Option Nat
  orient : Option Turn
  disp : Disposition
  purge : Bool
  deriving DecidableEq, Repr

/-- The OK reply of QUERY_LANE (R88). -/
structure LaneView where
  purging : Bool
  accept : Bool
  pick : Pick
  bound : Bool
  wait : Nat
  limit : Nat
  seq : Nat
  count : Nat
  records : List RecView
  deriving DecidableEq, Repr

/-- A HELD slot as QUERY_SHELF shows it (R88). -/
structure HeldView where
  lane : LaneId
  seq : Nat
  type : Option Nat
  orient : Option Turn
  shelved : Nat
  stale : Bool
  deriving DecidableEq, Repr

/-- Slot states as messages name them (R185). -/
inductive SlotCode
  | empty | held | blocked
  deriving DecidableEq, Repr

/-- A slot as QUERY_SHELF shows it (R88). -/
structure SlotView where
  state : SlotCode
  presence : Bool
  held : Option HeldView
  deriving DecidableEq, Repr

/-- The OK reply of QUERY_GANTRY (R131). -/
structure GantryView where
  state : GState
  counters : PerAxis (Option Int)
  homed : PerAxis Bool
  tPos : Option Turn
  tHomed : Bool
  cap : Bool
  geomDefined : Bool
  fixture : Nat
  clearance : Nat
  lastTravel : Nat
  job : Option Job
  slot : Option Profile
  deriving DecidableEq, Repr

/-- The OK reply of QUERY_GRIPPER (R149). -/
structure GripperView where
  state : GripState
  attempt : Option Nat
  timer : Option Nat
  zones : PerZone ZoneRec
  reading : PerZone Nat
  overcurrent : PerZone Bool
  openLoad : PerZone Bool
  used : ZoneSet
  counter : Nat
  decay : Option Nat
  dropMark : Bool
  set : GripSet
  releaseLevel : Nat
  deriving DecidableEq, Repr

/-- The body of a reply: a result code and what the owner adds to it (R171, R181). -/
inductive ReplyBody
  | code (r : Result)
  | layerRefused (r : Result) (position : Nat)
  | typeStored (index minZones duty wd : Nat)
  | articles (inUse : Nat)
  | profileStored (top ramp : Nat)
  | gripperStored (g lo : Nat)
  | layerTaken (position free : Nat) (earlyEff : Bool)
  | withdrawn (state : PState) (removed : Option Nat)
  | tagWithdrawn (voided placed : Nat)
  | abandoned (voided : Nat) (layerRemains : Bool)
  | departureSet (est : Nat) (slack : Option Int) (status : Sched)
  | sheetsStored (count : Nat)
  | gripperReset (counter : Nat) (state : GripState) (faulted : ZoneSet)
  | laneRecords (count : Nat)
  | station (v : StationView)
  | layer (v : LayerView)
  | placement (p : Placement) (position tag : Nat) (stackIndex : Option Nat)
  | placedOnStack (stackIndex : Nat)
  | stackEntry (index : Nat) (e : Entry) (entries : Nat)
  | surfaceRow (cells : List Cell) (highest : Nat)
  | lane (v : LaneView)
  | shelf (slots : List SlotView) (spill : Nat)
  | gantry (v : GantryView)
  | gripper (v : GripperView)
  | typeUndefined
  | typeDefined (t : CaseType) (referenced : Bool)
  | article (type inUse : Nat)
  | handling (h : Handling)
  deriving DecidableEq, Repr

/-- A reply: the kind and tag of the request it answers, and its body (R166, R181). -/
structure Reply where
  kind : Byte
  tag : Byte
  body : ReplyBody
  deriving DecidableEq, Repr

/-! ### Line Link: reports -/

/-- Report classes (R173). -/
inductive RClass
  | alarm | progress | routine
  deriving DecidableEq, Repr

/-- Causes of a SLOT report (R82, R83, R84, R106). -/
inductive SlotCause
  | presence | removed | cleared | ungrippable | stale
  deriving DecidableEq, Repr

/-- The record a SLOT or BUFFERED report names (R81, R82, R83). -/
structure RecRef where
  lane : LaneId
  seq : Nat
  type : Option Nat
  deriving DecidableEq, Repr

/-- Causes of a LANE report on entry to PURGE (R72). -/
inductive PurgeCause
  | overrun | host
  deriving DecidableEq, Repr

/-- Events of a GRIP report with their causes (10.4). -/
inductive GripEvent
  | failTimeout | failZones | lostReading | lostFault | releaseStuck | zoneOvercurrent | zoneOpenLoad | lockedOut
  deriving DecidableEq, Repr

/-- The job named by a GANTRY report (R130). -/
structure JobRef where
  kind : JobKind
  phase : Phase
  source : Source
  dest : Option Dest
  deriving DecidableEq, Repr

/-- What the GANTRY report of a job's start adds (R130). -/
structure StartInfo where
  cls : Nat
  profile : Nat
  speed : Nat
  dist : Nat
  resolved : Resolved
  substituted : Bool
  deriving DecidableEq, Repr

/-- The guard input a GUARD report names (R155). -/
inductive GuardInput
  | door | curtain (st : StationId) | warning
  deriving DecidableEq, Repr

/-- The content of a report (R173 and the chapters of its sender). What LANE carries on the return to RUN, and SLOT and RUN_OFF
where the rules name no content, is a DESIGN CHOICE: log 53. -/
inductive ReportBody
  | started (restart : Bool) (stations slots : Nat)
  | arrival (r : ArrivalRec) (stored : Bool) (count : Nat)
  | runOff (lane : LaneId) (reason : Reason) (seq : Option Nat) (code type : Option Nat)
  | buffered (slot : SlotId) (r : RecRef)
  | slot (slot : SlotId) (state : SlotCode) (cause : SlotCause) (r : Option RecRef)
  | lanePurge (lane : LaneId) (cause : PurgeCause) (marked : Nat)
  | laneRun (lane : LaneId)
  | placed (st : StationId) (id tag aisle index weight : Nat) (order : Option Nat)
  | layerDone (st : StationId) (tag placed void : Nat) (sheet : Bool)
  | stall (st : StationId) (tag : Nat) (c : Cand) (v : Verdict) (pending : Nat)
  | station (st : StationId) (old new : Mode) (removedEarly : Bool)
  | schedule (st : StationId) (old new : Sched) (est : Nat) (d : Option Nat) (slack : Option Int)
  | duePassed (st : StationId)
  | gantry (state : GState) (counters : PerAxis (Option Int)) (t : Option Turn) (cap : Bool) (job : Option JobRef)
      (start : Option StartInfo)
  | grip (e : GripEvent) (zone : Option Zone) (reading : PerZone Nat) (faulted used : ZoneSet) (counter : Nat)
      (job : Option JobRef) (x y : Option Int)
  | guard (i : GuardInput) (level : Bool) (cell : CellRun) (quickStop : Bool) (mode : Option Mode)
      (inZone : Option Bool)
  deriving DecidableEq, Repr

/-- A report in the queue, with its class and the ms of its enqueueing (R173, R184). -/
structure Report where
  body : ReportBody
  cls : RClass
  time : Nat
  deriving DecidableEq, Repr

/-- A request in the backlog; `reply` is set once it has been decided (R168, R169). -/
structure Request where
  kind : Byte
  tag : Byte
  body : List Byte
  reply : Option ReplyBody
  deriving DecidableEq, Repr

/-- The frame on the transmit line (R170); a report carries the lost flag written into it (R176). -/
inductive Sending
  | busy (r : Reply)
  | reply (r : Reply)
  | report (r : Report) (lost : Bool)
  deriving DecidableEq, Repr

structure Link where
  framer : Receiver
  backlog : List Request
  busy : List Reply
  tx : Option Sending
  reports : List Report
  lost : Bool
  lock : Bool
  deriving DecidableEq, Repr

/-! ### The whole part -/

/-- The state of the 7240. `pending` holds the commands that wait. `evalDue` and `awaitDue` are marks of the step in
progress (log 25), `draws` counts the free values used (log 10). -/
structure State where
  pending : List Instr
  clock : Nat
  inputs : Inputs
  dir : Directory
  plan : PerStation Plan
  stack : PerStation Stack
  lanes : PerLane Lane
  slots : Vector Slot 8
  spill : Nat
  job : Option Job
  magazine : Nat
  stall : PerStation Bool
  gantry : Gantry
  gripper : Gripper
  cell : CellGuard
  stn : PerStation Station
  link : Link
  evalDue : Bool
  awaitDue : Bool
  draws : Nat
  deriving DecidableEq, Repr

/-- Reasons for a fault. The part names none that ends its run: gantry, zone and lockout faults are states. No
command raises one. -/
inductive Fault
  deriving DecidableEq, Repr

/-- Reasons for a refusal. -/
inductive Refusal
  /-- A command without a meaning in this model. Raised by a refused arm of `exec` only; no arm is refused. Safe. -/
  | notModelled (mnemonic : String)
  deriving DecidableEq, Repr

/-! ### Power-on values -/

/-- Inputs of a quiet cell (DESIGN CHOICE, log 5): door closed, curtains intact, no pallet, no case. -/
def Inputs.quiet : Inputs where
  filter := []
  door := false
  warning := false
  curtain := ⟨false, false⟩
  pallet := ⟨false, false⟩
  casePresent := ⟨false, false⟩
  laneEmpty := ⟨true, true⟩
  slotPresence := Vector.replicate 8 false
  spillCleared := false
  homeX := false
  homeY := false
  homeZ := false
  homeT := false
  limitLow := ⟨false, false, false⟩
  limitHigh := ⟨false, false, false⟩
  reading := ⟨0, 0, 0, 0⟩
  overcurrent := ⟨false, false, false, false⟩
  openLoad := ⟨false, false, false, false⟩

/-- Default handling classes (R12). -/
def Handling.defaults : Vector Handling 6 :=
  #v[⟨1, 300, 40, 80⟩, ⟨1, 200, 60, 95⟩, ⟨2, 120, 80, 140⟩, ⟨3, 80, 100, 180⟩, ⟨4, 60, 120, 220⟩, ⟨4, 40, 150, 300⟩]

/-- Article Directory at power-on (R2, R9, R12). -/
def Directory.initial : Directory where
  types := Vector.replicate 64 none
  articles := []
  handling := Handling.defaults

/-- Empty plan (R15). -/
def Plan.initial : Plan := ⟨[], false⟩

/-- Bare surface map of a footprint (R38). -/
def bareMap (f : Footprint) : List Cell :=
  List.replicate (match f with | .full => 384 | .half => 192) ⟨0, .deck⟩

/-- Stack Model of a station holding nothing, with given limits (R63). -/
def Stack.bare (l : Limits) : Stack where
  limits := l
  map := bareMap l.foot
  highest := 0
  table := []
  gross := 0
  sheetVerdict := .unswept
  sweep := ⟨.idle, []⟩

/-- Station limits at power-on (R36). -/
def Limits.initial : Limits := ⟨1800, 8000, 10, .full⟩

/-- A lane after a reset that finds it empty (R87). -/
def Lane.initial : Lane := ⟨false, [], .empty, 0, 0, .hunting⟩

/-- A place not yet set by SET_CELL, read as 0 (DESIGN CHOICE, log 6). -/
def Place.unset : Place := ⟨0, 0, 0⟩

/-- Geometry before the first SET_CELL, read as 0 (DESIGN CHOICE, log 6). -/
def Geometry.unset : Geometry where
  pick := ⟨.unset, .unset⟩
  slots := Vector.replicate 8 .unset
  spill := .unset
  magazine := .unset
  originX := ⟨0, 0⟩
  originY := ⟨0, 0⟩
  zoneLow := ⟨0, 0⟩
  zoneHigh := ⟨0, 0⟩

/-- A linear axis that has not been homed (R108). -/
def LinState.unhomed : LinState := ⟨none, false, none⟩

/-- Gantry Controller at power-on (R132). -/
def Gantry.initial : Gantry where
  state := .unhomed
  kept := none
  homing := 1
  axes := ⟨.unhomed, .unhomed, .unhomed⟩
  t := ⟨none, false, none⟩
  motion := .none
  profiles := Vector.replicate 8 none
  geometry := .unset
  geomDefined := false
  clearance := 150
  homingSpeed := 50
  waitLimit := 20
  lastTravel := 0
  heldChange := false

/-- A zone with both valves OFF and no fault (R150). -/
def ZoneRec.initial : ZoneRec := ⟨.off, false, false⟩

/-- Gripper settings at power-on (R135). -/
def GripSet.initial : GripSet := ⟨65, 45, 600, 150, 100, 80⟩

/-- Gripper Unit at power-on (R150). -/
def Gripper.initial : Gripper where
  state := .idle
  attempt := 0
  timer := none
  zones := ⟨.initial, .initial, .initial, .initial⟩
  used := ⟨false, false, false, false⟩
  duty := 0
  counter := 0
  decay := none
  dropMark := false
  set := .initial

/-- A station at power-on with its pallet sensor off and its curtain intact (R157, R152, R162). -/
def Station.initial : Station where
  mode := .plain .noPallet
  absentSeen := false
  departure := .unset
  sheetCost := 120
  margin := 600
  est := 0
  slack := none
  status := .none

/-- Line Link at power-on once STARTED has begun to be sent (R178). -/
def Link.initial : Link where
  framer := .hunting
  backlog := []
  busy := []
  tx := some (.report ⟨.started false 0 0, .progress, 0⟩ false)
  reports := []
  lost := false
  lock := false

/-- The part right after power-on in a quiet cell (R178 and the reset rule of each chapter). -/
def State.reset : State where
  pending := []
  clock := 0
  inputs := .quiet
  dir := .initial
  plan := ⟨.initial, .initial⟩
  stack := ⟨.bare .initial, .bare .initial⟩
  lanes := ⟨.initial, .initial⟩
  slots := Vector.replicate 8 (.empty false)
  spill := 6
  job := none
  magazine := 0
  stall := ⟨false, false⟩
  gantry := .initial
  gripper := .initial
  cell := ⟨.off, false⟩
  stn := ⟨.initial, .initial⟩
  link := .initial
  evalDue := false
  awaitDue := false
  draws := 0

end Sys2Proof.Machine
end

