-- ==== Sys2Proof/Machine/Operands.lean ====
section
/-! DEFINITION. Operand forms: the fields of request bodies (R180, R181, R182, R183) and of the scanner frame (R186).
A decoder answers none where a field cannot be decoded, which the request's meaning answers with RANGE (R180). -/

namespace Sys2Proof.Machine

/-- Station field (R180). -/
def station? (n : Nat) : Option StationId :=
  match n with
  | 0 => some .A
  | 1 => some .B
  | _ => none

/-- Lane field (R180). -/
def lane? (n : Nat) : Option LaneId :=
  match n with
  | 1 => some .L1
  | 2 => some .L2
  | _ => none

/-- Turn field (R180). -/
def turn? (n : Nat) : Option Turn :=
  match n with
  | 0 => some .t0
  | 1 => some .t90
  | _ => none

/-- Zone mask field (R180). -/
def mask? (n : Nat) : Option ZoneSet :=
  if n < 16 then some ⟨n.testBit 0, n.testBit 1, n.testBit 2, n.testBit 3⟩ else none

/-- Slot operand: 0..7 (R84). -/
def slot? (n : Nat) : Option SlotId := if h : n < 8 then some ⟨n, h⟩ else none

/-- The two digits of a packed byte, high half first; none where a half lies above 9 (R180, R186). -/
def digits2? (b : Nat) : Option Nat :=
  if b / 16 ≤ 9 && b % 16 ≤ 9 then some (b / 16 * 10 + b % 16) else none

/-- The number spelled by `n` packed bytes from an offset on (R180, R186). -/
def packed? (b : List Byte) (at_ : Nat) : Nat → Option Nat
  | 0 => some 0
  | n + 1 =>
    match packed? b at_ n, digits2? (u8 b (at_ + n)) with
    | some hi, some lo => some (hi * 100 + lo)
    | _, _ => none

/-- Article code field: digit count and seven packed bytes; none where a half-byte lies above 9 or a digit ahead of
the counted ones is not zero (R180), or the count lies outside 8..14 or the code is all zeros (R10, R11). All of
these are answered RANGE. -/
def code? (b : List Byte) (at_ : Nat) : Option Nat :=
  match packed? b (at_ + 1) 7 with
  | none => none
  | some n =>
    if 8 ≤ u8 b at_ && u8 b at_ ≤ 14 && n < 10 ^ u8 b at_ && n ≠ 0 then some n else none

/-- Does a number lie within bounds, both included? -/
def within (n lo hi : Nat) : Bool := lo ≤ n && n ≤ hi

/-! ### DEFINE_TYPE (10.3) -/

/-- The fields of a DEFINE_TYPE body as sent. -/
structure TypeBody where
  index : Nat
  len : Nat
  wid : Nat
  hei : Nat
  wn : Nat
  wtol : Nat
  dtol : Nat
  rc : Nat
  stab : Nat
  hcls : Nat
  mask : ZoneSet
  minZones : Nat
  duty : Nat
  deriving DecidableEq, Repr

/-- Decode a DEFINE_TYPE body; an absent weight tolerance reads 15 (R5). -/
def typeBody? (b : List Byte) : Option TypeBody :=
  match mask? (u8 b 15) with
  | none => none
  | some m => some {
      index := u8 b 0
      len := u16 b 1
      wid := u16 b 3
      hei := u16 b 5
      wn := u16 b 7
      wtol := if u8 b 9 = 255 then 15 else u8 b 9
      dtol := u8 b 10
      rc := u16 b 11
      stab := u8 b 13
      hcls := u8 b 14
      mask := m
      minZones := u8 b 16
      duty := u8 b 17 }

/-! ### SET_STATION (10.3) -/

/-- The fields of a SET_STATION body. -/
structure StationBody where
  st : StationId
  limits : Limits
  auto : Bool
  sheetCost : Nat
  margin : Nat
  deriving DecidableEq, Repr

/-- Decode a SET_STATION body (10.3). -/
def stationBody? (b : List Byte) : Option StationBody :=
  match station? (u8 b 0), u8 b 1, u8 b 7 with
  | some st, foot, policy =>
    if foot ≤ 1 && policy ≤ 1 then
      some ⟨st, ⟨u16 b 2, u16 b 4, u8 b 6, if foot = 0 then .full else .half⟩, policy == 1, u16 b 8, u16 b 10⟩
    else none
  | none, _, _ => none

/-! ### SET_PROFILE (10.3) -/

/-- The steps of a TABLE profile, `n` of them, from an offset on. -/
def steps (b : List Byte) (at_ : Nat) : Nat → List (Nat × Nat)
  | 0 => []
  | n + 1 => (u16 b at_, u16 b (at_ + 2)) :: steps b (at_ + 4) n

/-- The profile a SET_PROFILE body carries, as sent (10.3). -/
def profileBody (b : List Byte) : Profile :=
  match u8 b 1 with
  | 0 => .linear (u16 b 2) (u16 b 4) (u16 b 6)
  | 1 => .sCurve (u16 b 2) (u16 b 4) (u16 b 6)
  | _ => .table (steps b 3 (u8 b 2))

/-! ### SET_CELL (R183) -/

/-- A place from three two-byte fields. -/
def placeAt (b : List Byte) (at_ : Nat) : Place := ⟨u16 b at_, u16 b (at_ + 2), u16 b (at_ + 4)⟩

/-- The geometry of a SET_CELL body (R183). -/
def geometryBody (b : List Byte) : Geometry where
  pick := ⟨placeAt b 0, placeAt b 6⟩
  slots := Vector.ofFn (fun i => placeAt b (12 + 6 * i.val))
  spill := placeAt b 60
  magazine := placeAt b 66
  originX := ⟨u16 b 72, u16 b 76⟩
  originY := ⟨u16 b 74, u16 b 78⟩
  zoneLow := ⟨u16 b 80, u16 b 84⟩
  zoneHigh := ⟨u16 b 82, u16 b 86⟩

/-! ### SET_GRIPPER (R183) -/

/-- The settings of a SET_GRIPPER body as sent (R183). -/
def gripBody (b : List Byte) : GripSet := ⟨u8 b 0, u8 b 1, u16 b 2, u16 b 4, u16 b 6, u8 b 8⟩

/-! ### LOAD_LAYER (10.3, R182) -/

/-- The fields of one placement of a LOAD_LAYER body as sent. -/
structure PlaceBody where
  id : Nat
  type : Nat
  i0 : Nat
  j0 : Nat
  turn : Nat
  aisle : Nat
  order : Option Nat
  override : Option Nat
  deriving DecidableEq, Repr

/-- The placement at the start of a byte string that fits (R182). -/
def placeBody (b : List Byte) : PlaceBody :=
  let p := if u8 b 0 = 1 then u8 b 8 else 0
  { id := u16 b 1
    type := u8 b 3
    i0 := u8 b 4
    j0 := u8 b 5
    turn := u8 b 6
    aisle := u8 b 7
    order := if p % 2 = 1 then some (u32 b 9) else none
    override := if 2 ≤ p then some (u8 b (9 + (if p % 2 = 1 then 4 else 0))) else none }

/-- The placements of a LOAD_LAYER body that fits, in list order (R182). -/
def placeBodies : Nat → List Byte → List PlaceBody
  | 0, _ => []
  | n + 1, b =>
    match placementLength b with
    | none => []
    | some k => placeBody b :: placeBodies n (b.drop k)

/-- The fields of a LOAD_LAYER body. -/
structure LayerBody where
  st : StationId
  tag : Nat
  sheet : Bool
  report : Bool
  early : Bool
  count : Nat
  places : List PlaceBody
  deriving DecidableEq, Repr

/-- Decode a LOAD_LAYER body that fits (R182): a wrong station or an unnamed flags bit cannot be decoded. -/
def layerBody? (b : List Byte) : Option LayerBody :=
  match station? (u8 b 0) with
  | none => none
  | some st =>
    let f := u8 b 2
    if f < 8 then
      some ⟨st, u8 b 1, f.testBit 0, f.testBit 1, f.testBit 2, u8 b 3, placeBodies (u8 b 3) (b.drop 4)⟩
    else none

/-! ### The scanner frame (R66, R186) -/

/-- The fields decoded from a complete scanner frame: read status, code and measurements (R186). -/
structure ScanBody where
  status : ReadStatus
  code : Option Nat
  meas : Option Measured
  deriving DecidableEq, Repr

/-- Decode a complete scanner frame: with a matching check the code is present where every half-byte is a digit, whatever the
status byte says (R186). This is the frame's decoding; what the arrival record holds of it is R67's. -/
def scanBody (f : List Byte) : ScanBody :=
  if crc8 ((f.drop 1).take 16) = u8 f 17 then
    let status : ReadStatus :=
      match u8 f 1 with
      | 0 => .ok
      | 1 => .noRead
      | _ => .multiLabel
    { status := status
      code := packed? f 2 7
      meas := some ⟨u16 f 9, u16 f 11, u16 f 13, min (u16 f 15) 800⟩ }
  else { status := .badCheck, code := none, meas := none }

/-- What a decoded frame gives the arrival record, by the table of R67: at status OK the field as it was decoded or found, and
nothing at every other status. That R67 decides what the record holds and R186 how the frame is decoded is DEDUCED, log 44. -/
def ScanBody.recorded (b : ScanBody) (field : Option Nat) : Option Nat := if b.status == .ok then field else none

end Sys2Proof.Machine
end

