-- ==== Sys2Proof/Machine/Ops.lean ====
section
/-! DEFINITION. The shared operations on the state: access to the parts kept per station and lane, the report queue
(R173 to R176), the request backlog and the transmit line (R168 to R170), and the receivers of the serial inputs
(R66, R167). -/

namespace Sys2Proof.Machine

/-! ### Access -/

def State.setPlan (s : State) (st : StationId) (p : Plan) : State := { s with plan := s.plan.set st p }
def State.setStack (s : State) (st : StationId) (k : Stack) : State := { s with stack := s.stack.set st k }
def State.setStn (s : State) (st : StationId) (n : Station) : State := { s with stn := s.stn.set st n }
def State.setLane (s : State) (l : LaneId) (n : Lane) : State := { s with lanes := s.lanes.set l n }
def State.setSlot (s : State) (i : SlotId) (x : Slot) : State := { s with slots := s.slots.set i x }
def State.setJob (s : State) (j : Option Job) : State := { s with job := j }
def State.setGantry (s : State) (g : Gantry) : State := { s with gantry := g }
def State.setGripper (s : State) (g : Gripper) : State := { s with gripper := g }
def State.setLink (s : State) (l : Link) : State := { s with link := l }
def State.setInputs (s : State) (i : Inputs) : State := { s with inputs := i }
def State.setDir (s : State) (d : Directory) : State := { s with dir := d }
def State.setSpill (s : State) (n : Nat) : State := { s with spill := n }
def State.setMagazine (s : State) (n : Nat) : State := { s with magazine := n }
def State.setStall (s : State) (st : StationId) (b : Bool) : State := { s with stall := s.stall.set st b }
def State.setAuto (s : State) (b : Bool) : State := { s with cell := { s.cell with auto := b } }
def State.setCellRun (s : State) (r : CellRun) : State := { s with cell := { s.cell with run := r } }

/-- A dispatch event is handed to the Dispatcher (R91); the evaluation is made at the end of the step (log 8). -/
def State.dispatchEvent (s : State) : State := { s with evalDue := true }

/-- A change of a slot's state, or another event at which a waiting PUTAWAY job chooses again (R103). -/
def State.destinationEvent (s : State) : State := { s with awaitDue := true }

/-- A change of a slot's state: a dispatch event (R91) and a moment of R103. -/
def State.slotEvent (s : State) : State := s.dispatchEvent.destinationEvent

def allZones : List Zone := [.A, .B, .C, .D]
def allSlots : List SlotId := [0, 1, 2, 3, 4, 5, 6, 7]
def allStations : List StationId := [.A, .B]
def allLanes : List LaneId := [.L1, .L2]

def PerZone.map {α β : Type} (f : α → β) (p : PerZone α) : PerZone β := ⟨f p.a, f p.b, f p.c, f p.d⟩

/-- The same function of the zone's own name for each zone. -/
def PerZone.tab {α : Type} (f : Zone → α) : PerZone α := ⟨f .A, f .B, f .C, f .D⟩

/-- Number of zones in a set. -/
def zoneCount (z : ZoneSet) : Nat := allZones.countP z.get

def noZones : ZoneSet := ⟨false, false, false, false⟩

/-! ### Report queue -/

/-- The class of a report, fixed when it is enqueued (R173). -/
def ReportBody.cls : ReportBody → RClass
  | .guard .. | .stall .. | .grip .. | .lanePurge .. => .alarm
  | .gantry (.faulted _) .. => .alarm
  | .gantry .. => .progress
  | .started .. | .placed .. | .layerDone .. | .station .. | .schedule .. | .duePassed .. => .progress
  | .arrival .. | .runOff .. | .buffered .. | .slot .. | .laneRun .. => .routine

/-- The queue less its oldest report of a class; none where it holds no such report (R175). -/
def dropOldest (c : RClass) (rs : List Report) : Option (List Report) :=
  if rs.any (fun r => r.cls == c) then some (rs.eraseP (fun r => r.cls == c)) else none

/-- The full queue less the report a new one displaces; none where the new one is dropped (R175). -/
def displaced (c : RClass) (rs : List Report) : Option (List Report) :=
  match c with
  | .routine => none
  | .progress => dropOldest .routine rs
  | .alarm => (dropOldest .routine rs).or (dropOldest .progress rs)

/-- A report is taken by the queue: stored, stored in the place of an older one, or dropped (R173, R175, R176). -/
def Link.enqueue (l : Link) (r : Report) : Link :=
  if l.reports.length < Config.reportMax then { l with reports := l.reports ++ [r] }
  else
    match displaced r.cls l.reports with
    | some rs => { l with reports := rs ++ [r], lost := true }
    | none => { l with lost := true }

/-- A block enqueues a report; its time is the ms since the last reset, in 4 bytes (R173, R184). -/
def State.report (s : State) (b : ReportBody) : State :=
  { s with link := s.link.enqueue ⟨b, b.cls, s.clock % 4294967296⟩ }

/-- The report sent next: the oldest of the highest class (R174). -/
def nextReport (rs : List Report) : Option Report :=
  (rs.find? (fun r => r.cls == .alarm)).or
    ((rs.find? (fun r => r.cls == .progress)).or rs.head?)

/-! ### Transmit line -/

/-- The transmit line, when it is free, takes the next frame (R170); a report takes the lost flag with it (R176). -/
def Link.choose (l : Link) : Link :=
  match l.tx with
  | some _ => l
  | none =>
    match l.busy with
    | r :: rest => { l with tx := some (.busy r), busy := rest }
    | [] =>
      match l.backlog with
      | ⟨kind, tag, _, some b⟩ :: _ => { l with tx := some (.reply ⟨kind, tag, b⟩) }
      | _ =>
        match nextReport l.reports with
        | none => l
        | some r => { l with tx := some (.report r l.lost), reports := l.reports.erase r, lost := false }

/-! ### Request backlog -/

/-- A RESTART has been decided and its clear is outstanding (R179). -/
def Link.restartPending (l : Link) : Bool :=
  l.backlog.any (fun r => r.kind == 0x2B && r.reply == some (.code .ok))

/-- Request intake: taken, answered BUSY, or discarded (R168). -/
def Link.intake (l : Link) (kind tag : Byte) (body : List Byte) : Link :=
  if l.backlog.length < Config.backlogMax then { l with backlog := l.backlog ++ [⟨kind, tag, body, none⟩] }
  else if l.busy.length < Config.busyMax then { l with busy := l.busy ++ [⟨kind, tag, .code .busy⟩] }
  else l

/-- The request handed on next: the oldest that is not decided, unless a RESTART waits for its clear (R169, R179). -/
def Link.next? (l : Link) : Option Request :=
  if l.restartPending then none else l.backlog.find? (fun r => r.reply.isNone)

/-- The backlog with the reply of its oldest undecided request formed. -/
def formReply (b : ReplyBody) : List Request → List Request
  | [] => []
  | r :: rest => if r.reply.isNone then { r with reply := some b } :: rest else r :: formReply b rest

/-- The reply of the request handed on is formed (R169). -/
def Link.answer (l : Link) (b : ReplyBody) : Link := { l with backlog := formReply b l.backlog }

/-! ### Receivers -/

/-- What a byte does in HUNTING: the marker starts a frame, any other byte is ignored (R66, R167). -/
def hunt (marker b : Byte) : Receiver := if b = marker then .assembling [marker] else .hunting

/-- The host framer takes one byte: its next state, and a complete frame whose check matches, as kind, tag and body
(R167). -/
def framerByte (r : Receiver) (b : Byte) : Receiver × Option (Byte × Byte × List Byte) :=
  match r with
  | .hunting => (hunt hostMarker b, none)
  | .assembling got =>
    let f := got ++ [b]
    if f.length < 3 then (.assembling f, none)
    else if f.length = 3 && Config.bodyMax < u16 f 1 then
      match hunt hostMarker (f.getD 1 0) with
      | .hunting => (hunt hostMarker b, none)
      | .assembling m => (.assembling (m ++ [b]), none)
    else if f.length < 7 + u16 f 1 then (.assembling f, none)
    else if checkMatches f then (.hunting, some (f.getD 3 0, f.getD 4 0, (f.drop 5).take (u16 f 1)))
    else (.hunting, none)

/-- The Line Link receives one byte: a good frame goes to request intake (R167, R168). -/
def Link.receiveByte (l : Link) (b : Byte) : Link :=
  match framerByte l.framer b with
  | (r, none) => { l with framer := r }
  | (r, some (kind, tag, body)) => ({ l with framer := r } : Link).intake kind tag body

/-- The Line Link receives bytes in turn. -/
def Link.receive (l : Link) (bs : List Byte) : Link := bs.foldl Link.receiveByte l

/-- The scanner receiver takes one byte: its next state and a complete frame of 18 bytes (R66). -/
def scanByte (r : Receiver) (b : Byte) : Receiver × Option (List Byte) :=
  match r with
  | .hunting => (hunt scanMarker b, none)
  | .assembling got =>
    let f := got ++ [b]
    if f.length < 18 then (.assembling f, none) else (.hunting, some f)

end Sys2Proof.Machine
end

