-- ==== Sys2Proof/Machine/Flags.lean ====
section
/-! DEFINITION. Conditions the blocks read from the state, and the output lines computed from it. -/

namespace Sys2Proof.Machine

/-! ### Article Directory -/

/-- Minimum support percentage of a stability class (R3). -/
def sminOf (stab : Nat) : Nat :=
  match stab with
  | 0 => 60
  | 1 => 75
  | 2 => 90
  | _ => 100

/-- Design weight (R4). -/
def designWeight (wn wtol : Nat) : Nat := ceilDiv (wn * (100 + wtol)) 100

/-- A case type entry, none while UNDEFINED (R2). -/
def Directory.typeAt (d : Directory) (n : Nat) : Option CaseType := (d.types[n]?).join

/-- A handling class entry (R12); the class is always one of six (log 34). -/
def Directory.classAt (d : Directory) (n : Nat) : Handling := (d.handling[n]?).getD ⟨0, 0, 0, 0⟩

/-- The type an article code maps to (R9). -/
def Directory.lookup (d : Directory) (code : Nat) : Option Nat :=
  (d.articles.find? (fun a => a.code == code)).map Article.type

/-- Effective handling class of a placement (R13). -/
def Directory.effectiveClass (d : Directory) (p : Placement) : Nat :=
  p.override.getD (((d.typeAt p.type).map CaseType.hcls).getD 0)

/-! ### Plan Store -/

/-- Is a placement neither PLACED nor VOID? -/
def Placement.live (p : Placement) : Bool := p.state == .pending || p.state == .bound

/-- Records of a station's pool in use (R15). -/
def Plan.inUse (p : Plan) : Nat := (p.queue.map (fun l => l.placements.length)).sum

/-- Free records of a station's pool (R15). -/
def Plan.free (p : Plan) : Nat := Config.poolMax - p.inUse

/-- Every placement of a station in plan order (R15). -/
def Plan.placements (p : Plan) : List Placement := (p.queue.map Layer.placements).flatten

/-- The working layer's sheet is due (R26). -/
def Plan.sheetDue (p : Plan) : Bool := (p.queue.head?.map Layer.sheetDue).getD false

/-- The eligible layers (R26). -/
def Plan.eligible (p : Plan) : List Layer :=
  match p.queue with
  | [] => []
  | w :: rest =>
    if w.sheetDue then []
    else
      match rest with
      | [] => [w]
      | n :: _ => if n.earlyEff then [w, n] else [w]

/-- The PENDING placements of the eligible layers, in plan order (R26, R59). -/
def Plan.eligiblePending (p : Plan) : List Placement :=
  ((p.eligible.map Layer.placements).flatten).filter (fun q => q.state == .pending)

/-- The candidates of a sweep (R59). -/
def Plan.candidates (p : Plan) : List Cand :=
  if p.sheetDue then [.sheet] else p.eligiblePending.map (fun q => .placement q.id)

/-- A placement of a station's pool by id (R18). -/
def Plan.find? (p : Plan) (id : Nat) : Option Placement := p.placements.find? (fun q => q.id == id)

/-- The queue position of the layer that holds a placement id. -/
def Plan.layerOf? (p : Plan) (id : Nat) : Option Nat :=
  p.queue.findIdx? (fun l => l.placements.any (fun q => q.id == id))

/-- Is a placement of the type PENDING in either station, in any queued layer (R79, R80, R94)? -/
def State.wanted (s : State) (type : Nat) : Bool :=
  allStations.any (fun st =>
    (s.plan.get st).placements.any (fun p => p.state == .pending && p.type == type))

/-- Is a record's case wanted (R80, R94, R102)? -/
def State.wantedRec (s : State) (r : ArrivalRec) : Bool := (r.type.map s.wanted).getD false

/-! ### Stack Model -/

/-- Cells of a footprint along i and along j (00_scope.md section 5.3, R38). -/
def Footprint.ni : Footprint → Nat
  | .full => 24
  | .half => 16

def Footprint.nj : Footprint → Nat
  | .full => 16
  | .half => 12

/-- Does a CASE entry of the table carry a placement id, and at which index (R18, R35)? -/
def Stack.indexOf? (k : Stack) (id : Nat) : Option Nat :=
  k.table.findIdx? (fun e => match e.kind with | .case n _ => n == id | .sheet => false)

/-- Is a placement id in use in a station (R18)? -/
def State.idInUse (s : State) (st : StationId) (id : Nat) : Bool :=
  ((s.plan.get st).find? id).isSome || ((s.stack.get st).indexOf? id).isSome

/-! ### Job -/

/-- The station a job is bound to (R29, R89). -/
def Job.station (j : Job) : Option StationId :=
  match j.kind, j.dest with
  | .place, some (.placement st _) => some st
  | .sheet, some (.sheet st) => some st
  | _, _ => none

/-- Is the job bound to the station (R29)? -/
def State.boundTo (s : State) (st : StationId) : Bool := (s.job.bind Job.station) == some st

/-- The reservation a job holds outstanding for a station (R54). -/
def State.outstanding (s : State) (st : StationId) : Option WalkResult :=
  match s.job with
  | some j => if j.station = some st then j.reservation else none
  | none => none

/-- The release phase has begun (R101, R103). A job that stands STOPPED at the start of RELEASE, because its SET_DOWN ended in
STOPPING (R125), counts as begun though its release is not yet handed to the gripper, so a loss of its target or destination does
not convert it: DEDUCED, log 54. -/
def Job.releaseBegun (j : Job) : Bool := j.phase == .release || j.phase == .clear

/-- Is the front case of a lane bound: a job names it and has not gripped (R76)? -/
def State.laneBound (s : State) (l : LaneId) : Bool :=
  match s.job with
  | some j => j.source == .lane l && !j.gripped
  | none => false

/-- Is a slot's case bound: a job names it and has not gripped (R82)? -/
def State.slotBound (s : State) (i : SlotId) : Bool :=
  match s.job with
  | some j => j.source == .slot i && !j.gripped
  | none => false

/-- The record of a HELD slot. -/
def Slot.record : Slot → Option ArrivalRec
  | .held r _ _ => some r
  | _ => none

/-- The case a job has claimed and not yet gripped (R89). -/
def State.sourceCase (s : State) (j : Job) : Option ArrivalRec :=
  if j.gripped then none
  else
    match j.source with
    | .lane l => (s.lanes.get l).fifo.head?
    | .slot i => (s.slots[i]).record
    | .magazine => none

/-- The case a job carries, or has claimed before the grip. -/
def State.jobCase (s : State) (j : Job) : Option ArrivalRec :=
  match j.carried with
  | some (.case r) => some r
  | some .sheet => none
  | none => s.sourceCase j

/-- Is a case type referenced (R7)? A PUT or PUTAWAY job references the type of its case from its creation to its end. -/
def State.referenced (s : State) (type : Nat) : Bool :=
  allStations.any (fun st => (s.plan.get st).placements.any (fun p => p.live && p.type == type))
  || allSlots.any (fun i => ((s.slots[i]).record.bind ArrivalRec.type) == some type)
  || ((s.job.bind s.jobCase).bind ArrivalRec.type) == some type
  || (s.job.bind Job.delivered) == some type

/-! ### Infeed Unit -/

/-- The accept output of a lane (R70). -/
def Lane.accept (n : Lane) : Bool := !n.purging && n.fifo.length < Config.fifoMax

/-- The end gate is driven open while the pick point is RELEASING (R75). -/
def Lane.endGate (n : Lane) : Bool :=
  match n.pick with
  | .releasing _ _ => true
  | _ => false

/-- Does the wait timer of a lane count (R78)? -/
def State.waitCounts (s : State) (l : LaneId) : Bool :=
  (s.lanes.get l).pick == .front && !s.laneBound l && s.cell.run == .run

/-- The front case of a lane: the head record while the pick point is FRONT (R65, R93). -/
def State.frontCase (s : State) (l : LaneId) : Option ArrivalRec :=
  if (s.lanes.get l).pick = .front then (s.lanes.get l).fifo.head? else none

/-- Is a slot free for a PUT (R94)? -/
def State.slotFree (s : State) (i : SlotId) : Bool :=
  s.slots[i] == .empty false && !s.inputs.slotPresence[i]

/-- The lowest-numbered free slot (R94, R102). -/
def State.freeSlot? (s : State) : Option SlotId := allSlots.find? s.slotFree

/-- Is the case of a record stale (R80)? -/
def State.staleRec (s : State) (r : ArrivalRec) : Bool := !s.wantedRec r

/-! ### Dispatcher -/

/-- Does a station allow dispatch (R57)? -/
def State.admits (s : State) (st : StationId) : Bool :=
  (s.stn.get st).mode == .plain .building && (s.stack.get st).sweep.state == .idle

/-! ### Gripper Unit -/

/-- The zones of a mask that are OK (R137). -/
def Gripper.usable (g : Gripper) (mask : ZoneSet) : ZoneSet :=
  PerZone.tab (fun z => mask.get z && !(g.zones.get z).faulted)

/-- Mask and minimum of an item: those of its type for a case, ABCD and 3 for a sheet (R137). -/
def State.gripNeeds (s : State) (case? : Option ArrivalRec) : ZoneSet × Nat :=
  match case? with
  | none => (⟨true, true, true, true⟩, 3)
  | some r =>
    match r.type.bind s.dir.typeAt with
    | some t => (t.mask, t.minZones)
    | none => (noZones, 1)

/-- Is an item grippable now (R96, R137)? -/
def State.grippable (s : State) (case? : Option ArrivalRec) : Bool :=
  let (mask, least) := s.gripNeeds case?
  least ≤ zoneCount (s.gripper.usable mask)

/-- Every used zone reads at least a level. -/
def State.allRead (s : State) (level : Nat) : Bool :=
  allZones.all (fun z => !s.gripper.used.get z || level ≤ s.inputs.reading.get z)

/-- Is the carry watched (R141)? -/
def State.watched (s : State) : Bool :=
  s.gripper.state == .holding
  && (match s.job with
      | some j => j.phase == .pickUp || j.phase == .travel || j.phase == .setDown
      | none => false)
  && (match s.gantry.state with
      | .faulted _ => false
      | .homing => false
      | _ => true)

/-- The first used zone, from A to D, that loses the carry: it reads below Lo or is FAULTED (R141). Which zone is named
where several do: DESIGN CHOICE, log 39. -/
def State.lossZone? (s : State) : Option Zone :=
  allZones.find? (fun z => s.gripper.used.get z
    && (s.inputs.reading.get z < s.gripper.set.lo || (s.gripper.zones.get z).faulted))

/-- What drives a zone's vacuum valve (R134). -/
inductive Drive
  | off
  | continuous
  | pulsed (duty freq : Nat)
  deriving DecidableEq, Repr

/-- The drive of a zone's vacuum valve: continuous in FULL and in the pull-in time of HOLD, then pulsed at the duty in
127ths (R134). -/
def Gripper.drive (g : Gripper) (z : Zone) : Drive :=
  match (g.zones.get z).valve with
  | .off => .off
  | .full => .continuous
  | .hold ms =>
    if ms < g.set.pullIn then .continuous
    else if 127 ≤ g.duty then .continuous
    else if g.duty = 0 then .off
    else .pulsed g.duty g.set.freq

/-! ### Gantry Controller -/

/-- The speed cap is in force while the warning field is active (R128). -/
def State.capInForce (s : State) : Bool := s.inputs.warning

/-- Position of an axis; 0 for an invalid counter (log 34). -/
def LinState.at (a : LinState) : Int := a.counter.getD 0

/-- Is an axis moving? -/
def Gantry.moving (g : Gantry) : Bool :=
  g.axes.x.move.isSome || g.axes.y.move.isSome || g.axes.z.move.isSome || g.t.move.isSome

/-- Fixture height (R109). -/
def Geometry.fixture (g : Geometry) : Nat :=
  let surfaces := [g.pick.l1.h, g.pick.l2.h, g.spill.h] ++ g.slots.toList.map Place.h
  max (surfaces.foldl max 0 + 600) (g.magazine.h + 120)

/-- Is an X position within a station's zone (R129)? -/
def Geometry.inZone (g : Geometry) (st : StationId) (x : Int) : Bool :=
  decide ((g.zoneLow.get st : Int) ≤ x) && decide (x ≤ (g.zoneHigh.get st : Int))

/-- Is the gantry in a station's zone (R129)? -/
def State.gantryInZone (s : State) (st : StationId) : Bool :=
  let x := s.gantry.axes.x
  !x.homed || s.gantry.geometry.inZone st x.at
    || (match x.move with
        | some m => s.gantry.geometry.inZone st m.target
        | none => false)

/-- State of a home switch. -/
def Inputs.home (i : Inputs) : Axis → Bool
  | .lin .X => i.homeX
  | .lin .Y => i.homeY
  | .lin .Z => i.homeZ
  | .T => i.homeT

/-! ### Inputs -/

/-- Level of an end limit switch as it stands. -/
def Inputs.limit (i : Inputs) (a : LinAxis) (side : AxisEnd) : Bool :=
  match side with
  | .low => i.limitLow.get a
  | .high => i.limitHigh.get a

/-- Level of a fault input as it stands. -/
def Inputs.fault (i : Inputs) (z : Zone) (k : FaultKind) : Bool :=
  match k with
  | .overcurrent => i.overcurrent.get z
  | .openLoad => i.openLoad.get z

/-- Level of a two-level input as it stands. -/
def Inputs.level (i : Inputs) : Sensor → Bool
  | .door => i.door
  | .warning => i.warning
  | .spillCleared => i.spillCleared
  | .curtain st => i.curtain.get st
  | .pallet st => i.pallet.get st
  | .casePresent l => i.casePresent.get l
  | .laneEmpty l => i.laneEmpty.get l
  | .slot k => i.slotPresence[k]
  | .home a => i.home a
  | .limit a side => i.limit a side
  | .fault z k => i.fault z k

/-- The ms for which the new level of an input must still stand before it is an event; none while the input stands at its
filtered level (R1). -/
def Inputs.changing (i : Inputs) (x : Sensor) : Option Nat := (i.filter.find? (fun e => e.1 == x)).map Prod.snd

/-- The ms that a change of an input still needs: all of them where its level has not changed yet (R1). -/
def Inputs.missing (i : Inputs) (x : Sensor) : Nat := (i.changing x).getD Config.filterMs

/-- The input whose change has stood for 2 ms and is the oldest such (R1; the order: log 20). -/
def Inputs.due? (i : Inputs) : Option Sensor := (i.filter.find? (fun e => e.2 == 0)).map Prod.fst

/-- An input's change is over: it has become an event, or its level has gone back (R1). -/
def Inputs.noteEvent (i : Inputs) (x : Sensor) : Inputs := { i with filter := i.filter.filter (fun e => e.1 != x) }

/-- An input's level changes and begins to stand (R1). -/
def Inputs.noteChange (i : Inputs) (x : Sensor) : Inputs := { i with filter := i.filter ++ [(x, Config.filterMs)] }

/-! ### Cell Guard -/

/-- Is the cell RUN or FINISHING? -/
def CellRun.going : CellRun → Bool
  | .run => true
  | .finishing => true
  | _ => false

/-- No guard cause remains (R151). -/
def Causes.none? (c : Causes) : Bool := !c.door && !c.curtainA && !c.curtainB

/-! ### Alarm output -/

/-- The conditions of a station that assert the alarm output (R177). -/
def Mode.alarms : Mode → Bool
  | .plain (.held .sheetsOut) => true
  | .plain (.held .debris) => true
  | .plain .unverified => true
  | _ => false

/-- The alarm output (R177), computed as every output is (log 22). -/
def State.alarm (s : State) : Bool :=
  (match s.cell.run with
    | .guardStopped _ _ => true
    | _ => false)
  || (match s.gantry.state with
      | .faulted _ => true
      | .awaitPutaway => true
      | _ => false)
  || s.gripper.state == .lockedOut
  || s.lanes.l1.purging || s.lanes.l2.purging
  || s.stn.a.mode.alarms || s.stn.b.mode.alarms

end Sys2Proof.Machine
end

