-- ==== Sys2Proof/Machine/Motion.lean ====
section
/-! DEFINITION. The kinematics of a single-axis move: profiles, ramps, triangular moves, descents, stopping distances
and changes of the speed cap (R110 to R115, R125, R128). The place of an axis on its ramp is kept in whole mm from the
profile's start speed, below zero where the cap lies below it, so speeds inside a ramp need no state of their own
(log 11). -/

namespace Sys2Proof.Machine

/-- Floor of the square root, below 2^bits. -/
def isqrtGo (n : Nat) : Nat → Nat → Nat
  | 0, acc => acc
  | b + 1, acc => if (acc + 2 ^ b) * (acc + 2 ^ b) ≤ n then isqrtGo n b (acc + 2 ^ b) else isqrtGo n b acc

/-- The square root rounded down, for speeds below 65536 mm/s (R113). -/
def isqrt (n : Nat) : Nat := isqrtGo n 16 0

/-! ### Profiles -/

/-- Start speed of a profile (R110). -/
def Profile.start : Profile → Nat
  | .linear v0 _ _ => v0
  | .sCurve v0 _ _ => v0
  | .table steps => (steps.head?.map Prod.fst).getD 0

/-- Top speed of a profile (R110). -/
def Profile.top : Profile → Nat
  | .linear _ vt _ => vt
  | .sCurve _ vt _ => vt
  | .table steps => (steps.getLast?.map Prod.fst).getD 0

/-- Ramp distance of a profile (R110). -/
def Profile.ramp : Profile → Nat
  | .linear _ _ pr => pr
  | .sCurve _ _ pr => pr
  | .table steps => (steps.map Prod.snd).sum

/-- The fallback profile (R112). -/
def Profile.fallback : Profile := .linear 20 250 100

/-- Place on the ramp of a LINEAR or S_CURVE profile at which an axis has a speed: the distance from V0 to it,
|speed² − V0²| / (2 × acceleration) rounded up (R113), upward from V0 and below it where the speed lies below V0 (R128). -/
def placeOf (v0 vt pr speed : Nat) : Int :=
  if v0 ≤ speed then ceilDiv ((speed * speed - v0 * v0) * pr) (vt * vt - v0 * v0)
  else -(ceilDiv ((v0 * v0 - speed * speed) * pr) (vt * vt - v0 * v0) : Int)

/-- Speed at half of a doubled place on a LINEAR or S_CURVE ramp, rounded down (R113). -/
def speedAtHalf (v0 vt pr : Nat) (d : Int) : Nat :=
  isqrt ((v0 * v0 : Int) + ((vt * vt - v0 * v0 : Nat) : Int) * d / (2 * pr)).toNat

/-- Place of the start speed of a move that starts under a top speed `limit`: V0, or the limit where it lies below V0
(R113, R128). A TABLE steps to its start speed and has no ramp below its first step (R114). -/
def Profile.basePlace (p : Profile) (limit : Nat) : Int :=
  match p with
  | .linear v0 vt pr => min 0 (placeOf v0 vt pr limit)
  | .sCurve v0 vt pr => min 0 (placeOf v0 vt pr limit)
  | .table _ => 0

/-- The first step at which the sum of the step distances reaches half of `d` (R114): its speed. -/
def tableStep (d : Nat) : Nat → List (Nat × Nat) → Option Nat
  | _, [] => none
  | sum, (v, dist) :: rest => if d ≤ 2 * (sum + dist) then some v else tableStep d (sum + dist) rest

/-- The plan of a profile move over a distance `d` that starts at the place `coord` of its ramp and ends at the place
`base`, under a top speed `limit` (R113, R114): start speed, peak speed, and the place of the peak. The axis climbs to the
place of its top speed, or where the distance is too short for that and the way back to `base`, to the place halfway. -/
def profilePlan (p : Profile) (base coord : Int) (d limit : Nat) : MovePlan :=
  match p with
  | .table steps =>
    let kept := if p.top ≤ limit then steps else steps.filter (fun q => q.1 < limit)
    let full := (kept.map Prod.snd).sum
    let start := (kept.head?.map Prod.fst).getD limit
    if coord + d < 2 * full then
      ⟨start, (tableStep (coord + d).toNat 0 kept).getD start, (coord + d) / 2, 0, 0⟩
    else ⟨start, min p.top limit, full, 0, 0⟩
  | .linear v0 vt pr => linearPlan v0 vt pr
  | .sCurve v0 vt pr => linearPlan v0 vt pr
where
  /-- The plan of a LINEAR move; an S_CURVE move has the same (R113). -/
  linearPlan (v0 vt pr : Nat) : MovePlan :=
    let top := min vt limit
    let full := placeOf v0 vt pr top
    if base < full ∧ coord + base + d < 2 * full then
      ⟨min v0 top, min top (speedAtHalf v0 vt pr (coord + base + d)), (coord + base + d) / 2, 0, 0⟩
    else ⟨min v0 top, top, full, 0, 0⟩

/-! ### Moves -/

/-- Top speed an axis allows: the Z limit of R112, and the 1500 mm/s that no profile exceeds (R111). -/
def axisLimit : LinAxis → Nat
  | .X => 1500
  | .Y => 1500
  | .Z => 1000

/-- A limit with the speed cap taken in (R128). -/
def capped (cap : Bool) (v : Nat) : Nat := if cap then min v Config.speedCap else v

/-- Distance between two positions. -/
def distance (a b : Int) : Nat := (a - b).natAbs

/-- A profile move from rest under a top speed (R113, R114, R128): it starts at the place of its own start speed. -/
def newMove (cap : Bool) (axis : LinAxis) (p : Profile) (start target : Int) : Move :=
  let top := capped cap (axisLimit axis)
  let base := p.basePlace top
  { origin := start
    base := base
    coord := base
    target := target
    stopAt := none
    profile := p
    limit := axisLimit axis
    plan := profilePlan p base base (distance start target) top }

/-- A descent (R115): a profile move over what lies beyond the set-down distance, then a creep over it; a creep alone
where the distance is no longer than the set-down distance. -/
def newDescent (cap : Bool) (p : Profile) (speed sd : Nat) (start target : Int) : Move :=
  let top := capped cap (axisLimit .Z)
  let base := p.basePlace top
  let d := distance start target
  let creep := min sd d
  { origin := start
    base := base
    coord := base
    target := target
    stopAt := none
    profile := p
    limit := axisLimit .Z
    plan := { profilePlan p base base (d - creep) top with
      creepDist := creep
      creepSpeed := capped cap speed } }

/-- Where a move ends as things stand: at its target, or where a ramp to rest ends it. -/
def Move.goal (m : Move) : Int := m.stopAt.getD m.target

/-- What a move has left. -/
def Move.left (m : Move) (pos : Int) : Nat := distance m.goal pos

/-- What the profile part of a move has left (R115). -/
def Move.profileLeft (m : Move) (pos : Int) : Nat := m.left pos - m.plan.creepDist

/-- Where an axis stands on its ramp before any final ramp-down: it climbs, or after an activation of the cap comes
down, mm by mm from where its plan was made to the highest place of the plan (R113, R128). -/
def Move.place (m : Move) (pos : Int) : Int :=
  let done : Int := distance pos m.origin
  if m.coord ≤ m.plan.ramp then min (m.coord + done) m.plan.ramp else max (m.coord - done) m.plan.ramp

/-- Sum of the distances of the steps that lie wholly below a place on the ramp of a TABLE (R114). -/
def tableBelow : Nat → List (Nat × Nat) → Nat
  | _, [] => 0
  | u, (_, d) :: rest => if d ≤ u then d + tableBelow (u - d) rest else 0

/-- Distance needed to slow from the speed at a place on the ramp to the start speed of the move, whose place is `base`;
none from a speed below it (R113, R114, R125). -/
def Profile.stopFrom (p : Profile) (base place : Int) : Nat :=
  match p with
  | .table steps => tableBelow place.toNat steps
  | _ => (place - base).toNat

/-- The ramp-down of a moving axis from its present speed (R113, R125). -/
def Move.rampDown (m : Move) (pos : Int) : Nat := m.profile.stopFrom m.base (m.place pos)

/-- Is an axis in its final ramp-down (R113)? -/
def Move.final (m : Move) (pos : Int) : Bool := m.profileLeft pos ≤ m.rampDown pos

/-- The position `n` mm on from `pos` toward a target. -/
def toward (pos target : Int) (n : Nat) : Int :=
  if pos ≤ target then min target (pos + n) else max target (pos - n)

/-- Where a ramp to rest leaves an axis (R123, R125): in the creep where it is; in the final ramp-down at the end of
its profile move; otherwise at the end of its ramp-down. -/
def Move.rest (m : Move) (pos : Int) : Int :=
  if m.left pos ≤ m.plan.creepDist then pos
  else if m.final pos then toward pos m.goal (m.profileLeft pos)
  else toward pos m.goal (m.rampDown pos)

/-- A move cut short to end at its place of rest; it keeps its target (R129). -/
def Move.cut (m : Move) (rest : Int) : Move :=
  { m with stopAt := some rest, plan := { m.plan with creepDist := 0 } }

/-- The creep of a descent under the cap as it stands (R128); `speed` is the job's set-down speed. That a change of the cap
acts on the creep at once, with no ramp at the activation or at the clearing, is the model's: DESIGN CHOICE, log 51. -/
def Move.creepCap (m : Move) (cap : Bool) (speed : Nat) : Move :=
  if m.plan.creepDist = 0 then m else { m with plan := { m.plan with creepSpeed := capped cap speed } }

/-- A moving axis takes a change of the speed cap (R128): unless it is in its final ramp-down or its creep, its plan is
made anew from where it stands on its ramp. -/
def Move.recap (m : Move) (cap : Bool) (speed : Nat) (pos : Int) : Move :=
  if m.final pos then m.creepCap cap speed
  else
    let u := m.place pos
    ({ m with
      origin := pos
      coord := u
      plan := { profilePlan m.profile m.base u (m.profileLeft pos) (capped cap m.limit) with
        creepDist := m.plan.creepDist
        creepSpeed := m.plan.creepSpeed } } : Move).creepCap cap speed

end Sys2Proof.Machine
end

