-- ==== Sys2Proof/Machine/Walk.lean ====
section
/-! DEFINITION. The admission walk (R42 to R51) and the part of a commit that stays within a station's stack (R52, R53).
A walk reads the directory and one station's stack and answers a verdict. -/

namespace Sys2Proof.Machine

/-- What a walk reads about its candidate (R42); `mi` and `mj` are the cells of the footprint along i and j. -/
structure Load where
  i0 : Nat
  j0 : Nat
  mi : Nat
  mj : Nat
  wd : Nat
  hei : Nat
  smin : Nat
  deriving DecidableEq, Repr

/-- The candidate load of a placement; a walk's candidate always has a defined type (R21, log 34). -/
def Directory.placementLoad (d : Directory) (p : Placement) : Option Load :=
  (d.typeAt p.type).map (fun t => ⟨p.i0, p.j0, p.cx, p.cy, t.wd, t.hei, sminOf t.stab⟩)

/-- The candidate load of the sheet of the working layer (R42). -/
def sheetLoad (f : Footprint) : Load := ⟨0, 0, f.ni, f.nj, 3, 2, 85⟩

/-- The map holds the rows j one after another, each from i = 0 on. -/
def Footprint.at (f : Footprint) (i j : Nat) : Nat := j * f.ni + i

/-- A cell of the surface map; a cell outside the grid reads as bare deck (log 34). -/
def Stack.cell (k : Stack) (i j : Nat) : Cell := (k.map[k.limits.foot.at i j]?).getD ⟨0, .deck⟩

/-- The cells of a footprint, row by row. -/
def Stack.cellsOf (k : Stack) (i0 j0 mi mj : Nat) : List Cell :=
  (List.range mj).flatMap (fun dj => (List.range mi).map (fun di => k.cell (i0 + di) (j0 + dj)))

/-- The base: the largest height over the cells (R44). -/
def baseOf (cs : List Cell) : Nat := (cs.map Cell.h).foldl max 0

/-- The bearing cells: those no lower than the level tolerance below the base (R44). -/
def bearing (tol : Nat) (cs : List Cell) : List Cell := cs.filter (fun c => baseOf cs ≤ c.h + tol)

/-- Number of cells with a top reference. -/
def shareOf (r : Ref) (cs : List Cell) : Nat := cs.countP (fun c => c.ref == r)

/-- The support list: the distinct top references with their shares, DECK first, then by index (R48). -/
def supportsOf (entries : Nat) (cs : List Cell) : List (Ref × Nat) :=
  ((Ref.deck :: (List.range entries).map Ref.entry).map (fun r => (r, shareOf r cs))).filter (fun q => 0 < q.2)

/-- Pending loads by entry index. -/
abbrev Pending := List Nat

/-- A load is added to a support; load on DECK is not kept (R50). -/
def addLoad (p : Pending) (r : Ref) (n : Nat) : Pending :=
  match r with
  | .deck => p
  | .entry i => p.modify i (· + n)

/-- First-level loads: q × share for each support (R49). -/
def firstLevel (entries q : Nat) (sup : List (Ref × Nat)) : Pending :=
  sup.foldl (fun p s => addLoad p s.1 (q * s.2)) (List.replicate entries 0)

/-- Insert an index by descending base, and ascending index among equal bases (R50). -/
def insertBase (base : Nat → Nat) (i : Nat) : List Nat → List Nat
  | [] => [i]
  | j :: rest => if base j < base i then i :: j :: rest else j :: insertBase base i rest

/-- The order in which the walk-down takes the entries (R50). -/
def takeOrder (t : List Entry) : List Nat :=
  (List.range t.length).foldl (fun l i => insertBase (fun n => ((t[n]?).map Entry.base).getD 0) i l) []

/-- The load an entry hands to each of its supports, rounded up (R50). -/
def handOn (p : Pending) (e : Entry) (load : Nat) : Pending :=
  e.supports.foldl (fun q s => addLoad q s.1 (ceilDiv (load * s.2) e.k)) p

/-- The outcome of a walk-down: every entry passed, with the loads in the order taken, or one that fails (R50). -/
inductive WalkDown
  | passed (loads : List (Nat × Nat))
  | failed (entry shortfall : Nat)
  deriving DecidableEq, Repr

/-- The walk-down over the entries in the order given (R50). -/
def walkDown (t : List Entry) : List Nat → Pending → List (Nat × Nat) → WalkDown
  | [], _, acc => .passed acc.reverse
  | i :: rest, p, acc =>
    let load := p.getD i 0
    if load = 0 then walkDown t rest p acc
    else
      match t[i]? with
      | none => walkDown t rest p acc
      | some e =>
        if e.allow < load then .failed i (load - e.allow)
        else walkDown t rest (handOn p e load) ((i, load) :: acc)

/-- The admission walk of a candidate on a stack, stage by stage (R43 to R51). `reserved` is the reserved weight of the
station (R47). -/
def Stack.walk (k : Stack) (c : Load) (reserved : Nat) : Verdict :=
  if Config.stackMax ≤ k.table.length then .tableFull
  else
    let cells := k.cellsOf c.i0 c.j0 c.mi c.mj
    let b := baseOf cells
    let bear := bearing k.limits.tol cells
    let n := bear.length
    if 100 * n < c.smin * (c.mi * c.mj) then .overhang
    else if k.limits.hMax < b + c.hei then .height
    else if k.limits.gMax < k.gross + c.wd + reserved then .gross
    else
      let sup := supportsOf k.table.length bear
      if Config.supportMax < sup.length then .spread
      else
        let q := ceilDiv c.wd n
        match walkDown k.table (takeOrder k.table) (firstLevel k.table.length q sup) [] with
        | .failed i short => .crush i short
        | .passed loads => .admitted ⟨loads, b, n, sup, c.wd⟩

/-! ### Commit -/

/-- The allowances after a reservation's loads (step 1 of R52). -/
def lowerAll (t : List Entry) (loads : List (Nat × Nat)) : List Entry :=
  loads.foldl (fun t q => t.modify q.1 (fun e => { e with allow := e.allow - q.2 })) t

/-- The map with every cell of a footprint set (step 3 of R52). -/
def Footprint.paint (f : Footprint) (m : List Cell) (i0 j0 cx cy : Nat) (c : Cell) : List Cell :=
  m.zipIdx.map (fun q =>
    let i := q.2 % f.ni
    let j := q.2 / f.ni
    if i0 ≤ i ∧ i < i0 + cx ∧ j0 ≤ j ∧ j < j0 + cy then c else q.1)

/-- Steps 1 to 4 of a commit (R52, R53): allowances, entry, map and highest top, gross weight. -/
def Stack.commit (k : Stack) (r : WalkResult) (e : Entry) : Stack :=
  { k with
    table := lowerAll k.table r.loads ++ [e]
    map := k.limits.foot.paint k.map e.i0 e.j0 e.cx e.cy ⟨e.top, .entry k.table.length⟩
    highest := max k.highest e.top
    gross := k.gross + e.weight }

/-- The committed weight: the measured weight, at least 1 and at most the reservation's design weight (R52). -/
def committedWeight (measured wd : Nat) : Nat := min (max measured 1) wd

/-- The stack entry of a case (R52). -/
def caseEntry (p : Placement) (t : CaseType) (r : WalkResult) (measured : Nat) : Entry where
  kind := .case p.id p.type
  i0 := p.i0
  j0 := p.j0
  cx := p.cx
  cy := p.cy
  base := r.base
  top := r.base + t.hei
  weight := committedWeight measured r.wd
  rating := t.rc
  allow := t.rc
  k := r.k
  supports := r.supports

/-- The stack entry of a sheet (R53). -/
def sheetEntry (f : Footprint) (r : WalkResult) : Entry where
  kind := .sheet
  i0 := 0
  j0 := 0
  cx := f.ni
  cy := f.nj
  base := r.base
  top := r.base + 2
  weight := 3
  rating := 4000
  allow := 4000
  k := r.k
  supports := r.supports

end Sys2Proof.Machine
end

