-- ==== Sys2Proof/Machine/Stations.lean ====
section
/-! DEFINITION. Shared operations on a station: the schedule (R163, R164), the stall test (R105), sweeps (R57 to R61),
changes of station state (R156), the end of the queue (R29), the stale scan (R106), removal of layers (R27, R28) and
the return of a placement (R24). -/

namespace Sys2Proof.Machine

/-! ### Schedule -/

/-- The estimate E of a station in ds (R163). -/
def Plan.estimate (p : Plan) (d : Directory) (sheetCost : Nat) : Nat :=
  ((p.placements.filter Placement.live).map (fun q => (d.classAt (d.effectiveClass q)).cost)).sum
    + sheetCost * p.queue.countP Layer.sheetDue

/-- D in ds; none while the departure is UNSET (R163). -/
def Departure.ds : Departure → Option Nat
  | .unset => none
  | .counting n => some (10 * n)
  | .passed => some 0

/-- Schedule status (R163). -/
def schedStatus (building : Bool) (e margin : Nat) (d : Option Nat) : Sched :=
  match d with
  | none => .none
  | some d =>
    if !building then .none
    else if e + margin ≤ d then .onTime
    else if e ≤ d then .atRisk
    else .late

/-- A station's E, slack and status are recomputed, with a SCHEDULE report on a change of status (R164). -/
def State.reschedule (s : State) (st : StationId) : State :=
  let n := s.stn.get st
  let e := (s.plan.get st).estimate s.dir n.sheetCost
  let d := n.departure.ds
  let slack := d.map (fun d => (d : Int) - (e : Int))
  let status := schedStatus (n.mode == .plain .building) e n.margin d
  let s := s.setStn st { n with est := e, slack := slack, status := status }
  if status = n.status then s else s.report (.schedule st n.status status e d slack)

/-! ### Stall -/

/-- Is a verdict a refusing one (R17, R51)? -/
def Verdict.refusing : Verdict → Bool
  | .unswept => false
  | .admitted _ => false
  | _ => true

/-- Is a verdict ADMIT? -/
def Verdict.admits : Verdict → Bool
  | .admitted _ => true
  | _ => false

/-- The first candidate in plan order that holds a refusing verdict (R105). -/
def State.firstRefusing (s : State) (st : StationId) : Option (Cand × Verdict) :=
  let p := s.plan.get st
  let k := s.stack.get st
  if p.sheetDue then (if k.sheetVerdict.refusing then some (.sheet, k.sheetVerdict) else none)
  else (p.eligiblePending.find? (fun q => q.verdict.refusing)).map (fun q => (.placement q.id, q.verdict))

/-- Is a station stalled (R105)? A refusing verdict must stand (log 23). -/
def State.stalled (s : State) (st : StationId) : Bool :=
  (s.stn.get st).mode == .plain .building
    && (s.stack.get st).sweep.state == .idle
    && !s.boundTo st
    && ((s.plan.get st).sheetDue || (s.plan.get st).eligiblePending.all (fun q => !q.verdict.admits))
    && (s.firstRefusing st).isSome

/-- The stall test (R105). -/
def State.stallTest (s : State) (st : StationId) : State :=
  if (s.stn.get st).mode = .plain .building ∧ (s.stack.get st).sweep.state ≠ .idle then s
  else if s.stalled st then
    if s.stall.get st then s
    else
      let s := s.setStall st true
      match s.firstRefusing st, (s.plan.get st).queue with
      | some (c, v), w :: _ => s.report (.stall st w.tag c v (s.plan.get st).eligiblePending.length)
      | _, _ => s
  else s.setStall st false

/-! ### Changes to placements and verdicts -/

/-- A change made to every placement of a plan. -/
def Plan.mapPlacements (p : Plan) (f : Placement → Placement) : Plan :=
  { p with queue := p.queue.map (fun l => { l with placements := l.placements.map f }) }

/-- A change made to the placement with an id. -/
def Plan.modify (p : Plan) (id : Nat) (f : Placement → Placement) : Plan :=
  p.mapPlacements (fun q => if q.id = id then f q else q)

def Stack.setSheetVerdict (k : Stack) (v : Verdict) : Stack := { k with sheetVerdict := v }

/-- A cached verdict is written (R56). -/
def State.setVerdict (s : State) (st : StationId) (c : Cand) (v : Verdict) : State :=
  match c with
  | .sheet => s.setStack st ((s.stack.get st).setSheetVerdict v)
  | .placement id => s.setPlan st ((s.plan.get st).modify id (fun q => { q with verdict := v }))

def State.setSweep (s : State) (st : StationId) (w : Sweep) : State :=
  s.setStack st { s.stack.get st with sweep := w }

/-! ### Sweeps -/

/-- A sweep ends (step 3 of R59). -/
def State.sweepEnd (s : State) (st : StationId) : State :=
  ((s.setSweep st ⟨.idle, []⟩).dispatchEvent).stallTest st

/-- A sweep starts: its list is taken and every verdict on it becomes UNSWEPT; an empty list ends it at once
(R59, R58). -/
def State.startSweep (s : State) (st : StationId) : State :=
  let cs := (s.plan.get st).candidates
  let s := cs.foldl (fun s c => s.setVerdict st c .unswept) s
  let s := s.setSweep st ⟨.running, cs⟩
  if cs.isEmpty then s.sweepEnd st else s

/-- A sweep trigger (R58, R60, R61): it waits while a reservation is outstanding, and otherwise starts the sweep, anew
when one is running (log 13). -/
def State.sweepTrigger (s : State) (st : StationId) : State :=
  if (s.outstanding st).isSome then s.setSweep st ⟨.waiting, []⟩ else s.startSweep st

/-- A reservation has ended without commit: a station in WAITING starts its sweep (R61). -/
def State.sweepResume (s : State) (st : StationId) : State :=
  if (s.stack.get st).sweep.state = .waiting then s.startSweep st else s

/-- The Stack Model's notice of a voided placement: one that waits in a running sweep's list is struck from it, the one
whose walk runs stays until its walk ends (R60). -/
def State.noteVoid (s : State) (st : StationId) (id : Nat) : State :=
  match (s.stack.get st).sweep with
  | ⟨.running, c :: rest⟩ => s.setSweep st ⟨.running, c :: rest.filter (fun x => x != .placement id)⟩
  | _ => s

/-- The reserved weight of a station (R47). -/
def State.reservedWeight (s : State) (st : StationId) : Nat := ((s.outstanding st).map WalkResult.wd).getD 0

/-- The verdict of the walk of a candidate; none where its verdict is discarded, because the candidate is no longer
PENDING or its sheet no longer due (R60). -/
def State.walkOf (s : State) (st : StationId) (c : Cand) : Option Verdict :=
  let k := s.stack.get st
  let p := s.plan.get st
  match c with
  | .sheet =>
    if p.sheetDue then some (k.walk (sheetLoad k.limits.foot) (s.reservedWeight st)) else none
  | .placement id =>
    match p.find? id with
    | none => none
    | some q =>
      if q.state = .pending then (s.dir.placementLoad q).map (fun c => k.walk c (s.reservedWeight st))
      else none

/-- A walk ends: its verdict is cached or discarded, and the next walk starts or the sweep ends (R59, R60). -/
def State.walkEnds (s : State) (st : StationId) : State :=
  match (s.stack.get st).sweep with
  | ⟨.running, c :: rest⟩ =>
    let s :=
      match s.walkOf st c with
      | some v => s.setVerdict st c v
      | none => s
    if rest.isEmpty then s.sweepEnd st else s.setSweep st ⟨.running, rest⟩
  | _ => s

/-! ### Station states -/

/-- A station changes state: STATION report, schedule, dispatch event and stall test (R156). -/
def State.stationSet (s : State) (st : StationId) (m : Mode) (early : Bool := false) : State :=
  let n := s.stn.get st
  if n.mode = m then s
  else
    let s := s.setStn st { n with mode := m }
    let s := s.report (.station st n.mode m early)
    ((s.reschedule st).dispatchEvent).stallTest st

/-- The end-of-queue event: a BUILDING station with an empty queue and no job bound to it becomes COMPLETE or IDLE
(R29). -/
def State.endOfQueue (s : State) (st : StationId) : State :=
  let p := s.plan.get st
  if (s.stn.get st).mode = .plain .building ∧ p.queue = [] ∧ s.boundTo st = false then
    s.stationSet st (.plain (if p.closed then .complete else .idle))
  else s

/-- A station returns to BUILDING from HELD or EXCHANGE (R156, R58, R29). -/
def State.returnToBuilding (s : State) (st : StationId) : State :=
  ((s.stationSet st (.plain .building)).sweepTrigger st).endOfQueue st

/-! ### Stale scan -/

/-- What reports name of a record (R81, R82, R83). -/
def ArrivalRec.ref (r : ArrivalRec) : RecRef := ⟨r.lane, r.seq, r.type⟩

/-- The stale scan of one slot (R106), one a job is bound to included (log 26). The SLOT report carries the state HELD beside
what R106 names: DESIGN CHOICE, log 53. -/
def State.staleScanSlot (s : State) (i : SlotId) : State :=
  match s.slots[i] with
  | .held r t mark =>
    if s.staleRec r then
      if mark then s
      else ((s.setSlot i (.held r t true)).report (.slot i .held .stale (some r.ref))).dispatchEvent
    else s.setSlot i (.held r t false)
  | _ => s

/-- The stale scan (R106), of the slots 0 to 7 in turn: DESIGN CHOICE, log 7. -/
def State.staleScan (s : State) : State := allSlots.foldl State.staleScanSlot s

/-! ### Layers -/

/-- Is every placement of a layer PLACED or VOID? -/
def Layer.over (l : Layer) : Bool := l.placements.all (fun p => !p.live)

/-- Is every placement of a layer VOID? -/
def Layer.allVoid (l : Layer) : Bool := l.placements.all (fun p => p.state == .void)

/-- The sheet of a layer whose placements are all VOID is no longer wanted once no SHEET job exists for it (R27). -/
def Layer.settle (l : Layer) : Layer :=
  if l.sheetDue && !l.sheetJob && l.allVoid then { l with sheetDue := false } else l

/-- Is a layer complete (R27)? -/
def Layer.complete (l : Layer) : Bool := l.over && !l.sheetDue

/-- The layers that stay, and the complete ones with the queue position each has when it is removed (R27). -/
def splitQueue : Nat → List Layer → List Layer × List (Nat × Layer)
  | _, [] => ([], [])
  | pos, l :: rest =>
    if l.settle.complete then
      let r := splitQueue pos rest
      (r.1, (pos, l.settle) :: r.2)
    else
      let r := splitQueue (pos + 1) rest
      (l.settle :: r.1, r.2)

/-- Placements of a layer in a state. -/
def Layer.count (l : Layer) (x : PState) : Nat := l.placements.countP (fun p => p.state == x)

/-- LAYER_DONE of a removed layer whose report flag is set (R28). -/
def State.layerDone (s : State) (st : StationId) (l : Layer) : State :=
  if l.report then s.report (.layerDone st l.tag (l.count .placed) (l.count .void) l.sheetDone) else s

/-- The layers of a station are examined for completion and the complete ones are removed (R27): LAYER_DONE, the
schedule, the sheet verdict at a change of the working layer (R56), the stale scan, the eligibility change (R26) and
the end of the queue (R29). Layers removed together are reported in queue order: DESIGN CHOICE, log 7. Where the sheet-due
state of an all-VOID layer is cleared and the layer removed in one event (a WITHDRAW of its last PENDING id, the end of its SHEET
job), the schedule of the clearing (R164) is not taken apart from that of the removal: it is computed once, after LAYER_DONE:
DESIGN CHOICE, log 7. Layers removed together share one schedule: DESIGN CHOICE, log 45. -/
def State.examineLayers (s : State) (st : StationId) : State :=
  let p := s.plan.get st
  let r := splitQueue 0 p.queue
  if r.2.isEmpty then s
  else
    let s := s.setPlan st { p with queue := r.1 }
    let s := if r.2.any (fun q => q.1 == 0) then s.setStack st ((s.stack.get st).setSheetVerdict .unswept) else s
    let s := r.2.foldl (fun s q => s.layerDone st q.2) s
    let s := (s.reschedule st).staleScan
    let s := if r.2.any (fun q => q.1 ≤ 1) then s.sweepTrigger st else s
    s.endOfQueue st

/-- A placement's state is changed, and the change is handed to the schedule and the stale scan (R23, R164, R106). That the scan
runs with the change, behind its SCHEDULE report and ahead of the removal of a layer it completes: DESIGN CHOICE, log 55. -/
def State.setPState (s : State) (st : StationId) (id : Nat) (x : PState) : State :=
  ((s.setPlan st ((s.plan.get st).modify id (fun q => { q with state := x }))).reschedule st).staleScan

/-- A BOUND placement is handed back: PENDING, or VOID at once where its station's plan was abandoned since the binding; nothing
where its record is gone (R24). Each of the two changes has its own stale scan, ahead of the removal of the layer: DESIGN
CHOICE, log 55. -/
def State.returnPlacement (s : State) (st : StationId) (id : Nat) (abandoned : Bool) : State :=
  match (s.plan.get st).find? id with
  | some q =>
    if q.state = .bound then
      if abandoned then
        (((s.setPState st id .pending).setPState st id .void).noteVoid st id).examineLayers st
      else s.setPState st id .pending
    else s
  | none => s

/-- No SHEET job exists any longer for a station's layers; a layer this completes is removed (R27, log 16). -/
def State.sheetJobOver (s : State) (st : StationId) : State :=
  let p := s.plan.get st
  (s.setPlan st { p with queue := p.queue.map (fun l => { l with sheetJob := false }) }).examineLayers st

end Sys2Proof.Machine
end

