-- ==== Sys2Proof/Machine/Gantry.lean ====
section
/-! DEFINITION. Shared operations of the Gantry Controller below the jobs: reports (R130), places and heights (R119,
R120), the halt of its axes and its faults (R118, R124). -/

namespace Sys2Proof.Machine

/-! ### Reports and states -/

def Job.ref (j : Job) : JobRef := ⟨j.kind, j.phase, j.source, j.dest⟩

def Gantry.counters (g : Gantry) : PerAxis (Option Int) := ⟨g.axes.x.counter, g.axes.y.counter, g.axes.z.counter⟩

/-- A GANTRY report of the state as it stands (R130). -/
def State.gantryReport (s : State) (start : Option StartInfo) : State :=
  s.report (.gantry s.gantry.state s.gantry.counters s.gantry.t.pos s.capInForce (s.job.map Job.ref) start)

/-- The gantry changes state: a GANTRY report, and a dispatch event on entry to IDLE (R130, R116, R91). -/
def State.gantryTo (s : State) (g : GState) : State :=
  if s.gantry.state = g then s
  else
    let s := (s.setGantry { s.gantry with state := g }).gantryReport none
    if g = .idle then s.dispatchEvent else s

/-- The job's phase, mirrored from the gantry (R121). -/
def State.setPhase (s : State) (p : Phase) : State := s.setJob (s.job.map (fun j => { j with phase := p }))

/-- A change to the job record, if there is one. -/
def State.modifyJob (s : State) (f : Job → Job) : State := s.setJob (s.job.map f)

def State.setMotion (s : State) (m : Motion) : State := s.setGantry { s.gantry with motion := m }

def Gantry.setAxis (g : Gantry) (a : LinAxis) (v : LinState) : Gantry := { g with axes := g.axes.set a v }

/-- A change made to all three linear axes. -/
def PerAxis.map {α β : Type} (f : α → β) (p : PerAxis α) : PerAxis β := ⟨f p.x, f p.y, f p.z⟩

/-! ### Places and heights -/

/-- Height of the carried item at its type's height: Hc, 2 for a sheet, 0 with nothing carried (R120). -/
def State.carriedHeight (s : State) : Nat :=
  match s.job.bind Job.carried with
  | some (.case r) => (((r.type.bind s.dir.typeAt).map CaseType.hei)).getD 0
  | some .sheet => 2
  | none => 0

/-- The travel height (R120). -/
def State.travelHeight (s : State) : Nat :=
  min 3200 (max (max s.stack.a.highest s.stack.b.highest) s.gantry.geometry.fixture + s.gantry.clearance
    + s.carriedHeight)

/-- The travel height is computed (R120, R132). -/
def State.computeTravel (s : State) : State := s.setGantry { s.gantry with lastTravel := s.travelHeight }

/-- Measured length and height of a record; an ACCEPTED record has both (R67, log 34). -/
def ArrivalRec.mlen (r : ArrivalRec) : Nat := (r.meas.map Measured.len).getD 0
def ArrivalRec.mhei (r : ArrivalRec) : Nat := (r.meas.map Measured.hei).getD 0

/-- Measured height of the job's case; 2 for a carried sheet (R119). -/
def State.jobHeight (s : State) (j : Job) : Nat :=
  match j.carried with
  | some .sheet => 2
  | _ => ((s.jobCase j).map ArrivalRec.mhei).getD 0

/-- X and Y of the pad at the job's source (R119). -/
def State.sourceXY (s : State) (j : Job) : Int × Int :=
  let g := s.gantry.geometry
  match j.source with
  | .lane l =>
    let p := g.pick.get l
    ((p.x : Int) - ((((s.jobCase j).map ArrivalRec.mlen).getD 0 / 2 : Nat) : Int), p.y)
  | .slot i => (g.slots[i].x, g.slots[i].y)
  | .magazine => (g.magazine.x, g.magazine.y)

/-- Pick Z of the job's source (R119). -/
def State.sourceZ (s : State) (j : Job) : Int :=
  let g := s.gantry.geometry
  match j.source with
  | .lane l => (g.pick.get l).h + s.jobHeight j
  | .slot i => g.slots[i].h + s.jobHeight j
  | .magazine => g.magazine.h + 2 * s.magazine

/-- X and Y of the pad at a destination (R119). -/
def State.destXY (s : State) (j : Job) (d : Dest) : Int × Int :=
  let g := s.gantry.geometry
  match d with
  | .placement st id =>
    match (s.plan.get st).find? id with
    | some p => (g.originX.get st + 50 * p.i0 + 25 * p.cx, g.originY.get st + 50 * p.j0 + 25 * p.cy)
    | none => (g.originX.get st, g.originY.get st)
  | .sheet st =>
    match (s.stack.get st).limits.foot with
    | .full => (g.originX.get st + 600, g.originY.get st + 400)
    | .half => (g.originX.get st + 400, g.originY.get st + 300)
  | .slot i => (g.slots[i].x, g.slots[i].y)
  | .spill => (g.spill.x + 400 * (j.spillK.getD 0), g.spill.y)

/-- Base of a job's reservation. -/
def Job.base (j : Job) : Nat := (j.reservation.map WalkResult.base).getD 0

/-- Set-down Z at a destination (R119). -/
def State.destZ (s : State) (j : Job) (d : Dest) : Int :=
  let g := s.gantry.geometry
  match d with
  | .placement _ _ => j.base + s.jobHeight j
  | .sheet _ => j.base + 2
  | .slot i => g.slots[i].h + s.jobHeight j
  | .spill => g.spill.h + s.jobHeight j

/-- The profile a resolution names, as its slot stands when a move starts (R111, R112). -/
def Gantry.profileOf (g : Gantry) : Resolved → Profile
  | .slot n => ((g.profiles[n]?).join).getD .fallback
  | .fallback => .fallback

/-! ### Stops and faults -/

/-- Every axis halts and its move is given up (R124). A wrist halted in a turn stands at neither position (log 37). -/
def Gantry.halt (g : Gantry) : Gantry :=
  { g with
    axes := g.axes.map (fun a => { a with move := none })
    t := { g.t with pos := if g.t.move.isSome then none else g.t.pos, move := none }
    motion := .none }

/-- Every homed mark is cleared; counters stay (R117, R118). -/
def Gantry.clearMarks (g : Gantry) : Gantry :=
  { g with axes := g.axes.map (fun a => { a with homed := false }), t := { g.t with homed := false } }

/-- Homing is interrupted: every axis stops and the gantry returns to the state it had before HOME (R118, R124). -/
def State.homingStop (s : State) : State :=
  let kept := s.gantry.kept
  let s := s.setGantry { s.gantry.halt.clearMarks with kept := none }
  s.gantryTo (match kept with | none => .unhomed | some c => .faulted c)

/-- Homing fails with a cause (R118). -/
def State.homingFault (s : State) (c : FaultCause) : State :=
  (s.setGantry { s.gantry.halt.clearMarks with kept := none }).gantryTo (.faulted c)

/-- A fault halts every axis and is held (R124, R127). Changes held for STOPPED stay stored with the job (R123). -/
def State.faultStop (s : State) (c : FaultCause) : State :=
  (s.setGantry { s.gantry.halt with heldChange := false }).gantryTo (.faulted c)

end Sys2Proof.Machine
end

