-- ==== Sys2Proof/Machine/Infeed.lean ====
section
/-! DEFINITION. Shared operations of the Infeed Unit: releases (R75), the return of a lane to RUN (R73), the front case
(R76), the ungrippable notices (R79, R82) and the job end at the source (R76, R82). -/

namespace Sys2Proof.Machine

/-- Disposition of a record. -/
def ArrivalRec.runOff (r : ArrivalRec) (why : Reason) : ArrivalRec := { r with disp := .runOff why }

/-- The head record of a lane with its disposition set (R75, R77). -/
def Lane.headRunOff (n : Lane) (why : Reason) : Lane :=
  match n.fifo with
  | [] => n
  | r :: rest => { n with fifo := r.runOff why :: rest }

/-- A release starts (R75); the elapsed wait is 0 outside FRONT (R78). -/
def State.startRelease (s : State) (l : LaneId) (hasRecord : Bool) (why : Reason) : State :=
  let n := s.lanes.get l
  let n := if hasRecord then n.headRunOff why else n
  s.setLane l { n with pick := .releasing hasRecord why, wait := 0 }

/-- A lane in PURGE is tested for its return to RUN (R73). The LANE report of the return carries the lane, with cause and count
absent: DESIGN CHOICE, log 53. -/
def State.laneTest (s : State) (l : LaneId) : State :=
  let n := s.lanes.get l
  if n.purging && n.fifo.isEmpty && s.inputs.laneEmpty.get l && !n.endGate then
    (s.setLane l { n with purging := false }).report (.laneRun l)
  else s

/-- The reason a purge-marked record runs off with (R73). -/
def ArrivalRec.purgeReason (r : ArrivalRec) : Reason :=
  match r.disp with
  | .accepted => .purge
  | .runOff why => why

/-- A case reaches an EMPTY pick point (R74); the front case is handed to the Dispatcher (R76). -/
def State.caseArrives (s : State) (l : LaneId) : State :=
  let n := s.lanes.get l
  match n.fifo with
  | [] => s.startRelease l false (if n.purging then .purge else .untracked)
  | r :: _ =>
    if r.purge then s.startRelease l true r.purgeReason
    else
      match r.disp with
      | .runOff why => s.startRelease l true why
      | .accepted => (s.setLane l { n with pick := .front, wait := 0 }).dispatchEvent

/-- The head record leaves the FIFO. -/
def Lane.pop (n : Lane) : Lane := { n with fifo := n.fifo.drop 1 }

/-- An ungrippable notice for a lane's front case (R79). -/
def State.ungrippableLane (s : State) (l : LaneId) : State :=
  if (s.lanes.get l).pick = .front then s.startRelease l true .ungrippable else s

/-- An ungrippable notice for a buffered case (R82). -/
def State.ungrippableSlot (s : State) (i : SlotId) : State :=
  match s.slots[i] with
  | .held r _ _ => ((s.setSlot i .blocked).report (.slot i .blocked .ungrippable (some r.ref))).slotEvent
  | _ => s

/-- The job end at its source: a pick point still PICKING starts a release without a record (R76), and a slot's lifting
mark ends, with BLOCKED where presence still shows (R82), whose SLOT report names no record: DESIGN CHOICE, log 53. -/
def State.sourceEnd (s : State) (src : Source) : State :=
  match src with
  | .magazine => s
  | .lane l =>
    let n := s.lanes.get l
    if n.pick = .picking then s.startRelease l false (if n.purging then .purge else .untracked) else s
  | .slot i =>
    if s.slots[i] = .empty true then
      if s.inputs.slotPresence[i] then
        ((s.setSlot i .blocked).report (.slot i .blocked .presence none)).slotEvent
      else s.setSlot i (.empty false)
    else s

/-- An unbound front case is handed back at a cancel: its wait counts on and a front-case event is handed on, or in
PURGE its release starts (R76, R99). -/
def State.sourceBack (s : State) (src : Source) : State :=
  match src with
  | .lane l =>
    let n := s.lanes.get l
    if n.pick = .front then
      if n.purging then s.startRelease l true .purge else s.dispatchEvent
    else s
  | _ => s

end Sys2Proof.Machine
end

