-- ==== Sys2Proof/Machine/Jobs.lean ====
section
/-! DEFINITION. Shared operations on the job: its end (R98, R100, R29), the drop of its reservation (R54, R61), the
commit (R52, R53) and the effect of a release completion (R98), and the grip-fault counter, carry loss, grip and
release of the Gripper Unit that do not start a phase (R138 to R147). -/

namespace Sys2Proof.Machine

/-! ### Job end -/

/-- The job's reservation is dropped, and a station left WAITING starts its sweep (R54, R61). -/
def State.dropReservation (s : State) : State :=
  match s.job with
  | none => s
  | some j =>
    let st := j.station
    let s := s.setJob (some { j with reservation := none })
    match st with
    | none => s
    | some st => s.sweepResume st

/-- The placement of a PLACE job is handed back (R24). -/
def State.handBack (s : State) : State :=
  match s.job with
  | none => s
  | some j =>
    match j.kind, j.dest with
    | .place, some (.placement st id) => s.returnPlacement st id j.abandoned
    | _, _ => s

/-- A cell that is FINISHING becomes OFF at the end of the job (R153). -/
def State.finishCell (s : State) : State :=
  if s.cell.run = .finishing ∧ s.job = none then s.setCellRun .off else s

/-- The sheet a job gripped and did not commit is taken off the magazine count at the job's end (R90). -/
def State.sheetGone (s : State) (j : Job) : State :=
  if j.source = .magazine ∧ j.gripped = true ∧ j.committed = false then s.setMagazine (s.magazine - 1) else s

/-- A placement that is still BOUND is handed back and the job record is removed (R89), and the job end is handed to the
Plan Store, the Infeed Unit, the Cell Guard and the Dispatcher (R98, R29, R76, R82, R105, R153, R91). -/
def State.jobEnd (s : State) : State :=
  match s.job with
  | none => s
  | some j =>
    let s := (s.handBack.setJob none).sheetGone j
    let s :=
      match j.kind, j.dest with
      | .sheet, some (.sheet st) => s.sheetJobOver st
      | _, _ => s
    let s :=
      match j.station with
      | some st => s.endOfQueue st
      | none => s
    let s := s.sourceEnd j.source
    let s :=
      match j.station with
      | some st => s.stallTest st
      | none => s
    s.finishCell.dispatchEvent

/-! ### Grip-fault counter -/

/-- Set of zones that are FAULTED. -/
def Gripper.faultedSet (g : Gripper) : ZoneSet := PerZone.tab (fun z => (g.zones.get z).faulted)

/-- A GRIP report (R140, R141, R144, R145, R147). -/
def State.gripReport (s : State) (e : GripEvent) (zone : Option Zone) (job : Option JobRef)
    (xy : Option Int × Option Int) : State :=
  let g := s.gripper
  s.report (.grip e zone s.inputs.reading g.faultedSet g.used g.counter job xy.1 xy.2)

/-- The counter grows by one and the gripper becomes IDLE, or LOCKED_OUT at 6; the decay timer starts from zero or
stops (R147). -/
def Gripper.growth (g : Gripper) : Gripper :=
  let n := min (g.counter + 1) Config.lockoutAt
  if n = Config.lockoutAt then { g with counter := n, state := .lockedOut, decay := none }
  else { g with counter := n, state := .idle, decay := some 0 }

/-- The LOCKED_OUT report that follows the failure or loss (R147). It shows the used zones of the sequence that failed,
which are given up after it: DESIGN CHOICE, log 40. -/
def State.lockoutReport (s : State) : State :=
  if s.gripper.state = .lockedOut then s.gripReport .lockedOut none none (none, none) else s

/-- A change of the used zones' valves. -/
def Gripper.mapUsed (g : Gripper) (f : ZoneRec → ZoneRec) : Gripper :=
  { g with zones := PerZone.tab (fun z => if g.used.get z then f (g.zones.get z) else g.zones.get z) }

/-- The vacuum valve of a zone in a mode; a FAULTED zone's valves stay OFF (R133). -/
def ZoneRec.setValve (v : Valve) (z : ZoneRec) : ZoneRec := if z.faulted then z else { z with valve := v }

/-- The blow-off valve of a zone; a FAULTED zone's valves stay OFF (R133). -/
def ZoneRec.setBlow (b : Bool) (z : ZoneRec) : ZoneRec := if z.faulted then z else { z with blow := b }

/-- The grip ends or the item is given up: the used zones are no longer kept (R137). -/
def State.clearUsed (s : State) : State := s.setGripper { s.gripper with used := noZones }

/-! ### Carry loss -/

/-- The Dispatcher ends the job of a drop (R100). -/
def State.dropJob (s : State) : State := s.handBack.dropReservation.jobEnd

/-- GRIP_LOST (R141): valves OFF, counter, drop mark, the fault DROP, the reports, and the end of the job with its item
DROPPED. -/
def State.carryLoss (s : State) (e : GripEvent) (z : Zone) : State :=
  let job := s.job.map Job.ref
  let g := (s.gripper.mapUsed (ZoneRec.setValve .off)).growth
  let s := s.setGripper { g with dropMark := true }
  let s := s.gripReport e (some z) job (s.gantry.axes.x.counter, s.gantry.axes.y.counter)
  let s := s.lockoutReport.clearUsed
  (s.faultStop .drop).dropJob

/-- The watch of a carry tests the used zones (R141). GRIP_LOST names the zone of `lossZone?`, and a reading below Lo
ahead of a FAULTED state: DESIGN CHOICE, log 39. -/
def State.carryTest (s : State) : State :=
  if s.watched then
    match s.lossZone? with
    | none => s
    | some z => s.carryLoss (if s.inputs.reading.get z < s.gripper.set.lo then .lostReading else .lostFault) z
  else s

/-! ### Grip -/

/-- The end of a grip in GRIP_FAIL, without the motion that follows it (R140). -/
def State.gripFailed (s : State) (e : GripEvent) : State :=
  let g := { (s.gripper.mapUsed (ZoneRec.setValve .off)).growth with timer := none }
  let s := (s.setGripper g).gripReport e none (s.job.map Job.ref) (none, none)
  (s.lockoutReport.clearUsed).modifyJob (fun j => { j with gripFailed := true })

/-- The grip start (R138): used zones, and GRIPPING with try 1 where they are enough; false where they are not. Zones that
read G or above already are not tested here, and the grip waits for the next reading: DESIGN CHOICE, log 41. -/
def State.gripBegin (s : State) (j : Job) : State × Bool :=
  let needs := s.gripNeeds (s.sourceCase j)
  let used := s.gripper.usable needs.1
  let g := { s.gripper with used := used }
  if zoneCount used < needs.2 then (s.setGripper g, false)
  else
    (s.setGripper { g.mapUsed (ZoneRec.setValve .full) with
      state := .gripping, attempt := 1, timer := some g.set.gripMs }, true)

/-- Hold duty of the job's item: that of its case type, 64 for a sheet (R134). -/
def State.holdDuty (s : State) (j : Job) : Nat :=
  match j.source with
  | .magazine => 64
  | _ => ((((s.sourceCase j).bind ArrivalRec.type).bind s.dir.typeAt).map CaseType.duty).getD 0

/-- The job takes its item at GRIPPED (R139, R76, R82). -/
def State.takeItem (s : State) (j : Job) : State :=
  let item : Option Item :=
    match j.source with
    | .magazine => some .sheet
    | _ => (s.sourceCase j).map Item.case
  let s := s.setJob (some { j with gripped := true, carried := item })
  match j.source with
  | .magazine => s
  | .lane l =>
    let n := (s.lanes.get l).pop
    (s.setLane l { n with pick := .picking, wait := 0 }).laneTest l
  | .slot i => (s.setSlot i (.empty true)).slotEvent

/-- GRIPPED, without the motion that follows it (R139). -/
def State.gripDone (s : State) (j : Job) : State :=
  let g := s.gripper.mapUsed (ZoneRec.setValve (.hold 0))
  (s.setGripper { g with state := .holding, timer := none, duty := s.holdDuty j }).takeItem j

/-- The grip is abandoned at a cancel (R138). -/
def State.gripAbandon (s : State) : State :=
  if s.gripper.state = .gripping then
    (s.setGripper { s.gripper.mapUsed (ZoneRec.setValve .off) with state := .idle, timer := none }).clearUsed
  else s

/-! ### Release -/

/-- The release start, or blow 2: vacuum OFF, blow-off ON, release timer (R143). -/
def Gripper.blow (g : Gripper) (n : Nat) : Gripper :=
  { (g.mapUsed (ZoneRec.setValve .off)).mapUsed (ZoneRec.setBlow true) with
    state := .releasing, attempt := n, timer := some g.set.releaseMs }

/-- Every used zone reads at most the release level (R143). -/
def State.letGo (s : State) : Bool :=
  allZones.all (fun z => !s.gripper.used.get z || s.inputs.reading.get z ≤ Config.releaseLevel)

/-- The commit of a case (R52): stack, PLACED and its report, the layers, and the sweep. A SCHEDULE report of the commit
stands between PLACED and LAYER_DONE: DESIGN CHOICE, log 7; and behind it stand the SLOT reports of the stale scan that the
change to PLACED hands on (R106), ahead of LAYER_DONE too: DESIGN CHOICE, log 55. -/
def State.commitCase (s : State) (st : StationId) (p : Placement) (t : CaseType) (r : WalkResult) (c : ArrivalRec) :
    State :=
  let k := s.stack.get st
  let e := caseEntry p t r ((c.meas.map Measured.wei).getD 0)
  let tag := (((s.plan.get st).queue.find? (fun l => l.placements.any (fun q => q.id == p.id))).map Layer.tag).getD 0
  let s := s.setStack st (k.commit r e)
  let s := s.setPlan st ((s.plan.get st).modify p.id (fun q => { q with state := .placed }))
  let s := s.report (.placed st p.id tag p.aisle k.table.length e.weight p.order)
  let s := ((s.reschedule st).staleScan).examineLayers st
  (s.modifyJob (fun j => { j with reservation := none, committed := true })).startSweep st

/-- Sheet-due of the working layer is cleared by a commit (R53). The SHEET job of the layer exists to its own end
(R29, R31, R98). -/
def Plan.sheetCommitted (p : Plan) : Plan :=
  match p.queue with
  | [] => p
  | w :: rest => { p with queue := { w with sheetDue := false, sheetDone := true } :: rest }

/-- The commit of a sheet (R53, R90). -/
def State.commitSheet (s : State) (st : StationId) (r : WalkResult) : State :=
  let k := s.stack.get st
  let s := s.setStack st ((k.commit r (sheetEntry k.limits.foot r)).setSheetVerdict .unswept)
  let s := s.setMagazine (s.magazine - 1)
  let s := s.setPlan st (s.plan.get st).sheetCommitted
  let s := (s.reschedule st).examineLayers st
  (s.modifyJob (fun j => { j with reservation := none, committed := true })).startSweep st

/-- The destination takes the carried item (R98, R81, R85): a PLACE and a SHEET job commit; an item with nowhere to go is
given up. -/
def State.deliver (s : State) (j : Job) : State :=
  match j.kind, j.dest, j.carried with
  | .place, some (.placement st id), some (.case c) =>
    match j.reservation, (s.plan.get st).find? id with
    | some r, some p =>
      match s.dir.typeAt p.type with
      | some t => s.commitCase st p t r c
      | none => s
    | _, _ => s
  | .sheet, some (.sheet st), some .sheet =>
    match j.reservation with
    | some r => s.commitSheet st r
    | none => s
  | _, some (.slot i), some (.case c) =>
    if s.slots[i] = .empty false then
      (((s.setSlot i (.held c s.clock false)).report (.buffered i c.ref)).slotEvent).staleScanSlot i
    else s
  | _, some .spill, _ => s.setSpill (min (s.spill + 1) Config.spillMax)
  | _, _, _ => s

/-- The case type a job goes on referencing once it has released its case: that of a PUT or PUTAWAY (R7). -/
def Job.deliveredType (j : Job) : Option Nat :=
  match j.kind, j.carried with
  | .put, some (.case r) => r.type
  | .putaway, some (.case r) => r.type
  | _, _ => none

/-- Release completion, without the motion that follows it (R98, R143). -/
def State.releaseDone (s : State) : State :=
  let s := (s.setGripper { s.gripper with state := .idle, timer := none }).clearUsed
  match s.job with
  | none => s
  | some j =>
    let s := s.setJob (some { j with released := true })
    (s.deliver { j with released := true }).modifyJob (fun k => { k with carried := none, delivered := j.deliveredType })

end Sys2Proof.Machine
end

