-- ==== Sys2Proof/Machine/Stops.lean ====
section
/-! DEFINITION. Shared operations of the Gantry Controller above the job and below its phases: stops (R124, R125), the
changes taken in STOPPED (R123), the guard stop of the cell (R151, R154, R159) and starts of moves (R113, R115, R127,
R159). -/

namespace Sys2Proof.Machine

/-! ### Stops -/

/-- A new destination changes the phase of a job at rest whose set-down it takes back: TRAVEL (log 17). -/
def Phase.redirected : Phase → Phase
  | .setDown => .travel
  | .release => .travel
  | p => p

/-- A change of a retained job is taken in STOPPED (R123): without a destination the gantry becomes AWAIT_PUTAWAY. A
carry that was not watched in its phase is watched from here on (R141). -/
def State.takeStopped (s : State) : State :=
  match s.job with
  | none => s
  | some j =>
    if j.dest = none then ((s.setPhase .travel).gantryTo .awaitPutaway).carryTest
    else (s.setPhase j.phase.redirected).carryTest

/-- The gantry becomes STOPPED; what was held during STOPPING is taken now, and without a job it becomes IDLE
(R123, R125). A stop can meet a BUSY gantry whose job a cancel has ended and whose axes still ramp to rest for it (R123). R124
sends it to STOPPED, and STOPPED retains a job (R116), of which there is none: it reports STOPPED and is IDLE at once: DESIGN
CHOICE, log 49. -/
def State.enterStopped (s : State) : State :=
  let held := s.gantry.heldChange
  let s := (s.setGantry { s.gantry with heldChange := false }).gantryTo .stopped
  match s.job with
  | none => s.gantryTo .idle
  | some _ => if held then s.takeStopped else s

/-- A quick stop without a fault: every axis halts, whatever the gantry's state (R124). -/
def State.quickStop (s : State) : State :=
  let s := s.setGantry s.gantry.halt
  match s.gantry.state with
  | .busy => s.enterStopped
  | .stopping => s.enterStopped
  | .awaitPutaway => s.enterStopped
  | .homing => s.homingStop
  | _ => s

/-- An axis is brought to rest by a ramp (R123, R125). -/
def LinState.toRest (a : LinState) : LinState :=
  match a.move with
  | none => a
  | some m => if m.rest a.at = a.at then { a with move := none } else { a with move := some (m.cut (m.rest a.at)) }

/-- Would a ramp to rest leave an axis at the target of its move? -/
def LinState.endsAtTarget (a : LinState) : Bool :=
  match a.move with
  | none => true
  | some m => m.rest a.at == m.target

/-- Every moving linear axis ramps to rest; a T move runs to its end (R125, and R123 for a cancel). That it does so too where
TRAVEL is planned again for a new destination, or the job is left without one, to the turn it had: DESIGN CHOICE, log 56. -/
def State.rampAll (s : State) (w : RestFor) : State :=
  let g := s.gantry
  match g.motion with
  | .toRest _ => s.setMotion (.toRest w)
  | _ => s.setGantry { g with axes := g.axes.map LinState.toRest, motion := .toRest w }

/-! ### The guard stop -/

def GuardInput.cause : GuardInput → Causes
  | .door => ⟨true, false, false⟩
  | .curtain .A => ⟨false, true, false⟩
  | .curtain .B => ⟨false, false, true⟩
  | .warning => ⟨false, false, false⟩

/-- Union of two sets of guard causes. -/
def Causes.or (c d : Causes) : Causes := ⟨c.door || d.door, c.curtainA || d.curtainA, c.curtainB || d.curtainB⟩

/-- A guard cause is taken by the cell run state; the second part says whether a quick stop is handed to the gantry
(R154, R159). -/
def CellRun.trip (c : CellRun) (i : GuardInput) : CellRun × Bool :=
  match c with
  | .off => (.off, false)
  | .run => (.guardStopped (.ret .run) i.cause, true)
  | .finishing => (.guardStopped (.ret .finishing) i.cause, true)
  | .paused r => (.guardStopped (.paused r) i.cause, true)
  | .guardStopped m cs => (.guardStopped m (cs.or i.cause), false)

/-- A GUARD report (R155). -/
def State.guardReport (s : State) (i : GuardInput) (level quick : Bool) (inZone : Option Bool) : State :=
  let mode :=
    match i with
    | .curtain st => some (s.stn.get st).mode
    | _ => none
  s.report (.guard i level s.cell.run quick mode inZone)

/-- What the gantry does once a guard input has been taken: the quick stop where one is handed on, and the end of homing
in every run state (R118, R154, R159). -/
def State.guardHalt (s : State) (quick : Bool) : State :=
  if quick then s.quickStop
  else if s.gantry.state = .homing then s.homingStop
  else s

/-- A guard input stops the cell: its run state, the GUARD report and the quick stop (R154, R155, R159). -/
def State.guardStop (s : State) (i : GuardInput) (inZone : Option Bool) : State :=
  let r := s.cell.run.trip i
  ((s.setCellRun r.1).guardReport i true r.2 inZone).guardHalt r.2

/-! ### Starts of moves -/

/-- The station whose curtain is broken and whose zone holds an X target (R159). -/
def State.zoneHit? (s : State) (x : Int) : Option StationId :=
  allStations.find? (fun st => s.inputs.curtain.get st && s.gantry.geometry.inZone st x)

/-- Is the end limit toward a target active (R127)? -/
def State.limitToward (s : State) (a : LinAxis) (pos target : Int) : Bool :=
  if pos < target then s.inputs.limitHigh.get a else s.inputs.limitLow.get a

/-- A move of a linear axis starts; false where it does not, because an X target lies in a broken curtain's zone or an
end limit stands in the way (R127, R159). A move over no distance is none (R115). -/
def State.startLin (s : State) (a : LinAxis) (m : Move) : State × Bool :=
  let ax := s.gantry.axes.get a
  if m.target = ax.at then (s, true)
  else
    match (if a = .X then s.zoneHit? m.target else none) with
    | some st => (s.guardStop (.curtain st) (some true), false)
    | none =>
      if s.limitToward a ax.at m.target then (s.faultStop .limit, false)
      else (s.setGantry (s.gantry.setAxis a { ax with move := some m }), true)

/-- A profile move of an axis to a target (R113, R114). -/
def State.startMove (s : State) (a : LinAxis) (p : Profile) (target : Int) : State × Bool :=
  s.startLin a (newMove s.capInForce a p (s.gantry.axes.get a).at target)

/-- A T move; a move to the position T holds is none (R108, R115). While it runs, T's position stays the one it left:
DESIGN CHOICE, log 37. -/
def State.startT (s : State) (t : Turn) : State :=
  if s.gantry.t.pos = some t then s else s.setGantry { s.gantry with t := { s.gantry.t with move := some t } }

/-- XY travel with its T move (R115); false where a start was stopped. -/
def State.startXY (s : State) (p : Profile) (xy : Int × Int) (t : Turn) : State × Bool :=
  match s.startMove .X p xy.1 with
  | (s, false) => (s, false)
  | (s, true) =>
    match s.startMove .Y p xy.2 with
    | (s, false) => (s, false)
    | (s, true) => (s.startT t, true)

end Sys2Proof.Machine
end

