-- ==== Sys2Proof/Machine/Phases.lean ====
section
/-! DEFINITION. The phases of a job (R121, R122), written from the last to the first so that each starts the next
without recursion; then the end of a motion (R121, R125), stops by ramp (R125), the resume (R126) and a change of the
job's destination (R123). -/

namespace Sys2Proof.Machine

/-- Is anything moving after the starts of a segment? Its motion is noted, or the next step follows at once. -/
def State.movingOr (s : State) (m : Motion) (next : State → State) : State :=
  if s.gantry.moving then s.setMotion m else next s

/-- A Z rise to the travel height computed afresh, or the next step where Z is not below it (R120, R121). -/
def State.riseOr (s : State) (j : Job) (next : State → State) : State :=
  let s := s.computeTravel
  let h : Int := s.gantry.lastTravel
  if (s.gantry.axes.z).at < h then
    match s.startMove .Z (s.gantry.profileOf j.laden) h with
    | (s, true) => s.setMotion .rise
    | (s, false) => s
  else next s

/-- A descent to a height, or the next step where Z is already there (R115). -/
def State.descendOr (s : State) (j : Job) (target : Int) (next : State → State) : State :=
  let z := (s.gantry.axes.z).at
  match s.startLin .Z (newDescent s.capInForce (s.gantry.profileOf j.laden) j.speed j.dist z target) with
  | (s, true) => s.movingOr .descent next
  | (s, false) => s

/-- The Dispatcher ends a job whose grip failed: the placement and reservation go back, the source is given up, and the
job ends (R100). The SHEETS_OUT hold it may bring is no second loss of target (log 36). -/
def State.failedJobEnd (s : State) (j : Job) : State :=
  let s : State := s.handBack.dropReservation
  let s : State :=
    match j.source with
    | .lane l => s.ungrippableLane l
    | .slot i => s.ungrippableSlot i
    | .magazine =>
      match j.station with
      | some st =>
        if (s.stn.get st).mode = .plain .building then s.stationSet st (.plain (.held .sheetsOut)) else s
      | none => s
  s.jobEnd

/-- End of CLEAR: the job ends, by a grip failure where one is outstanding, and the gantry becomes IDLE (R122). -/
def State.endClear (s : State) : State :=
  match s.job with
  | none => s.gantryTo .idle
  | some j => (if j.gripFailed && !j.gripped then s.failedJobEnd j else s.jobEnd).gantryTo .idle

/-- CLEAR starts (R121). -/
def State.startClear (s : State) : State :=
  let s := s.setPhase .clear
  match s.job with
  | none => s
  | some j => s.riseOr j State.endClear

/-- RELEASE starts: the release is handed to the Gripper Unit (R121, R143). -/
def State.startReleasePhase (s : State) : State :=
  let s := s.setPhase .release
  if s.gripper.state = .holding then s.setGripper (s.gripper.blow 1) else s

/-- SET_DOWN starts (R121). -/
def State.startSetDown (s : State) : State :=
  let s := s.setPhase .setDown
  match s.job with
  | none => s
  | some j =>
    match j.dest with
    | none => s
    | some d => s.descendOr j (s.destZ j d) State.startReleasePhase

/-- The XY motion of TRAVEL; the spill position is fixed at the first start toward the spill table (R119, R121,
log 19). -/
def State.travelXY (s : State) : State :=
  let k := s.spill
  let s := (s.setPhase .travel).modifyJob
    (fun j => if j.dest = some .spill ∧ j.spillK = none then { j with spillK := some k } else j)
  match s.job with
  | none => s
  | some j =>
    match j.dest with
    | none => s
    | some d =>
      match s.startXY (s.gantry.profileOf j.laden) (s.destXY j d) j.turn with
      | (s, true) => s.movingOr .travel State.startSetDown
      | (s, false) => s

/-- TRAVEL is planned from the present position: Z first where it stands below the travel height (R123, R126). -/
def State.retravel (s : State) : State :=
  let s := s.setPhase .travel
  match s.job with
  | none => s
  | some j => s.riseOr j State.travelXY

/-- PICK_UP starts; the watch of the carry begins (R121, R141). -/
def State.startPickUp (s : State) : State :=
  let s := (s.setPhase .pickUp).carryTest
  match s.job with
  | none => s
  | some j => s.riseOr j State.travelXY

/-- GRIP starts: the grip is handed to the Gripper Unit, and fails at once with too few zones (R121, R138). -/
def State.startGripPhase (s : State) : State :=
  let s := s.setPhase .grip
  match s.job with
  | none => s
  | some j =>
    if s.gripper.state = .idle then
      match s.gripBegin j with
      | (s, true) => s
      | (s, false) => (s.gripFailed .failZones).startClear
    else s

/-- PICK_DOWN starts (R121), anew too where a descent that was stopped is planned again (R126). Its height is read as it
starts. At the magazine that is the count as it then stands, so a re-planned descent takes in a SET_SHEETS that came after the
first start: DESIGN CHOICE, log 48. -/
def State.startPickDown (s : State) : State :=
  let s := s.setPhase .pickDown
  match s.job with
  | none => s
  | some j => s.descendOr j (s.sourceZ j) State.startGripPhase

/-- The XY motion of APPROACH, with T to 0 (R121). -/
def State.approachXY (s : State) : State :=
  match s.job with
  | none => s
  | some j =>
    match s.startXY (s.gantry.profileOf j.unladen) (s.sourceXY j) .t0 with
    | (s, true) => s.movingOr .travel State.startPickDown
    | (s, false) => s

/-- APPROACH starts (R121). -/
def State.startApproach (s : State) : State :=
  let s := s.setPhase .approach
  match s.job with
  | none => s
  | some j => s.riseOr j State.approachXY

/-! ### Gripper outcomes -/

/-- GRIPPED: the job takes its item, and PICK_UP starts unless the gantry is stopped (R122, R124, R139). -/
def State.gripped (s : State) : State :=
  match s.job with
  | none => s
  | some j =>
    let s := s.gripDone j
    if s.gantry.state = .busy then s.startPickUp else s

/-- GRIP_FAIL: CLEAR starts empty unless the gantry is stopped (R122, R124, R140). -/
def State.gripFail (s : State) (e : GripEvent) : State :=
  let s := s.gripFailed e
  if s.gantry.state = .busy then s.startClear else s

/-- Release completion: CLEAR starts unless the gantry is stopped (R122, R124, R143). -/
def State.releaseComplete (s : State) : State :=
  let s := s.releaseDone
  if s.gantry.state = .busy then s.startClear else s

/-- RELEASE_STUCK: the valves hold again and the gantry becomes FAULTED with cause RELEASE (R144, R122). -/
def State.releaseStuck (s : State) : State :=
  let g := s.gripper.mapUsed (ZoneRec.setValve (.hold 0))
  let s := (s.setGripper { g with state := .holding, timer := none }).gripReport .releaseStuck none
    (s.job.map Job.ref) (none, none)
  s.faultStop .release

/-- A grip is tested: it ends in GRIPPED once every used zone reads G or above (R138, R146). -/
def State.gripTest (s : State) : State :=
  if s.gripper.state = .gripping ∧ s.allRead s.gripper.set.g = true then s.gripped else s

/-! ### Resume -/

/-- A gantry that waits without a destination raises Z to the laden travel height while the cell runs (R123). -/
def State.holdUp (s : State) : State :=
  match s.job with
  | none => s
  | some j => if s.cell.run.going then s.riseOr j id else s

/-- The retained phase is planned again from the present position with the travel height computed afresh (R120, R126); a
phase that takes back a set-down brings the carry under the watch again (R141). -/
def State.replan (s : State) : State :=
  match s.job with
  | none => s
  | some j =>
    let s := s.computeTravel
    if j.dest = none then (((s.setPhase .travel).gantryTo .awaitPutaway).carryTest).holdUp
    else
      let s := s.gantryTo .busy
      match j.phase with
      | .approach => s.startApproach
      | .pickDown => s.startPickDown
      | .grip => if j.gripped then s.startPickUp else if j.gripFailed then s.startClear else s.startGripPhase
      | .pickUp => s.startPickUp
      | .travel => s.carryTest.retravel
      | .setDown => s.startSetDown
      | .release => if j.released then s.startClear else s.startReleasePhase
      | .clear => s.startClear

/-- A resume is handed to the gantry (R126): in STOPPED the retained phase is planned again, a gantry at rest in
AWAIT_PUTAWAY rises (R123), and in STOPPING the resume is taken once every axis is at rest. -/
def State.resumeGantry (s : State) : State :=
  match s.gantry.state with
  | .stopped => s.replan
  | .awaitPutaway => if s.gantry.moving then s else s.holdUp
  | _ => s

/-! ### End of a motion -/

/-- The phase after one whose motion has ended (R121). -/
def Phase.next : Phase → Phase
  | .approach => .pickDown
  | .pickDown => .grip
  | .grip => .pickUp
  | .pickUp => .travel
  | .travel => .setDown
  | .setDown => .release
  | .release => .clear
  | .clear => .clear

/-- Every axis is at rest after a stop (R125, R126): a phase whose motion ended is complete, CLEAR with its job; the
retained phase is planned again where the cell has returned, and otherwise the gantry becomes STOPPED. A ramped stop of
AWAIT_PUTAWAY leaves STOPPED (R125), and R126 speaks of a resume in STOPPED and in STOPPING alone. That a resume which comes
while that rise still ramps is taken at rest too, the gantry rising on from there as AWAIT_PUTAWAY with no STOPPED between, is
the model's: DESIGN CHOICE, log 50. -/
def State.atRest (s : State) (phaseDone : Bool) : State :=
  match s.job with
  | none => s.enterStopped
  | some j =>
    if phaseDone && j.phase == .clear then s.endClear
    else
      let s := if phaseDone then s.setPhase j.phase.next else s
      if s.cell.run.going then
        let s :=
          if s.gantry.heldChange then
            (s.setGantry { s.gantry with heldChange := false }).modifyJob
              (fun j => { j with phase := j.phase.redirected })
          else s
        s.replan
      else s.enterStopped

/-- The motion in progress has ended on every axis (R121, R123, R125). -/
def State.motionDone (s : State) : State :=
  let m := s.gantry.motion
  let s := s.setMotion .none
  match m, s.job.map Job.phase with
  | .toRest .cancel, _ => s.gantryTo .idle
  | .toRest .replan, _ => s.retravel
  | .toRest .await, _ => s.holdUp
  | .toRest (.stop d), _ => s.atRest d
  | .rise, some .approach => s.approachXY
  | .rise, some .pickUp => s.travelXY
  | .rise, some .travel => if s.gantry.state = .busy then s.travelXY else s
  | .rise, some .clear => s.endClear
  | .travel, some .approach => s.startPickDown
  | .travel, some .travel => s.startSetDown
  | .descent, some .pickDown => s.startGripPhase
  | .descent, some .setDown => s.startReleasePhase
  | _, _ => s

/-- The next step once no axis moves. T is one of them: that a new plan, or the rise of AWAIT_PUTAWAY, waits for the end of an old
turn as for the ramps of the linear axes (R123): DESIGN CHOICE, log 56. -/
def State.settleMotion (s : State) : State := if s.gantry.moving then s else s.motionDone

/-! ### Ramped stop -/

/-- Will the motion in progress complete its phase, if it ends as a ramp to rest leaves it (R125)? -/
def State.phaseEnds (s : State) : Bool :=
  let g := s.gantry
  (match g.motion, s.job.map Job.phase with
    | .rise, some .pickUp => true
    | .rise, some .clear => true
    | .travel, _ => true
    | .descent, _ => true
    | _, _ => false)
  && g.axes.x.endsAtTarget && g.axes.y.endsAtTarget && g.axes.z.endsAtTarget

/-- A ramped stop (R125). -/
def State.rampedStop (s : State) : State :=
  match s.gantry.state with
  | .busy => (((s.rampAll (.stop s.phaseEnds))).gantryTo .stopping).settleMotion
  | .awaitPutaway => (s.rampAll (.stop false)).settleMotion
  | _ => s

/-! ### A changed destination -/

/-- TRAVEL starts again toward a new destination (R123): the moving axes ramp to rest, and the travel height is then
computed afresh. A Z that is rising to the former height ramps to rest with them (log 38). A T move in progress first ends its old
turn, and the rise and the new TRAVEL wait for that: DESIGN CHOICE, log 56. -/
def State.replanTravel (s : State) : State := ((s.setPhase .travel).rampAll .replan).settleMotion

/-- The gantry takes the job's new destination, or the lack of one (R123). In PICK_UP the rise goes on; a phase before the grip
has no destination to change. A destination chosen in AWAIT_PUTAWAY while a ramped stop of it still ramps is taken at rest:
DESIGN CHOICE, log 50. What becomes of a T move in progress, with a new destination and without one: DESIGN CHOICE, log 56. -/
def State.gantryTakes (s : State) : State :=
  match s.job with
  | none => s
  | some j =>
    match s.gantry.state with
    | .busy =>
      if j.dest = none then
        (((s.setPhase .travel).gantryTo .awaitPutaway).rampAll .await).settleMotion
      else if j.phase = .travel ∨ j.phase = .setDown then s.replanTravel
      else s
    | .stopping => s.setGantry { s.gantry with heldChange := true }
    | .stopped => s.takeStopped
    | .awaitPutaway =>
      if j.dest = none then s
      else if s.cell.run.going then (s.gantryTo .busy).replanTravel
      else if s.gantry.moving then s
      else s.gantryTo .stopped
    | _ => s

end Sys2Proof.Machine
end

