-- ==== Sys2Proof/Machine/Targets.lean ====
section
/-! DEFINITION. Shared operations on a job that is interrupted: the choice of a destination (R102, R103), the cancel
(R99), the conversion to PUTAWAY (R102), losses of target and destination (R101, R103), holds of a station (R158) and
the entry of a lane to PURGE (R72). -/

namespace Sys2Proof.Machine

/-- The destination of an item to put away; none where it must wait (R102). -/
def State.chooseDest (s : State) (item : Item) : Option Dest :=
  let spill : Option Dest := if s.spill < Config.spillMax then some .spill else none
  match item with
  | .sheet => spill
  | .case r =>
    if s.wantedRec r then
      match s.freeSlot? with
      | some i => some (.slot i)
      | none => spill
    else spill

/-- The gantry takes a cancel, the job record being removed (R123). -/
def State.cancelGantry (s : State) : State :=
  match s.gantry.state with
  | .busy => (s.rampAll .cancel).settleMotion
  | .stopped => s.gantryTo .idle
  | _ => s

/-- The cancel of a job that has not gripped, or that carries nothing at the completion of HOME (R99). -/
def State.cancelJob (s : State) : State :=
  match s.job with
  | none => s
  | some j =>
    let s := s.handBack.dropReservation
    let s := if j.gripped then s else s.sourceBack j.source
    ((s.gripAbandon).jobEnd).cancelGantry

/-- Steps 1 to 4 of a conversion: the job becomes PUTAWAY with a chosen destination or none, and its station is examined
for the end of its queue and tested for a stall (R102, R29, R105). -/
def State.toPutaway (s : State) : State :=
  match s.job with
  | none => s
  | some j =>
    let s := s.handBack.dropReservation
    let s := s.modifyJob (fun j => { j with kind := .putaway, turn := .t0, spillK := none, dest := none })
    let s : State :=
      match j.kind, j.dest with
      | .sheet, some (.sheet st) => s.sheetJobOver st
      | _, _ => s
    let s : State :=
      match j.station with
      | some st => (s.endOfQueue st).stallTest st
      | none => s
    match j.carried with
    | some item => let d := s.chooseDest item; s.modifyJob (fun j => { j with dest := d })
    | none => s

/-- A job becomes PUTAWAY after grip, and the gantry takes its new destination (R102). -/
def State.convert (s : State) : State := s.toPutaway.gantryTakes

/-- A job bound to a station loses its target (R101). -/
def State.lossOfTarget (s : State) (st : StationId) : State :=
  match s.job with
  | none => s
  | some j =>
    if j.station ≠ some st then s
    else if !j.gripped then s.cancelJob
    else if j.releaseBegun then s
    else s.convert

/-- The destination is chosen again for a job that carries its item (R102, R103): a PUT keeps its kind for a slot. -/
def State.chooseAgain (s : State) (j : Job) (item : Item) : State :=
  let d := s.chooseDest item
  let kind : JobKind :=
    match j.kind, d with
    | .put, some (.slot _) => .put
    | _, _ => .putaway
  (s.modifyJob (fun j => { j with kind := kind, dest := d, spillK := none })).gantryTakes

/-- A slot that is a job's destination turns BLOCKED (R81, R103). -/
def State.destLost (s : State) (i : SlotId) : State :=
  match s.job with
  | none => s
  | some j =>
    if j.dest ≠ some (.slot i) then s
    else if !j.gripped then s.cancelJob
    else if j.releaseBegun then s
    else
      match j.carried with
      | some item => s.chooseAgain j item
      | none => s

/-- A PUTAWAY job with no destination chooses again (R103). -/
def State.awaitChoice (s : State) : State :=
  match s.job with
  | none => s
  | some j =>
    match j.kind, j.dest, j.carried with
    | .putaway, none, some item =>
      match s.chooseDest item with
      | some d => (s.modifyJob (fun j => { j with dest := some d, spillK := none })).gantryTakes
      | none => s
    | _, _, _ => s

/-- A station becomes HELD, which is a loss of target for a job bound to it (R158, R101). -/
def State.holdStation (s : State) (st : StationId) (h : Hold) : State :=
  (s.stationSet st (.plain (.held h))).lossOfTarget st

/-- A SHEETS_OUT hold reaches a station in BUILDING only (R158). -/
def State.sheetsOut (s : State) (st : StationId) : State :=
  if (s.stn.get st).mode = .plain .building then s.holdStation st .sheetsOut else s

/-- A DEBRIS hold (R158). -/
def State.debris (s : State) (st : StationId) : State :=
  match (s.stn.get st).mode with
  | .plain .noPallet => s
  | .plain .unverified => s
  | .plain _ => s.holdStation st .debris
  | .exchange .noPallet => s
  | .exchange .unverified => s
  | .exchange _ => s.setStn st { s.stn.get st with mode := .exchange (.held .debris) }

/-- A lane's records receive the purge mark. -/
def Lane.marked (n : Lane) : Lane := { n with purging := true, fifo := n.fifo.map (fun r => { r with purge := true }) }

/-- A lane in RUN enters PURGE (R72): the records are marked, the pick point is dealt with, LANE is reported, and the
return to RUN is tested (R73). -/
def State.enterPurge (s : State) (l : LaneId) (c : PurgeCause) : State :=
  let bound := s.laneBound l
  let n := (s.lanes.get l).marked
  let s := s.setLane l n
  let s : State :=
    if n.pick = .front then
      if bound then s.cancelJob else s.startRelease l true .purge
    else s
  (s.report (.lanePurge l c n.fifo.length)).laneTest l

end Sys2Proof.Machine
end

