-- ==== Sys2Proof/Machine/Guard.lean ====
section
/-! DEFINITION. Shared operations of the Cell Guard and Stations above the job: the return of the cell (R151, R153, R154),
the station clear (R161, R34, R62) and the restore of a curtain (R160). -/

namespace Sys2Proof.Machine

/-- The run state a memory returns to; FINISHING without a job goes on to OFF at once (R153). -/
def Ret.back (r : Ret) (hasJob : Bool) : CellRun :=
  match r with
  | .run => .run
  | .finishing => if hasJob then .finishing else .off

/-- The run state that GUARD_STOPPED returns to (R151, R153). -/
def GuardMem.back (m : GuardMem) (hasJob : Bool) : CellRun :=
  match m with
  | .ret r => r.back hasJob
  | .paused r => .paused r

/-- What the cell hands on when it has returned to RUN or FINISHING: the resume, and the dispatch event of RUN (R151). -/
def State.returned (s : State) : State :=
  match s.cell.run with
  | .run => s.resumeGantry.dispatchEvent
  | .finishing => s.resumeGantry
  | _ => s

/-- The run state after a guard cause has left or the policy has changed: under AUTO a cell with no cause left returns
(R152, R154, R160). -/
def State.autoBack (s : State) : CellRun :=
  match s.cell.run with
  | .guardStopped m c => if s.cell.auto && c.none? then m.back s.job.isSome else .guardStopped m c
  | r => r

/-- Removal of a guard cause. -/
def Causes.minus (c d : Causes) : Causes := ⟨c.door && !d.door, c.curtainA && !d.curtainA, c.curtainB && !d.curtainB⟩

/-- A cause leaves the guard causes (R154, R160). -/
def CellRun.clear (c : CellRun) (i : GuardInput) : CellRun :=
  match c with
  | .guardStopped m cs => .guardStopped m (cs.minus i.cause)
  | r => r

/-- A guard input goes back to its safe level: the cause leaves, the cell returns under AUTO, GUARD is reported, and a
return is handed on (R154, R155, R160). -/
def State.guardClear (s : State) (i : GuardInput) (inZone : Option Bool) : State :=
  let was := s.cell.run
  let s := s.setCellRun (s.cell.run.clear i)
  let s := (s.setCellRun s.autoBack).guardReport i false false inZone
  match was, s.cell.run with
  | .guardStopped _ _, .guardStopped _ _ => s
  | .guardStopped _ _, _ => s.returned
  | _, _ => s

/-- The outstanding reservation of a station ends without commit (R62). -/
def State.endReservation (s : State) (st : StationId) : State :=
  match s.job with
  | some j => if j.station = some st then s.setJob (some { j with reservation := none }) else s
  | none => s

/-- A station clear, with the state the station takes (R161, R34, R62). -/
def State.stationClear (s : State) (st : StationId) (m : Standing) : State :=
  let early := !(s.plan.get st).queue.isEmpty
  let s := s.setPlan st .initial
  let s := s.setStack st (.bare (s.stack.get st).limits)
  let s := s.endReservation st
  let s := s.setStall st false
  let s := s.setStn st { s.stn.get st with departure := .unset }
  let s := ((s.lossOfTarget st).staleScan)
  (s.stationSet st (.plain m) early).reschedule st

/-- A station returns from EXCHANGE to the state it remembers (R160): BUILDING as a return to BUILDING, and IDLE with
plan-closed set goes on to COMPLETE. -/
def State.exchangeBack (s : State) (st : StationId) (m : Standing) : State :=
  match m with
  | .building => s.returnToBuilding st
  | .idle =>
    let s := s.stationSet st (.plain .idle)
    if (s.plan.get st).closed then s.stationSet st (.plain .complete) else s
  | m => s.stationSet st (.plain m)

/-- The station's part of a curtain restored (R160). The absent-seen mark stays as the break left it: DESIGN CHOICE,
log 42. -/
def State.exchangeEnd (s : State) (st : StationId) : State :=
  let n := s.stn.get st
  match n.mode with
  | .exchange m =>
    if s.inputs.pallet.get st then
      if n.absentSeen then s.stationClear st .idle else s.exchangeBack st m
    else s.stationClear st .noPallet
  | .plain _ => s

end Sys2Proof.Machine
end

