-- ==== Sys2Proof/Machine/Dispatcher.lean ====
section
/-! DEFINITION. The Dispatcher: the choice order (R92 to R95), items that cannot be gripped (R96), the creation of a job
(R97, R112, R119) and the dispatch evaluation (R91). -/

namespace Sys2Proof.Machine

/-- What a dispatch evaluation can choose (R92 to R95). -/
inductive Choice
  | sheet (st : StationId)
  | place (st : StationId) (p : Placement) (src : Source)
  | put (l : LaneId) (i : SlotId)
  | putaway (i : SlotId)
  deriving DecidableEq, Repr

/-- Is A's slack no larger than B's? A station with an UNSET departure ranks after every slack (R92, R164). -/
def State.aFirst (s : State) : Bool :=
  match s.stn.a.slack, s.stn.b.slack with
  | some x, some y => x ≤ y
  | none, some _ => false
  | _, none => true

/-- The stations by rank: smaller slack first, A on equal slack (R92, R93). -/
def State.ranked (s : State) : List StationId := if s.aFirst then [.A, .B] else [.B, .A]

/-- The lanes by rank: longer elapsed wait first, L1 on equal wait (R78, R93). -/
def State.laneRank (s : State) : List LaneId := if s.lanes.l1.wait < s.lanes.l2.wait then [.L2, .L1] else [.L1, .L2]

/-- The first element a partial function is defined on, with its value. -/
def pick {α β : Type} (f : α → Option β) : List α → Option β
  | [] => none
  | a :: rest => (f a).or (pick f rest)

/-- Does the station allow dispatch with its sheet due and admitted (R92)? -/
def State.sheetReady (s : State) (st : StationId) : Bool :=
  s.admits st && (s.plan.get st).sheetDue && (s.stack.get st).sheetVerdict.admits

/-- The SHEET candidate (R92). -/
def State.chooseSheet (s : State) : Option Choice :=
  if s.magazine = 0 then none else (s.ranked.find? s.sheetReady).map Choice.sheet

/-- The older of two HELD slots with their shelving times; the first on equal times (R80). -/
def older (a b : Option (SlotId × Nat)) : Option (SlotId × Nat) :=
  match a, b with
  | none, b => b
  | a, none => a
  | some x, some y => if y.2 < x.2 then some y else some x

/-- The oldest buffered case that satisfies a condition (R80). -/
def State.oldest (s : State) (c : ArrivalRec → Bool) : Option SlotId :=
  (allSlots.foldl (fun best i =>
    match s.slots[i] with
    | .held r t _ => if c r then older best (some (i, t)) else best
    | _ => best) none).map Prod.fst

/-- The case that pairs with a placement of a type: the oldest buffered one, or the lane front that has waited longest
(R93). -/
def State.caseFor (s : State) (type : Nat) : Option Source :=
  match s.oldest (fun r => r.type == some type) with
  | some i => some (.slot i)
  | none => pick (fun l => (s.frontCase l).bind (fun r => if r.type = some type then some (.lane l) else none)) s.laneRank

/-- The first pair of a station in plan order (R93). -/
def State.pairOf (s : State) (st : StationId) : Option Choice :=
  if s.admits st then
    pick (fun p => if p.verdict.admits then (s.caseFor p.type).map (Choice.place st p) else none)
      (s.plan.get st).eligiblePending
  else none

/-- The PUT candidate (R94). -/
def State.choosePut (s : State) : Option Choice :=
  match s.freeSlot? with
  | none => none
  | some i =>
    pick (fun l => (s.frontCase l).bind (fun r => if s.wantedRec r then some (.put l i) else none)) s.laneRank

/-- The PUTAWAY candidate (R95). -/
def State.choosePutaway (s : State) : Option Choice :=
  if s.spill < Config.spillMax then (s.oldest s.staleRec).map Choice.putaway else none

/-- The choice order (R92). -/
def State.choice (s : State) : Option Choice :=
  s.chooseSheet.or ((pick s.pairOf s.ranked).or (s.choosePut.or s.choosePutaway))

/-- The source of a choice. -/
def Choice.source : Choice → Source
  | .sheet _ => .magazine
  | .place _ _ src => src
  | .put l _ => .lane l
  | .putaway i => .slot i

/-- The case at a source, before a job claims it. -/
def State.caseAt (s : State) : Source → Option ArrivalRec
  | .lane l => s.frontCase l
  | .slot i => (s.slots[i]).record
  | .magazine => none

/-- An item that cannot be gripped is given up (R96). -/
def State.giveUp (s : State) (c : Choice) : State :=
  match c.source, c with
  | .lane l, _ => s.ungrippableLane l
  | .slot i, _ => s.ungrippableSlot i
  | .magazine, .sheet st => s.sheetsOut st
  | .magazine, _ => s

/-- Is a profile slot defined? -/
def Gantry.defined (g : Gantry) (n : Nat) : Bool := ((g.profiles[n]?).join).isSome

/-- The laden profile, the unladen profile and the substitution mark of a job (R112, log 18). -/
def Gantry.resolve (g : Gantry) (slot : Nat) : Resolved × Resolved × Bool :=
  let zero : Resolved := if g.defined 0 then .slot 0 else .fallback
  let laden : Resolved := if g.defined slot then .slot slot else zero
  (laden, zero, !g.defined slot || !g.defined 0)

/-- Handling class of a case's type (R13). -/
def State.caseClass (s : State) (r : Option ArrivalRec) : Nat :=
  (((r.bind ArrivalRec.type).bind s.dir.typeAt).map CaseType.hcls).getD 0

/-- The class, turn and reservation of a chosen job (R97). -/
def State.jobTerms (s : State) (c : Choice) : Nat × Turn × Option WalkResult :=
  match c with
  | .sheet st =>
    (0, .t0, match (s.stack.get st).sheetVerdict with | .admitted r => some r | _ => none)
  | .place _ p src =>
    (s.dir.effectiveClass p,
      if (s.caseAt src).bind ArrivalRec.orient = some p.turn then .t0 else .t90,
      match p.verdict with | .admitted r => some r | _ => none)
  | .put l _ => (s.caseClass (s.caseAt (.lane l)), .t0, none)
  | .putaway i => (s.caseClass (s.caseAt (.slot i)), .t0, none)

/-- The job record of a choice (R97). -/
def State.jobOf (s : State) (c : Choice) : Job :=
  let terms := s.jobTerms c
  let h := s.dir.classAt terms.1
  let res := s.gantry.resolve h.profile
  { kind :=
      match c with
      | .sheet _ => .sheet
      | .place .. => .place
      | .put .. => .put
      | .putaway _ => .putaway
    source := c.source
    dest :=
      match c with
      | .sheet st => some (.sheet st)
      | .place st p _ => some (.placement st p.id)
      | .put _ i => some (.slot i)
      | .putaway _ => some .spill
    carried := none
    turn := terms.2.1
    cls := terms.1
    profile := h.profile
    speed := h.speed
    dist := h.dist
    reservation := terms.2.2
    phase := .approach
    gripped := false
    released := false
    laden := res.1
    unladen := res.2.1
    subst := res.2.2
    spillK := none
    gripFailed := false
    abandoned := false
    committed := false
    delivered := none }

/-- A SHEET job exists for the working layer (R27). -/
def Plan.sheetJobMade (p : Plan) : Plan :=
  match p.queue with
  | [] => p
  | w :: rest => { p with queue := { w with sheetJob := true } :: rest }

/-- The job's claim on its target: the placement becomes BOUND, or the working layer's sheet has its job (R97, R23). -/
def State.claim (s : State) (c : Choice) : State :=
  match c with
  | .place st p _ => s.setPState st p.id .bound
  | .sheet st => s.setPlan st (s.plan.get st).sheetJobMade
  | _ => s

/-- What the GANTRY report of a job's start adds (R130). -/
def Job.startInfo (j : Job) : StartInfo := ⟨j.cls, j.profile, j.speed, j.dist, j.laden, j.subst⟩

/-- A job is created and handed to the gantry (R97, R119). -/
def State.createJob (s : State) (c : Choice) : State :=
  let j := s.jobOf c
  let s := (s.setJob (some j)).claim c
  let s := s.setGantry { s.gantry with state := .busy }
  (s.gantryReport (some j.startInfo)).startApproach

/-- Do the conditions of an evaluation hold (R91)? -/
def State.mayDispatch (s : State) : Bool :=
  s.job.isNone && s.gantry.state == .idle && s.cell.run == .run && s.gripper.state != .lockedOut

/-- Stations whose admitted sheet finds the magazine at 0 are held (R92), A before B: DESIGN CHOICE, log 7. -/
def State.holdForSheets (s : State) : State :=
  if s.magazine = 0 then allStations.foldl (fun s st => if s.sheetReady st then s.sheetsOut st else s) s else s

/-- The dispatch evaluation (R91 to R97); a choice that cannot be gripped is given up and the evaluation made again,
at most as often as there are items to give up (log 30). -/
def State.evaluate (s : State) : Nat → State
  | 0 => s
  | n + 1 =>
    if s.mayDispatch then
      let s := s.holdForSheets
      match s.choice with
      | none => s
      | some c => if s.grippable (s.caseAt c.source) then s.createJob c else (s.giveUp c).evaluate n
    else s

end Sys2Proof.Machine
end

