-- ==== Sys2Proof/Machine/Reset.lean ====
section
/-! DEFINITION. The resets: the values every block takes at power-on and at the clear of RESTART (R178, R179 and the
reset rule of each chapter). -/

namespace Sys2Proof.Machine

/-- A station after a reset: its state from its curtain and its pallet sensor (R157), no departure (R162), with a given
sheet cost and margin (R152). -/
def Station.atReset (curtain pallet : Bool) (sheetCost margin : Nat) : Station :=
  let m : Standing := if pallet then .unverified else .noPallet
  { Station.initial with
    mode := if curtain then .exchange m else .plain m
    absentSeen := curtain && !pallet
    sheetCost := sheetCost
    margin := margin }

/-- A lane after a reset: PURGE where its accumulation-empty sensor reports a case (R87). -/
def Lane.atReset (laneEmpty : Bool) : Lane := { Lane.initial with purging := !laneEmpty }

/-- A slot after a reset: BLOCKED where presence shows (R87). -/
def Slot.atReset (presence : Bool) : Slot := if presence then .blocked else .empty false

/-- The gripper after a reset: a zone whose fault input is active is FAULTED at once (R150). -/
def Gripper.atReset (i : Inputs) (g : GripSet) : Gripper :=
  { Gripper.initial with
    zones := PerZone.tab (fun z => { ZoneRec.initial with faulted := i.overcurrent.get z || i.openLoad.get z })
    set := g }

/-- The Line Link as a reset leaves it, before STARTED is enqueued (R178, R179). -/
def Link.atReset (lock : Bool) : Link := ⟨.hunting, [], [], none, [], false, lock⟩

/-- The Gantry Controller after RESTART: its settings are kept (R132, R87). -/
def Gantry.restarted (g : Gantry) : Gantry :=
  { Gantry.initial with
    profiles := g.profiles
    geometry := g.geometry
    geomDefined := g.geomDefined
    clearance := g.clearance
    homingSpeed := g.homingSpeed
    waitLimit := g.waitLimit }

/-- The settings a reset leaves: those of power-on (R178). -/
def State.settingsLost (s : State) : State :=
  { s with
    dir := .initial
    stack := ⟨.bare .initial, .bare .initial⟩
    gantry := .initial
    gripper := { s.gripper with set := .initial }
    cell := { s.cell with auto := false }
    stn := ⟨.initial, .initial⟩
    link := .atReset false }

/-- Every block takes its reset values, the settings staying as they stand (R179 and the reset rule of each chapter). The
inputs stay with the changes that stand behind their bounce filters, and these go on standing (R1): DESIGN CHOICE, log
31. -/
def State.cleared (s : State) : State :=
  let i := s.inputs
  { s with
    clock := 0
    plan := ⟨.initial, .initial⟩
    stack := ⟨.bare s.stack.a.limits, .bare s.stack.b.limits⟩
    lanes := ⟨.atReset i.laneEmpty.l1, .atReset i.laneEmpty.l2⟩
    slots := i.slotPresence.map Slot.atReset
    spill := Config.spillMax
    job := none
    magazine := 0
    stall := ⟨false, false⟩
    gantry := s.gantry.restarted
    gripper := .atReset i s.gripper.set
    cell := ⟨.off, s.cell.auto⟩
    stn := ⟨.atReset i.curtain.a i.pallet.a s.stn.a.sheetCost s.stn.a.margin,
      .atReset i.curtain.b i.pallet.b s.stn.b.sheetCost s.stn.b.margin⟩
    link := .atReset s.link.lock
    evalDue := false
    awaitDue := false }

/-- STARTED, with the stations found with presence and the slots found BLOCKED (R178). -/
def State.started (s : State) (restart : Bool) : State :=
  s.report (.started restart (allStations.countP s.inputs.pallet.get) (allSlots.countP (fun i => s.slots[i] == .blocked)))

/-- The pick-point sensors are read after the reset values are taken (R87). -/
def State.readPickPoints (s : State) : State :=
  allLanes.foldl (fun s l => if s.inputs.casePresent.get l then s.caseArrives l else s) s

/-- The clear of RESTART (R179). -/
def State.restartClear (s : State) : State := (s.cleared.started true).readPickPoints

/-- Power-on (R178). -/
def State.poweredOn (s : State) : State := (s.settingsLost.cleared.started false).readPickPoints

end Sys2Proof.Machine
end

