-- ==== Sys2Proof/Machine/Tick.lean ====
section
/-! DEFINITION. One millisecond in which no command arrives: what the part's clock does on an empty queue (log 2). The
timers run, and every moving linear axis gets on by a free value (log 10). -/

namespace Sys2Proof.Machine

/-- The elapsed wait of a front case counts, and stands once it has reached its limit, where the wait expires (R78). A
limit lowered below it takes nothing from it. -/
def State.tickWait (s : State) (l : LaneId) : State :=
  if s.waitCounts l then
    let n := s.lanes.get l
    s.setLane l { n with wait := max n.wait (min (n.wait + 1) (1000 * s.gantry.waitLimit)) }
  else s

/-- A valve in HOLD has been there one millisecond longer (R134). -/
def Valve.tick : Valve → Valve
  | .hold ms => .hold (ms + 1)
  | v => v

/-- The gripper's timers (R134, R138, R143, R147). -/
def Gripper.tick (g : Gripper) : Gripper :=
  { g with
    timer := g.timer.map (fun n => n - 1)
    decay := g.decay.map (fun n => min (n + 1) Config.decayPeriod)
    zones := g.zones.map (fun z => { z with valve := z.valve.tick }) }

/-- A moving axis gets on toward its target; its move ends by MOVE_END alone (log 10). -/
def LinState.tick (a : LinState) (free : Nat) : LinState :=
  match a.move with
  | none => a
  | some m => { a with counter := some (toward a.at m.goal (min free (m.left a.at))) }

/-- A linear axis in the millisecond; a moving one draws a free value. -/
def State.tickAxis (s : State) (a : LinAxis) : State :=
  let x := s.gantry.axes.get a
  if x.move.isSome then
    { s with
      draws := s.draws + 1
      gantry := { s.gantry with axes := s.gantry.axes.set a (x.tick (Config.tickAdvance s.draws)) } }
  else s

/-- The bounce filters in the millisecond: a changed level has stood one more (R1). -/
def Inputs.tick (i : Inputs) : Inputs := { i with filter := i.filter.map (fun e => (e.1, e.2 - 1)) }

/-- One millisecond passes. -/
def State.tick (s : State) : State :=
  let s := { s with clock := s.clock + 1, inputs := s.inputs.tick }
  let s := allLanes.foldl State.tickWait s
  let s := s.setGripper s.gripper.tick
  ((s.tickAxis .X).tickAxis .Y).tickAxis .Z

end Sys2Proof.Machine
end

