-- ==== Sys2Proof/Machine/Run.lean ====
section
/-! DEFINITION. The frame of every command: what a step does after the command's own effect (logs 7, 8), and how a
request is taken, decided and answered (R168, R169, R172). -/

namespace Sys2Proof.Machine

/-- The end of a step: a waiting PUTAWAY job chooses again (R103), the dispatch evaluation is made (R91), and a free
transmit line takes its next frame (R170). -/
def State.settle (s : State) : State :=
  let s := if s.awaitDue then s.awaitChoice else s
  let s := if s.evalDue then s.evaluate 16 else s
  { s with evalDue := false, awaitDue := false, link := s.link.choose }

/-- The state a command works on: the marks of the step are clear (log 25). -/
def State.fresh (s : State) : State := { s with evalDue := false, awaitDue := false }

/-- A command's effect as a step's outcome. -/
def run (f : State → State) (s : State) : Host.Outcome State Fault Refusal := .next (f s.fresh).settle

/-- The standing change of an input becomes its event; `f` is the meaning of the input's event to a level (R1). -/
def State.inputStood (s : State) (x : Sensor) (f : Bool → State → State) : State :=
  f (!s.inputs.level x) (s.setInputs (s.inputs.noteEvent x))

/-- An input shows a level, behind its bounce filter (R1, log 20). A level unlike the filtered one begins to stand; it is
dropped where the input goes back before it has stood for 2 ms, and is an event once it has. -/
def filtered (x : Sensor) (level : Bool) (f : Bool → State → State) (s : State) : State :=
  match s.inputs.changing x with
  | none => if s.inputs.level x = level then s else s.setInputs (s.inputs.noteChange x)
  | some 0 =>
    if s.inputs.level x = level then
      let s := s.inputStood x f
      s.setInputs (s.inputs.noteChange x)
    else s.inputStood x f
  | some _ => if s.inputs.level x = level then s.setInputs (s.inputs.noteEvent x) else s

/-- The kinds the settings lock refuses (R172). -/
def lockedKind (k : Nat) : Bool := k == 0x01 || k == 0x02 || k == 0x03 || k == 0x05

/-- The decision of a request: kind, fit, lock, owner (R169). -/
def State.decided (s : State) (kind : Nat) (body : List Byte) (owner : State → State × ReplyBody) :
    State × ReplyBody :=
  if !isRequestKind kind then (s, .code .unknownKind)
  else if !bodyFits kind body then (s, .code .badLength)
  else if lockedKind kind && s.link.lock then (s, .code .locked)
  else owner s

/-- The request handed on is decided and its reply is formed (R169). -/
def State.decide (s : State) (kind : Nat) (body : List Byte) (owner : State → State × ReplyBody) : State :=
  let r := s.decided kind body owner
  r.1.setLink (r.1.link.answer r.2)

/-- A good frame reaches request intake (R167, R168). -/
def State.intake (s : State) (kind tag : Byte) (body : List Byte) : State :=
  s.setLink (({ s.link with framer := .hunting } : Link).intake kind tag body)

/-- Is the request the one handed on next (R169)? -/
def State.isNext (s : State) (kind tag : Byte) (body : List Byte) : Bool :=
  s.link.next? == some ⟨kind, tag, body, none⟩

/-- A request command: the request is decided where it is the one handed on next; otherwise its frame is received, and
it is decided where it is then the next (log 3). -/
def State.request (s : State) (kind : Nat) (tag : Byte) (body : List Byte) (owner : State → State × ReplyBody) : State :=
  let k := byte kind
  if s.isNext k tag body then s.decide kind body owner
  else
    let s := s.intake k tag body
    if s.isNext k tag body then s.decide kind body owner else s

/-- A refusal changes nothing (R171). -/
def State.refuse (s : State) (r : Result) : State × ReplyBody := (s, .code r)

/-- An acceptance whose reply carries the code alone. -/
def State.accept (s : State) : State × ReplyBody := (s, .code .ok)

end Sys2Proof.Machine
end

