-- ==== Sys2Proof/Machine/Homing.lean ====
section
/-! DEFINITION. Shared operations of homing (R117, R118): its three parts and its completion. -/

namespace Sys2Proof.Machine

/-- The axes that search their home switch in the present part of homing (R117). -/
def Gantry.searching (g : Gantry) (a : Axis) : Bool :=
  if g.state = .homing then
    match g.homing, a with
    | 1, .lin .Z => true
    | 2, .T => true
    | 3, .lin .X => !g.axes.x.homed
    | 3, .lin .Y => !g.axes.y.homed
    | _, _ => false
  else false

/-- An axis is at its home position and homed (R117). -/
def Gantry.found (g : Gantry) (a : Axis) : Gantry :=
  match a with
  | .lin .Z => g.setAxis .Z ⟨some 3200, true, none⟩
  | .lin .X => g.setAxis .X ⟨some 0, true, none⟩
  | .lin .Y => g.setAxis .Y ⟨some 0, true, none⟩
  | .T => { g with t := ⟨some .t0, true, none⟩ }

/-- The gantry acts on a retained job with a carried item after homing: STOPPED, BUSY or AWAIT_PUTAWAY, and the watch of
the carry begins (R117, R141). -/
def State.homedWithItem (s : State) : State :=
  let s := s.toPutaway.setPhase .travel
  match s.job with
  | none => s.gantryTo .idle
  | some j =>
    if j.dest = none then (s.gantryTo .awaitPutaway).carryTest
    else if s.cell.run.going then
      let s := (s.gantryTo .busy).carryTest
      if s.gantry.state = .busy then s.retravel else s
    else (s.gantryTo .stopped).carryTest

/-- Homing is complete (R117). -/
def State.homingComplete (s : State) : State :=
  let s := s.setGantry { s.gantry with kept := none }
  match s.job with
  | none => s.gantryTo .idle
  | some j => if j.carried.isSome then s.homedWithItem else (s.cancelJob).gantryTo .idle

/-- X and Y start their part: a home switch that stands active counts at once, and an end limit that stands active
toward which an axis would move fails homing (R117, R118, log 14). -/
def State.homingXY (s : State) : State :=
  let s := s.setGantry { s.gantry with homing := 3 }
  if (s.inputs.limitLow.x && !s.inputs.homeX) || (s.inputs.limitLow.y && !s.inputs.homeY) then s.homingFault .limit
  else
    let s := if s.inputs.homeX then s.setGantry (s.gantry.found (.lin .X)) else s
    let s := if s.inputs.homeY then s.setGantry (s.gantry.found (.lin .Y)) else s
    if s.gantry.axes.x.homed && s.gantry.axes.y.homed then s.homingComplete else s

/-- T starts its part (R117). -/
def State.homingT (s : State) : State :=
  let s := s.setGantry { s.gantry with homing := 2 }
  if s.inputs.homeT then (s.setGantry (s.gantry.found .T)).homingXY else s

/-- Z starts its part (R117, R118). -/
def State.homingZ (s : State) : State :=
  let s := s.setGantry { s.gantry with homing := 1 }
  if s.inputs.homeZ then (s.setGantry (s.gantry.found (.lin .Z))).homingT
  else if s.inputs.limitHigh.z then s.homingFault .limit
  else s

/-- HOME is accepted: marks cleared, counters invalid until found again (log 14), a fault cause kept aside (R117). -/
def State.homingStart (s : State) : State :=
  let g := s.gantry
  let kept :=
    match g.state with
    | .faulted c => some c
    | _ => none
  let s := s.setGantry { g with
    kept := kept
    axes := ⟨.unhomed, .unhomed, .unhomed⟩
    t := ⟨none, false, none⟩
    motion := .none }
  (s.gantryTo .homing).homingZ

/-- A searching axis finds its home switch (R117). -/
def State.homeFound (s : State) (a : Axis) : State :=
  let s := s.setGantry (s.gantry.found a)
  match a with
  | .lin .Z => s.homingT
  | .T => s.homingXY
  | _ => if s.gantry.axes.x.homed && s.gantry.axes.y.homed then s.homingComplete else s

end Sys2Proof.Machine
end

