-- ==== Sys2Proof/Machine/Operation.lean ====
section
/-! DEFINITION. Meanings of the operating requests (R171's third group). -/

namespace Sys2Proof.Machine

/-! ### HOME (R117) -/

/-- Is HOME accepted (R117)? -/
def State.mayHome (s : State) : Bool :=
  (match s.gantry.state with
    | .unhomed => true
    | .faulted c => c != .drop || !s.gripper.dropMark
    | _ => false)
  && (match s.cell.run with
    | .off => true
    | .paused _ => true
    | _ => false)
  && !s.inputs.door && !s.inputs.curtain.a && !s.inputs.curtain.b

/-- The decision of HOME. -/
def ownHome (s : State) : State × ReplyBody := if s.mayHome then s.homingStart.accept else s.refuse .state

/-- HOME. -/
def execHome (tag : Byte) (body : List Byte) (s : State) : Host.Outcome State Fault Refusal :=
  run (fun s => s.request 0x20 tag body ownHome) s

/-! ### START, STOP, PAUSE, RESUME (R153) -/

/-- The decision of START. -/
def ownStart (s : State) : State × ReplyBody :=
  if s.cell.run ≠ .off then s.refuse .state
  else if !s.gantry.geomDefined then s.refuse .undefined
  else if s.gantry.state ≠ .idle then s.refuse .state
  else if s.inputs.door then s.refuse .state
  else ((s.setCellRun .run).dispatchEvent).accept

/-- START. -/
def execStart (tag : Byte) (body : List Byte) (s : State) : Host.Outcome State Fault Refusal :=
  run (fun s => s.request 0x21 tag body ownStart) s

/-- A memory with every remembered RUN changed into FINISHING (R153). -/
def GuardMem.finishing : GuardMem → GuardMem
  | .ret _ => .ret .finishing
  | .paused _ => .paused .finishing

/-- The run state after STOP (R153). -/
def CellRun.stopped (c : CellRun) (hasJob : Bool) : CellRun :=
  match c with
  | .off => .off
  | .run => if hasJob then .finishing else .off
  | .finishing => .finishing
  | .paused _ => if hasJob then .paused .finishing else .off
  | .guardStopped m cs => if hasJob then .guardStopped m.finishing cs else .off

/-- The decision of STOP. -/
def ownStop (s : State) : State × ReplyBody := (s.setCellRun (s.cell.run.stopped s.job.isSome)).accept

/-- STOP. -/
def execStop (tag : Byte) (body : List Byte) (s : State) : Host.Outcome State Fault Refusal :=
  run (fun s => s.request 0x22 tag body ownStop) s

/-- The run state after an accepted PAUSE; none where it is refused (R153). -/
def CellRun.pause : CellRun → Option CellRun
  | .off => none
  | .run => some (.paused .run)
  | .finishing => some (.paused .finishing)
  | .paused r => some (.paused r)
  | .guardStopped _ _ => none

/-- The decision of PAUSE of kind QUICK: a quick stop, in PAUSED as well. -/
def ownPauseQuick (s : State) : State × ReplyBody :=
  match s.cell.run.pause with
  | none => s.refuse .state
  | some r => ((s.setCellRun r).quickStop).accept

/-- The decision of PAUSE of kind RAMPED: a ramped stop from RUN or FINISHING, nothing in PAUSED. -/
def ownPauseRamped (b : List Byte) (s : State) : State × ReplyBody :=
  if u8 b 0 ≠ 0 then s.refuse .range
  else
    match s.cell.run.pause with
    | none => s.refuse .state
    | some r => (if s.cell.run = r then s else (s.setCellRun r).rampedStop).accept

/-- PAUSE_QUICK: a PAUSE whose kind byte is 1 (R185). -/
def execPauseQuick (tag : Byte) (body : List Byte) (s : State) : Host.Outcome State Fault Refusal :=
  run (fun s => if u8 body 0 = 1 then s.request 0x23 tag body ownPauseQuick else s) s

/-- PAUSE_RAMPED: a PAUSE whose kind byte is not 1 (R185). -/
def execPauseRamped (tag : Byte) (body : List Byte) (s : State) : Host.Outcome State Fault Refusal :=
  run (fun s => if u8 body 0 = 1 then s else s.request 0x23 tag body (ownPauseRamped body)) s

/-- The decision of RESUME. -/
def ownResume (s : State) : State × ReplyBody :=
  match s.cell.run with
  | .paused r => ((s.setCellRun (r.back s.job.isSome)).returned).accept
  | .guardStopped m c =>
    if c.none? then ((s.setCellRun (m.back s.job.isSome)).returned).accept else s.refuse .state
  | _ => s.refuse .state

/-- RESUME. -/
def execResume (tag : Byte) (body : List Byte) (s : State) : Host.Outcome State Fault Refusal :=
  run (fun s => s.request 0x24 tag body ownResume) s

/-! ### RECOVER (R142) -/

/-- The drop mark is cleared. -/
def State.answerDrop (s : State) : State := s.setGripper { s.gripper with dropMark := false }

/-- The decision of RECOVER. -/
def ownRecover (b : List Byte) (s : State) : State × ReplyBody :=
  if 2 < u8 b 0 then s.refuse .range
  else if !s.gripper.dropMark then s.refuse .state
  else
    match u8 b 0 with
    | 1 => (s.answerDrop.debris .A).accept
    | 2 => (s.answerDrop.debris .B).accept
    | _ => s.answerDrop.accept

/-- RECOVER. -/
def execRecover (tag : Byte) (body : List Byte) (s : State) : Host.Outcome State Fault Refusal :=
  run (fun s => s.request 0x25 tag body (ownRecover body)) s

/-! ### GRIPPER_RESET (R148) -/

/-- Is a zone's fault input active, and which event reports it (R145, log 29)? -/
def Inputs.faultOf (i : Inputs) (z : Zone) : Option GripEvent :=
  if i.overcurrent.get z then some .zoneOvercurrent
  else if i.openLoad.get z then some .zoneOpenLoad
  else none

/-- A zone becomes FAULTED: both valves OFF, and its GRIP report (R145). -/
def State.zoneFault (s : State) (z : Zone) (e : GripEvent) : State :=
  (s.setGripper { s.gripper with zones := s.gripper.zones.set z ⟨.off, false, true⟩ }).gripReport e (some z)
    (s.job.map Job.ref) (none, none)

/-- Steps 1 to 3 of R148. -/
def Gripper.cleared (g : Gripper) : Gripper :=
  { g with
    counter := 0
    decay := none
    state := if g.state = .lockedOut then .idle else g.state
    zones := g.zones.map (fun z => { z with faulted := false }) }

/-- Step 4 of R148: a zone whose fault input is active becomes FAULTED again. -/
def State.refault (s : State) (z : Zone) : State :=
  match s.inputs.faultOf z with
  | some e => s.zoneFault z e
  | none => s

/-- The decision of GRIPPER_RESET. -/
def ownGripperReset (s : State) : State × ReplyBody :=
  let was := s.gripper.state
  if was ≠ .idle ∧ was ≠ .lockedOut then s.refuse .state
  else
    let s := allZones.foldl State.refault (s.setGripper s.gripper.cleared)
    let s := if was = .lockedOut then s.dispatchEvent else s
    (s, .gripperReset s.gripper.counter s.gripper.state s.gripper.faultedSet)

/-- GRIPPER_RESET. -/
def execGripperReset (tag : Byte) (body : List Byte) (s : State) : Host.Outcome State Fault Refusal :=
  run (fun s => s.request 0x26 tag body ownGripperReset) s

/-! ### CLEAR_SLOT (R84) -/

/-- The decision of CLEAR_SLOT. Its SLOT report carries slot, state and cause: DESIGN CHOICE, log 53. -/
def ownClearSlot (b : List Byte) (s : State) : State × ReplyBody :=
  match slot? (u8 b 0) with
  | none => s.refuse .range
  | some i =>
    match s.slots[i] with
    | .empty _ => s.accept
    | .held _ _ _ => s.refuse .state
    | .blocked =>
      if s.inputs.slotPresence[i] then s.refuse .state
      else (((s.setSlot i (.empty false)).report (.slot i .empty .cleared none)).slotEvent).accept

/-- CLEAR_SLOT. -/
def execClearSlot (tag : Byte) (body : List Byte) (s : State) : Host.Outcome State Fault Refusal :=
  run (fun s => s.request 0x27 tag body (ownClearSlot body)) s

/-! ### STATION_HOLD, STATION_RESUME (R158) -/

/-- The decision of STATION_HOLD. -/
def ownStationHold (b : List Byte) (s : State) : State × ReplyBody :=
  match station? (u8 b 0) with
  | none => s.refuse .range
  | some st =>
    match (s.stn.get st).mode with
    | .plain .building => (s.holdStation st .host).accept
    | .plain (.held _) => s.accept
    | _ => s.refuse .state

/-- STATION_HOLD. -/
def execStationHold (tag : Byte) (body : List Byte) (s : State) : Host.Outcome State Fault Refusal :=
  run (fun s => s.request 0x28 tag body (ownStationHold body)) s

/-- The decision of STATION_RESUME. -/
def ownStationResume (b : List Byte) (s : State) : State × ReplyBody :=
  match station? (u8 b 0) with
  | none => s.refuse .range
  | some st =>
    match (s.stn.get st).mode with
    | .plain (.held .sheetsOut) => s.refuse .state
    | .plain (.held _) => (s.returnToBuilding st).accept
    | _ => s.refuse .state

/-- STATION_RESUME. -/
def execStationResume (tag : Byte) (body : List Byte) (s : State) : Host.Outcome State Fault Refusal :=
  run (fun s => s.request 0x29 tag body (ownStationResume body)) s

/-! ### PURGE_LANE (R72), RESTART (R179) -/

/-- The decision of PURGE_LANE. -/
def ownPurgeLane (b : List Byte) (s : State) : State × ReplyBody :=
  match lane? (u8 b 0) with
  | none => s.refuse .range
  | some l =>
    let n := (s.lanes.get l).fifo.length
    (if (s.lanes.get l).purging then s else s.enterPurge l .host, .laneRecords n)

/-- PURGE_LANE. -/
def execPurgeLane (tag : Byte) (body : List Byte) (s : State) : Host.Outcome State Fault Refusal :=
  run (fun s => s.request 0x2A tag body (ownPurgeLane body)) s

/-- RESTART: decided OK; its clear follows the sending of its reply (R179, FRAME_SENT). -/
def execRestart (tag : Byte) (body : List Byte) (s : State) : Host.Outcome State Fault Refusal :=
  run (fun s => s.request 0x2B tag body State.accept) s

end Sys2Proof.Machine
end

