-- ==== Sys2Proof/Machine/GripperEvents.lean ====
section
/-! DEFINITION. Meanings of the gripper's events (chapter 07). -/

namespace Sys2Proof.Machine

/-- A zone's reading is taken: a grip is tested, and a carry is watched (R138, R141). -/
def State.reading (s : State) (z : Zone) (v : Nat) : State :=
  ((s.setInputs { s.inputs with reading := s.inputs.reading.set z v }).gripTest).carryTest

/-- VACUUM_READING. -/
def execVacuumReading (zone : Zone) (value : Nat) (s : State) : Host.Outcome State Fault Refusal :=
  run (fun s => s.reading zone value) s

/-- The grip timer ends (R138). -/
def State.gripTimerEnds (s : State) : State :=
  let g := s.gripper
  if g.state = .gripping then
    if g.attempt = 1 then s.setGripper { g with attempt := 2, timer := some g.set.gripMs } else s.gripFail .failTimeout
  else s

/-- GRIP_TIMER_EXPIRY. -/
def execGripTimerExpiry (s : State) : Host.Outcome State Fault Refusal := run State.gripTimerEnds s

/-- The release timer ends (R143, R144). -/
def State.releaseTimerEnds (s : State) : State :=
  if s.gripper.state = .releasing then
    let s := s.setGripper { s.gripper.mapUsed (ZoneRec.setBlow false) with timer := none }
    if s.letGo then s.releaseComplete
    else if s.gripper.attempt = 1 then s.setGripper (s.gripper.blow 2)
    else s.releaseStuck
  else s

/-- RELEASE_TIMER_EXPIRY. -/
def execReleaseTimerExpiry (s : State) : Host.Outcome State Fault Refusal := run State.releaseTimerEnds s

/-- A zone's pull-in time ends: its valve goes to pulse-width drive (R134). -/
def State.pullInEnds (s : State) (z : Zone) : State :=
  let r := s.gripper.zones.get z
  match r.valve with
  | .hold ms =>
    s.setGripper { s.gripper with zones := s.gripper.zones.set z { r with valve := .hold (max ms s.gripper.set.pullIn) } }
  | _ => s

/-- PULL_IN_EXPIRY. -/
def execPullInExpiry (zone : Zone) (s : State) : Host.Outcome State Fault Refusal := run (fun s => s.pullInEnds zone) s

/-- Level of a fault input. -/
def Inputs.setFault (i : Inputs) (z : Zone) (k : FaultKind) (v : Bool) : Inputs :=
  match k with
  | .overcurrent => { i with overcurrent := i.overcurrent.set z v }
  | .openLoad => { i with openLoad := i.openLoad.set z v }

/-- The GRIP event of a fault input (R145). -/
def faultEvent : FaultKind → GripEvent
  | .overcurrent => .zoneOvercurrent
  | .openLoad => .zoneOpenLoad

/-- A used zone leaves a grip in progress: the grip goes on, ends in GRIPPED, or fails for want of zones (R146). -/
def State.gripLosesZone (s : State) (z : Zone) : State :=
  let s := s.setGripper { s.gripper with used := s.gripper.used.set z false }
  match s.job with
  | none => s
  | some j =>
    if zoneCount s.gripper.used < (s.gripNeeds (s.sourceCase j)).2 then s.gripFail .failZones else s.gripTest

/-- What a zone fault does to the sequence in progress (R145). -/
def State.zoneFaultEffect (s : State) (z : Zone) : State :=
  if s.gripper.used.get z then
    match s.gripper.state with
    | .gripping => s.gripLosesZone z
    | .holding => s.carryTest
    | _ => s
  else s

/-- A fault input changes level (R145). Its ZONE_FAULT report shows the used zones as they stood, before the zone leaves the
grip (R146): DESIGN CHOICE, log 40. -/
def State.faultLevel (s : State) (z : Zone) (k : FaultKind) (active : Bool) : State :=
  if s.inputs.fault z k = active then s
  else
    let s := s.setInputs (s.inputs.setFault z k active)
    if active && !(s.gripper.zones.get z).faulted then (s.zoneFault z (faultEvent k)).zoneFaultEffect z else s

/-- FAULT_INPUT. -/
def execFaultInput (zone : Zone) (which : FaultKind) (active : Bool) (s : State) : Host.Outcome State Fault Refusal :=
  run (filtered (.fault zone which) active fun v s => s.faultLevel zone which v) s

/-- A decay period ends: the counter falls by one and the timer starts again or stops. The period is over once the timer has
run for all of it: a growth taken together with the end of the period starts the timer from zero, and no decay follows (R147,
log 2). -/
def State.decays (s : State) : State :=
  let g := s.gripper
  match g.decay with
  | none => s
  | some n =>
    if Config.decayPeriod ≤ n then
      s.setGripper { g with counter := g.counter - 1, decay := if g.counter ≤ 1 then none else some 0 }
    else s

/-- DECAY_EXPIRY. -/
def execDecayExpiry (s : State) : Host.Outcome State Fault Refusal := run State.decays s

end Sys2Proof.Machine
end

