-- ==== Sys2Proof/Machine/GuardEvents.lean ====
section
/-! DEFINITION. Meanings of the events of the door, the curtains, the pallet sensors and the warning field, and of the
departure ticks (chapter 08). -/

namespace Sys2Proof.Machine

/-- The door switch changes level (R154). -/
def State.doorInput (s : State) (isOpen : Bool) : State :=
  if s.inputs.door = isOpen then s
  else
    let s := s.setInputs { s.inputs with door := isOpen }
    if isOpen then s.guardStop .door none else s.guardClear .door none

/-- DOOR. -/
def execDoor (isOpen : Bool) (s : State) : Host.Outcome State Fault Refusal :=
  run (filtered .door isOpen fun v s => s.doorInput v) s

def State.setCurtain (s : State) (st : StationId) (broken : Bool) : State :=
  s.setInputs { s.inputs with curtain := s.inputs.curtain.set st broken }

/-- The station state entered at a break: EXCHANGE, remembering what it left (R159). -/
def Mode.broken : Mode → Mode
  | .plain m => .exchange m
  | .exchange m => .exchange m

/-- A curtain breaks (R159): the history starts, the cell takes the break where the gantry is in the zone, GUARD is
reported ahead of STATION (log 7), the station enters EXCHANGE, and the gantry stops. -/
def State.curtainBreaks (s : State) (st : StationId) : State :=
  if s.inputs.curtain.get st then s
  else
    let inZone := s.gantryInZone st
    let s := s.setCurtain st true
    let n := s.stn.get st
    let s := s.setStn st { n with absentSeen := !s.inputs.pallet.get st }
    let r := if inZone then s.cell.run.trip (.curtain st) else (s.cell.run, false)
    let s := s.setCellRun r.1
    let s := s.report (.guard (.curtain st) true s.cell.run r.2 (some n.mode.broken) (some inZone))
    let s := s.stationSet st n.mode.broken
    if inZone then s.guardHalt r.2 else s

/-- A curtain is restored: the station first and the cell afterwards (R160). That the GUARD report shows whether the gantry
was in the zone as the event came, before the station's part of it (R155), is the model's: DESIGN CHOICE, log 47. -/
def State.curtainRestored (s : State) (st : StationId) : State :=
  if s.inputs.curtain.get st then
    let inZone := s.gantryInZone st
    ((s.setCurtain st false).exchangeEnd st).guardClear (.curtain st) (some inZone)
  else s

/-- A curtain changes level: it breaks or is restored. -/
def State.curtainInput (s : State) (st : StationId) (broken : Bool) : State :=
  if broken then s.curtainBreaks st else s.curtainRestored st

/-- CURTAIN_BREAK. -/
def execCurtainBreak (st : StationId) (s : State) : Host.Outcome State Fault Refusal :=
  run (filtered (.curtain st) true fun v s => s.curtainInput st v) s

/-- CURTAIN_RESTORE. -/
def execCurtainRestore (st : StationId) (s : State) : Host.Outcome State Fault Refusal :=
  run (filtered (.curtain st) false fun v s => s.curtainInput st v) s

/-- A pallet-present sensor changes level: part of the history during a break, and otherwise the station becomes
UNVERIFIED (R159, R161). -/
def State.palletInput (s : State) (st : StationId) (on : Bool) : State :=
  if s.inputs.pallet.get st = on then s
  else
    let s := s.setInputs { s.inputs with pallet := s.inputs.pallet.set st on }
    match (s.stn.get st).mode with
    | .exchange _ => if on then s else s.setStn st { s.stn.get st with absentSeen := true }
    | .plain _ => s.stationSet st (.plain .unverified)

/-- PALLET_PRESENT. -/
def execPalletPresent (st : StationId) (on : Bool) (s : State) : Host.Outcome State Fault Refusal :=
  run (filtered (.pallet st) on fun v s => s.palletInput st v) s

/-- Every moving axis takes a change of the speed cap (R128). -/
def Gantry.recap (g : Gantry) (cap : Bool) (speed : Nat) : Gantry :=
  { g with axes := g.axes.map (fun a => { a with move := a.move.map (fun m => m.recap cap speed a.at) }) }

/-- The warning-field input changes level (R128, R155); axes that ramp to rest do not take it. -/
def State.warningInput (s : State) (active : Bool) : State :=
  if s.inputs.warning = active then s
  else
    let s := s.setInputs { s.inputs with warning := active }
    let s : State :=
      match s.gantry.motion with
      | .toRest _ => s
      | _ => s.setGantry (s.gantry.recap active ((s.job.map Job.speed).getD 0))
    s.guardReport .warning active false none

/-- WARNING_FIELD. -/
def execWarningField (active : Bool) (s : State) : Host.Outcome State Fault Refusal :=
  run (filtered .warning active fun v s => s.warningInput v) s

/-! ### Departure budget (R162) -/

/-- The tick that takes a departure to 0: PASSED, DUE_PASSED, and the schedule (R162, R164). R162 names the event of this
report alone; that it carries the station and nothing else is the model's: DESIGN CHOICE, log 52. -/
def State.departurePassed (s : State) (st : StationId) : State :=
  ((s.setStn st { s.stn.get st with departure := .passed }).report (.duePassed st)).reschedule st

/-- A tick of a COUNTING departure (R162, R164). -/
def State.departureTick (s : State) (st : StationId) : State :=
  match (s.stn.get st).departure with
  | .counting n =>
    if n ≤ 1 then s.departurePassed st
    else (s.setStn st { s.stn.get st with departure := .counting (n - 1) }).reschedule st
  | _ => s

/-- DEPARTURE_TICK. -/
def execDepartureTick (st : StationId) (s : State) : Host.Outcome State Fault Refusal :=
  run (fun s => s.departureTick st) s

/-- DUE_PASSED: the tick that takes the seconds remaining from 1 to 0 (log 24). -/
def execDuePassed (st : StationId) (s : State) : Host.Outcome State Fault Refusal :=
  run (fun s => if (s.stn.get st).departure = .counting 1 then s.departurePassed st else s) s

end Sys2Proof.Machine
end

