-- ==== Sys2Proof/Machine/InfeedEvents.lean ====
section
/-! DEFINITION. Meanings of the events of the infeed, the shelf and the spill table (chapter 04). -/

namespace Sys2Proof.Machine

/-! ### Arrivals -/

/-- Do two lengths differ by at most a tolerance (R69)? -/
def near (x y tol : Nat) : Bool := x ≤ y + tol && y ≤ x + tol

/-- Orientation of a case by its measured footprint; none where neither matches (R69). -/
def orientationOf (m : Measured) (t : CaseType) : Option Turn :=
  if near m.len t.len t.dtol && near m.wid t.wid t.dtol then some .t0
  else if near m.len t.wid t.dtol && near m.wid t.len t.dtol then some .t90
  else none

/-- Checks 5 to 7 of R68 on a record of a defined type: disposition and orientation. -/
def checkCase (m : Measured) (t : CaseType) : Disposition × Option Turn :=
  match orientationOf m t with
  | none => (.runOff .size, none)
  | some o =>
    if !near m.hei t.hei t.dtol then (.runOff .size, none)
    else if t.wn * (100 + t.wtol) < m.wei * 100 then (.runOff .overweight, some o)
    else if m.wei * 100 < t.wn * (100 - t.wtol) then (.runOff .underweight, some o)
    else (.accepted, some o)

/-- The seven arrival checks (R68): disposition and orientation. -/
def Directory.checkArrival (d : Directory) (b : ScanBody) (type : Option Nat) : Disposition × Option Turn :=
  match b.status with
  | .badCheck => (.runOff .badCheck, none)
  | .noRead => (.runOff .noRead, none)
  | .multiLabel => (.runOff .multiLabel, none)
  | .ok =>
    match type.bind d.typeAt, b.meas with
    | some t, some m => checkCase m t
    | _, _ => (.runOff .unknownArticle, none)

/-- The one lookup of an arrival in the article table (R11, R67): every code that the frame's decoding gives is looked up,
whatever the read status (R186). -/
def Directory.lookupScan (d : Directory) (b : ScanBody) : Option Nat := b.code.bind d.lookup

/-- The arrival record of a complete scanner frame (R67, R68). The code is decoded and looked up for every frame (R186); the
record holds the code, and the type the lookup found, where the read status is OK (R67): DEDUCED, log 44. -/
def State.arrivalRec (s : State) (l : LaneId) (frame : List Byte) : ArrivalRec :=
  let n := s.lanes.get l
  let b := scanBody frame
  let found := s.dir.lookupScan b
  let c := s.dir.checkArrival b found
  ⟨l, n.seq, b.status, b.recorded b.code, b.recorded found, b.meas, c.2, c.1, n.purging⟩

/-- An arrival (R67, R70, R71, R73): the record is made, stored where there is room and reported, and an overrun of a
lane in RUN enters PURGE. -/
def State.arrive (s : State) (l : LaneId) (frame : List Byte) : State :=
  let n := s.lanes.get l
  let r := s.arrivalRec l frame
  let room := n.fifo.length < Config.fifoMax
  let n2 := { n with seq := (n.seq + 1) % 256, fifo := if room then n.fifo ++ [r] else n.fifo }
  let s := (s.setLane l n2).report (.arrival r room n2.fifo.length)
  if !room && !n.purging then s.enterPurge l .overrun else s

/-- A lane's receiver takes one byte; a complete frame is an arrival (R66). -/
def State.scan (s : State) (l : LaneId) (b : Byte) : State :=
  let r := scanByte (s.lanes.get l).rx b
  let s := s.setLane l { s.lanes.get l with rx := r.1 }
  match r.2 with
  | some f => s.arrive l f
  | none => s

/-- A lane's receiver takes bytes in turn. -/
def State.scanAll (s : State) (l : LaneId) (bs : List Byte) : State := bs.foldl (fun s b => s.scan l b) s

/-- A frame being assembled is discarded (R66). -/
def State.scanDrop (s : State) (l : LaneId) : State := s.setLane l { s.lanes.get l with rx := .hunting }

/-- ARRIVAL: the bytes of a complete scanner frame (R66, R67). -/
def execArrival (lane : LaneId) (bytes : List Byte) (s : State) : Host.Outcome State Fault Refusal :=
  run (fun s => s.scanAll lane bytes) s

/-- SCANNER_GAP_TIMEOUT: bytes, then a gap that discards the frame (R66). -/
def execScannerGapTimeout (lane : LaneId) (before : List Byte) (s : State) : Host.Outcome State Fault Refusal :=
  run (fun s => (s.scanAll lane before).scanDrop lane) s

/-- SCANNER_STOP_BIT_ERROR: bytes, then a byte with a stop-bit error that discards the frame (R66). -/
def execScannerStopBitError (lane : LaneId) (before : List Byte) (s : State) : Host.Outcome State Fault Refusal :=
  run (fun s => (s.scanAll lane before).scanDrop lane) s

/-! ### The pick point -/

def State.setCasePresent (s : State) (l : LaneId) (on : Bool) : State :=
  s.setInputs { s.inputs with casePresent := s.inputs.casePresent.set l on }

/-- The case-present sensor turns on (R74). -/
def State.caseOn (s : State) (l : LaneId) : State :=
  if s.inputs.casePresent.get l then s
  else
    let s := s.setCasePresent l true
    if (s.lanes.get l).pick = .empty then s.caseArrives l else s

/-- A release ends (R75). -/
def State.releaseEnd (s : State) (l : LaneId) (hasRecord : Bool) (why : Reason) : State :=
  let n := s.lanes.get l
  let r := if hasRecord then n.fifo.head? else none
  let n := if hasRecord then n.pop else n
  let s := (s.setLane l { n with pick := .empty }).report
    (.runOff l why (r.map ArrivalRec.seq) (r.bind ArrivalRec.code) (r.bind ArrivalRec.type))
  s.laneTest l

/-- The front case has been taken away by hand (R77). Its RUN_OFF carries what R75 gives: DESIGN CHOICE, log 53. -/
def State.lostAtPick (s : State) (l : LaneId) : State :=
  let n := s.lanes.get l
  let bound := s.laneBound l
  let r := n.fifo.head?
  let s := (s.setLane l { n.pop with pick := .empty, wait := 0 }).report
    (.runOff l .lostAtPick (r.map ArrivalRec.seq) (r.bind ArrivalRec.code) (r.bind ArrivalRec.type))
  let s := s.laneTest l
  if bound then s.cancelJob else s

/-- The case-present sensor turns off (R75, R76, R77). -/
def State.caseOff (s : State) (l : LaneId) : State :=
  if !s.inputs.casePresent.get l then s
  else
    let s := s.setCasePresent l false
    match (s.lanes.get l).pick with
    | .empty => s
    | .front => s.lostAtPick l
    | .picking => s.setLane l { s.lanes.get l with pick := .empty }
    | .releasing hasRecord why => s.releaseEnd l hasRecord why

/-- A case-present sensor changes level. -/
def State.caseInput (s : State) (l : LaneId) (on : Bool) : State := if on then s.caseOn l else s.caseOff l

/-- CASE_PRESENT_ON. -/
def execCasePresentOn (lane : LaneId) (s : State) : Host.Outcome State Fault Refusal :=
  run (filtered (.casePresent lane) true fun v s => s.caseInput lane v) s

/-- CASE_PRESENT_OFF. -/
def execCasePresentOff (lane : LaneId) (s : State) : Host.Outcome State Fault Refusal :=
  run (filtered (.casePresent lane) false fun v s => s.caseInput lane v) s

/-- The accumulation-empty sensor's level changes, and its change to empty tests a purging lane (R73). -/
def State.emptyInput (s : State) (l : LaneId) (isEmpty : Bool) : State :=
  if s.inputs.laneEmpty.get l = isEmpty then s
  else
    let s := s.setInputs { s.inputs with laneEmpty := s.inputs.laneEmpty.set l isEmpty }
    if isEmpty then s.laneTest l else s

/-- ACCUMULATION_EMPTY. -/
def execAccumulationEmpty (lane : LaneId) (isEmpty : Bool) (s : State) : Host.Outcome State Fault Refusal :=
  run (filtered (.laneEmpty lane) isEmpty fun v s => s.emptyInput lane v) s

/-- The wait of a front case expires: its timer counts and stands at or above the wait limit (R78, R79). Where a held wait
stands so as the cell enters RUN, the evaluation of that step binds first, and the expiry comes in a later step: DESIGN
CHOICE, log 46. -/
def State.waitExpires (s : State) (l : LaneId) : State :=
  if s.waitCounts l ∧ 1000 * s.gantry.waitLimit ≤ (s.lanes.get l).wait then
    let wanted := ((s.frontCase l).map s.wantedRec).getD false
    s.startRelease l true (if wanted then .bufferFull else .notInPlan)
  else s

/-- WAIT_EXPIRY. -/
def execWaitExpiry (lane : LaneId) (s : State) : Host.Outcome State Fault Refusal := run (fun s => s.waitExpires lane) s

/-! ### Shelf and spill table -/

/-- Is a slot the destination of a job in SET_DOWN or RELEASE (R81, R83)? -/
def State.settingDownOn (s : State) (i : SlotId) : Bool :=
  match s.job with
  | some j => j.dest == some (.slot i) && (j.phase == .setDown || j.phase == .release)
  | none => false

/-- Presence turns on (R83). The SLOT report names no record: DESIGN CHOICE, log 53. -/
def State.presenceOn (s : State) (i : SlotId) : State :=
  match s.slots[i] with
  | .empty _ =>
    if s.settingDownOn i then s
    else (((s.setSlot i .blocked).report (.slot i .blocked .presence none)).slotEvent).destLost i
  | _ => s

/-- Presence turns off (R83). The SLOT report carries the state EMPTY too: DESIGN CHOICE, log 53. -/
def State.presenceOff (s : State) (i : SlotId) : State :=
  match s.slots[i] with
  | .empty true => s.setSlot i (.empty false)
  | .held r _ _ =>
    let bound := s.slotBound i
    let s := ((s.setSlot i (.empty false)).report (.slot i .empty .removed (some r.ref))).slotEvent
    if bound then s.cancelJob else s
  | _ => s

/-- A slot's presence sensor changes level (R83). -/
def State.presence (s : State) (i : SlotId) (on : Bool) : State :=
  if s.inputs.slotPresence[i] = on then s
  else
    let s := s.setInputs { s.inputs with slotPresence := s.inputs.slotPresence.set i on }
    if on then s.presenceOn i else s.presenceOff i

/-- SLOT_PRESENCE. -/
def execSlotPresence (slot : SlotId) (on : Bool) (s : State) : Host.Outcome State Fault Refusal :=
  run (filtered (.slot slot) on fun v s => s.presence slot v) s

/-- The spill-table-cleared input changes level (R85, R91, R103). -/
def State.spillInput (s : State) (active : Bool) : State :=
  if s.inputs.spillCleared = active then s
  else
    let s := s.setInputs { s.inputs with spillCleared := active }
    if active then (s.setSpill 0).slotEvent else s

/-- SPILL_TABLE_CLEARED. -/
def execSpillTableCleared (active : Bool) (s : State) : Host.Outcome State Fault Refusal :=
  run (filtered .spillCleared active fun v s => s.spillInput v) s

end Sys2Proof.Machine
end

