-- ==== Sys2Proof/Machine/LinkCommands.lean ====
section
/-! DEFINITION. Meanings of the power and line-link commands (chapter 09). -/

namespace Sys2Proof.Machine

/-- POWER_ON (R178, log 31). -/
def execPowerOn (s : State) : Host.Outcome State Fault Refusal := run State.poweredOn s

/-- The Line Link receives bytes (R167). -/
def State.receive (s : State) (bs : List Byte) : State := s.setLink (s.link.receive bs)

/-- The host framer is put in a state. -/
def State.setFramer (s : State) (r : Receiver) : State := s.setLink { s.link with framer := r }

/-- GOOD_FRAME: the bytes of a frame whose check matches are received (R167, R168, log 32). -/
def execGoodFrame (bytes : List Byte) (s : State) : Host.Outcome State Fault Refusal :=
  run (fun s => s.receive bytes) s

/-- FRAME_CHECK_MISMATCH: the bytes of a frame whose check does not match are received and discarded (R167). -/
def execFrameCheckMismatch (bytes : List Byte) (s : State) : Host.Outcome State Fault Refusal :=
  run (fun s => s.receive bytes) s

/-- BODY_LENGTH_ABOVE_1020: a marker and two length bytes are received; the marker is discarded and the length bytes are
examined as hunting bytes (R167). -/
def execBodyLengthAbove1020 (bytes : List Byte) (s : State) : Host.Outcome State Fault Refusal :=
  run (fun s => s.receive bytes) s

/-- LINK_GAP_TIMEOUT: bytes, a gap that discards the frame being assembled, and the byte that ends the gap as a hunting
byte (R167). -/
def execLinkGapTimeout (before : List Byte) (ending : Byte) (s : State) : Host.Outcome State Fault Refusal :=
  run (fun s => (s.receive before).setFramer (hunt hostMarker ending)) s

/-- LINK_STOP_BIT_ERROR: bytes, then a byte with a stop-bit error that discards the frame being assembled (R167). -/
def execLinkStopBitError (before : List Byte) (s : State) : Host.Outcome State Fault Refusal :=
  run (fun s => (s.receive before).setFramer .hunting) s

/-- Is a reply the OK reply of RESTART (R179)? -/
def Reply.restarts (r : Reply) : Bool := r.kind == 0x2B && r.body == .code .ok

/-- The last byte of the frame on the line has been sent: an answered request leaves the backlog, and the RESTART reply
brings the clear (R168, R170, R179). -/
def State.frameSent (s : State) : State :=
  match s.link.tx with
  | none => s
  | some (.reply r) =>
    let s := s.setLink { s.link with tx := none, backlog := s.link.backlog.drop 1 }
    if r.restarts then s.restartClear else s
  | some _ => s.setLink { s.link with tx := none }

/-- FRAME_SENT (R170). -/
def execFrameSent (s : State) : Host.Outcome State Fault Refusal := run State.frameSent s

/-- UNKNOWN_KIND: a frame whose kind is no request's is answered UNKNOWN_KIND (R169, R181). -/
def execUnknownKind (kind tag : Byte) (body : List Byte) (s : State) : Host.Outcome State Fault Refusal :=
  run (fun s => if isRequestKind kind.toNat then s else s.request kind.toNat tag body State.accept) s

end Sys2Proof.Machine
end

