-- ==== Sys2Proof/Machine/MotionEvents.lean ====
section
/-! DEFINITION. Meanings of the ends of walks and the events of the gantry's axes (R59, R117, R118, R121, R127). -/

namespace Sys2Proof.Machine

/-- WALK_END (R59). -/
def execWalkEnd (st : StationId) (s : State) : Host.Outcome State Fault Refusal := run (fun s => s.walkEnds st) s

/-- A linear axis ends its move at its target, or where a ramp to rest ends it (R113, R123, R125). -/
def LinState.arrived (a : LinState) (m : Move) : LinState := { a with counter := some m.goal, move := none }

/-- Does the T home switch stand as it must after a move to a position: active at 0, inactive at 90 (R108, R115)? -/
def switchAgrees (t : Turn) (active : Bool) : Bool :=
  match t with
  | .t0 => active
  | .t90 => !active

/-- A move of an axis ends; when no axis moves any more the phase goes on, and a wrist that has not turned is a fault
(R115, R121). The position of such a wrist is the target of its move: DESIGN CHOICE, log 37. -/
def State.moveEnds (s : State) (a : Axis) : State :=
  match a with
  | .lin a =>
    let x := s.gantry.axes.get a
    match x.move with
    | none => s
    | some m => (s.setGantry (s.gantry.setAxis a (x.arrived m))).settleMotion
  | .T =>
    match s.gantry.t.move with
    | none => s
    | some t =>
      let s := s.setGantry { s.gantry with t := { s.gantry.t with pos := some t, move := none } }
      if switchAgrees t s.inputs.homeT then s.settleMotion else s.faultStop .stuck

/-- MOVE_END. -/
def execMoveEnd (axis : Axis) (s : State) : Host.Outcome State Fault Refusal := run (fun s => s.moveEnds axis) s

/-- Level of a home switch. -/
def Inputs.setHome (i : Inputs) (a : Axis) (v : Bool) : Inputs :=
  match a with
  | .lin .X => { i with homeX := v }
  | .lin .Y => { i with homeY := v }
  | .lin .Z => { i with homeZ := v }
  | .T => { i with homeT := v }

/-- A home switch changes level; turning active during homing it ends its axis's search (R117). -/
def State.homeInput (s : State) (a : Axis) (active : Bool) : State :=
  if s.inputs.home a = active then s
  else
    let s := s.setInputs (s.inputs.setHome a active)
    if active && s.gantry.searching a then s.homeFound a else s

/-- HOME_SWITCH. -/
def execHomeSwitch (axis : Axis) (active : Bool) (s : State) : Host.Outcome State Fault Refusal :=
  run (filtered (.home axis) active fun v s => s.homeInput axis v) s

/-- HOME_SWITCH_NOT_FOUND: a searching axis has passed its range plus 10 %, or T 200° (R118). -/
def execHomeSwitchNotFound (axis : Axis) (s : State) : Host.Outcome State Fault Refusal :=
  run (fun s => if s.gantry.searching axis then s.homingFault .home else s) s

/-- Level of an end limit switch. -/
def Inputs.setLimit (i : Inputs) (a : LinAxis) (side : AxisEnd) (v : Bool) : Inputs :=
  match side with
  | .low => { i with limitLow := i.limitLow.set a v }
  | .high => { i with limitHigh := i.limitHigh.set a v }

/-- An end limit changes level; turning active on a moving axis it is a fault (R118, R127). -/
def State.limitInput (s : State) (a : LinAxis) (side : AxisEnd) (active : Bool) : State :=
  if s.inputs.limit a side = active then s
  else
    let s := s.setInputs (s.inputs.setLimit a side active)
    if !active then s
    else if s.gantry.searching (.lin a) then s.homingFault .limit
    else if (s.gantry.axes.get a).move.isSome then s.faultStop .limit
    else s

/-- END_LIMIT. -/
def execEndLimit (axis : LinAxis) (side : AxisEnd) (active : Bool) (s : State) : Host.Outcome State Fault Refusal :=
  run (filtered (.limit axis side) active fun v s => s.limitInput axis side v) s

end Sys2Proof.Machine
end

