-- ==== Sys2Proof/Machine/Plans.lean ====
section
/-! DEFINITION. Meanings of the plan requests: LOAD_LAYER, WITHDRAW, CLOSE_PLAN, ABANDON_PLAN, SET_DEPARTURE and
SET_SHEETS (chapters 02, 05 and 08). -/

namespace Sys2Proof.Machine

/-! ### LOAD_LAYER -/

/-- Footprint size of a type at a turn (R19). -/
def footprintOf (t : CaseType) (r : Turn) : Nat × Nat :=
  match r with
  | .t0 => (ceilDiv t.len 50, ceilDiv t.wid 50)
  | .t90 => (ceilDiv t.wid 50, ceilDiv t.len 50)

/-- Do two footprints share a cell (check 11 of R21)? -/
def Placement.overlaps (p q : Placement) : Bool :=
  p.i0 < q.i0 + q.cx && q.i0 < p.i0 + p.cx && p.j0 < q.j0 + q.cy && q.j0 < p.j0 + p.cy

/-- Checks 7 to 11 of R21 for one placement, given the earlier ones of the list: its record or the failing result. -/
def State.checkPlace (s : State) (st : StationId) (earlier : List Placement) (b : PlaceBody) :
    Except Result Placement :=
  match turn? b.turn with
  | none => .error .range
  | some turn =>
    if !(b.type < Config.typeCount && b.aisle ≤ 99 && (b.override.all (fun n => n ≤ 5))) then .error .range
    else
      match s.dir.typeAt b.type with
      | none => .error .undefined
      | some t =>
        let f := footprintOf t turn
        let foot := (s.stack.get st).limits.foot
        let p : Placement :=
          ⟨b.id, b.type, b.i0, b.j0, turn, b.aisle, b.order, b.override, f.1, f.2, .pending, .unswept⟩
        if foot.ni < b.i0 + f.1 || foot.nj < b.j0 + f.2 then .error .outside
        else if s.idInUse st b.id || earlier.any (fun q => q.id == b.id) then .error .overlap
        else if earlier.any (fun q => q.overlaps p) then .error .overlap
        else .ok p

/-- The placements of a list in turn: all their records, or the first failing result with its list position (R21). -/
def State.checkPlaces (s : State) (st : StationId) : List Placement → List PlaceBody → Except (Result × Nat) (List Placement)
  | done, [] => .ok done
  | done, b :: rest =>
    match s.checkPlace st done b with
    | .ok p => s.checkPlaces st (done ++ [p]) rest
    | .error r => .error (r, done.length + 1)

/-- The layer record as it is taken (R16, R22). -/
def LayerBody.record (v : LayerBody) (ps : List Placement) : Layer where
  tag := v.tag
  sheet := v.sheet
  report := v.report
  early := v.early
  earlyEff := v.early && !v.sheet
  sheetDue := v.sheet
  placements := ps
  sheetDone := false
  sheetJob := false

/-- A PUTAWAY job that waits chooses again when a layer with a placement of its case's type is taken (R103). -/
def State.awaitLayer (s : State) (l : Layer) : State :=
  match s.job.bind Job.carried with
  | some (.case r) =>
    if l.placements.any (fun p => r.type == some p.type) then s.destinationEvent else s
  | _ => s

/-- A layer is taken (R22): schedule, stale scan, dispatch event, first-layer event and eligibility change. The schedule is made
anew once for the layer and its placements that become PENDING (R23, R164): DESIGN CHOICE, log 45. -/
def State.takeLayer (s : State) (st : StationId) (l : Layer) : State :=
  let p := s.plan.get st
  let pos := p.queue.length
  let s := s.setPlan st { p with queue := p.queue ++ [l] }
  let s := if pos = 0 then s.setStack st ((s.stack.get st).setSheetVerdict .unswept) else s
  let s := (((s.reschedule st).staleScan).dispatchEvent).awaitLayer l
  let s := if (s.stn.get st).mode = .plain .idle then s.stationSet st (.plain .building) else s
  if pos = 0 ∨ (pos = 1 ∧ l.earlyEff = true) then s.sweepTrigger st else s

/-- The decision of LOAD_LAYER (R21, R22). -/
def ownLoadLayer (b : List Byte) (s : State) : State × ReplyBody :=
  match layerBody? b with
  | none => s.refuse .range
  | some v =>
    let p := s.plan.get v.st
    let mode := (s.stn.get v.st).mode
    if !within v.count 1 40 then s.refuse .range
    else if mode ≠ .plain .idle ∧ mode ≠ .plain .building then s.refuse .state
    else if p.closed then s.refuse .state
    else if Config.layerMax ≤ p.queue.length then s.refuse .full
    else if p.free < v.count then s.refuse .noRoom
    else
      match s.checkPlaces v.st [] v.places with
      | .error (r, pos) => (s, .layerRefused r pos)
      | .ok ps =>
        (s.takeLayer v.st (v.record ps), .layerTaken p.queue.length (p.free - ps.length) (v.record ps).earlyEff)

/-- LOAD_LAYER. -/
def execLoadLayer (tag : Byte) (body : List Byte) (s : State) : Host.Outcome State Fault Refusal :=
  run (fun s => s.request 0x10 tag body (ownLoadLayer body)) s

/-! ### WITHDRAW -/

/-- A PENDING placement is voided by a withdrawal (R30): state, sweep notice and its layer. The schedule takes the void before
the layer is examined, so that SCHEDULE stands before LAYER_DONE: DESIGN CHOICE, log 7. So does the stale scan of the void
(R106), so that its SLOT reports stand before LAYER_DONE too: DESIGN CHOICE, log 55. -/
def State.voidPlacement (s : State) (st : StationId) (id : Nat) : State :=
  ((s.setPState st id .void).noteVoid st id).examineLayers st

/-- The layer that holds a placement. -/
def Plan.layerWith (p : Plan) (id : Nat) : Option Layer :=
  p.queue.find? (fun l => l.placements.any (fun q => q.id == id))

/-- The decision of WITHDRAW of a placement id (R30). -/
def ownWithdrawId (b : List Byte) (s : State) : State × ReplyBody :=
  match station? (u8 b 1) with
  | none => s.refuse .range
  | some st =>
    let id := u16 b 2
    let p := s.plan.get st
    match p.find? id with
    | none => s.refuse .notFound
    | some q =>
      match q.state with
      | .bound => s.refuse .inFlight
      | .placed => s.refuse .state
      | .void => (s, .withdrawn .void none)
      | .pending =>
        let s := s.voidPlacement st id
        let gone := if ((s.plan.get st).find? id).isSome then none else (p.layerWith id).map Layer.tag
        (s, .withdrawn .void gone)

/-- WITHDRAW_ID: a WITHDRAW whose first byte is not 1 (R181). -/
def execWithdrawId (tag : Byte) (body : List Byte) (s : State) : Host.Outcome State Fault Refusal :=
  run (fun s => if u8 body 0 = 1 then s else s.request 0x11 tag body (ownWithdrawId body)) s

/-- A PENDING placement becomes VOID. -/
def Placement.voided (p : Placement) : Placement := if p.state = .pending then { p with state := .void } else p

/-- A layer withdrawn whole: its PENDING placements become VOID and its sheet is no longer due (R31). -/
def Layer.withdrawn (l : Layer) : Layer := { l with placements := l.placements.map Placement.voided, sheetDue := false }

/-- Does a layer hold a BOUND placement or have a SHEET job (R31, R33)? -/
def Layer.inFlight (l : Layer) : Bool := l.sheetJob || l.placements.any (fun p => p.state == .bound)

/-- The first layer with a tag is changed. -/
def changeTag (tag : Nat) (f : Layer → Layer) : List Layer → List Layer
  | [] => []
  | l :: rest => if l.tag = tag then f l :: rest else l :: changeTag tag f rest

/-- The decision of WITHDRAW of a layer tag (R31). The schedule is made anew once for all the placements that the request voids
(R23, R164), and for the clearing of its sheet-due state, which has no recomputation of its own: DESIGN CHOICE, log 45; and before
the layer is removed: log 7. The stale scan too runs once for all of them, before the removal, which has its own (R106), so that
SLOT reports of several types stand in the order of the slots and ahead of LAYER_DONE: DESIGN CHOICE, log 55. -/
def ownWithdrawTag (b : List Byte) (s : State) : State × ReplyBody :=
  match station? (u8 b 1) with
  | none => s.refuse .range
  | some st =>
    let p := s.plan.get st
    match p.queue.find? (fun l => l.tag == u8 b 2) with
    | none => s.refuse .notFound
    | some l =>
      if l.inFlight then s.refuse .inFlight
      else
        let s := s.setPlan st { p with queue := changeTag (u8 b 2) Layer.withdrawn p.queue }
        let ids := (l.placements.filter (fun q => q.state == .pending)).map Placement.id
        let s := ids.foldl (fun s id => s.noteVoid st id) ((s.reschedule st).staleScan)
        (s.examineLayers st, .tagWithdrawn (l.count .pending) (l.count .placed))

/-- WITHDRAW_TAG: a WITHDRAW whose first byte is 1 (R181). -/
def execWithdrawTag (tag : Byte) (body : List Byte) (s : State) : Host.Outcome State Fault Refusal :=
  run (fun s => if u8 body 0 = 1 then s.request 0x11 tag body (ownWithdrawTag body) else s) s

/-! ### CLOSE_PLAN, ABANDON_PLAN -/

/-- A station that is IDLE with plan-closed set becomes COMPLETE; one that is BUILDING by the end of its queue (R32,
R33). -/
def State.closedStation (s : State) (st : StationId) : State :=
  if (s.stn.get st).mode = .plain .idle then s.stationSet st (.plain .complete) else s.endOfQueue st

/-- Plan-closed is set. -/
def Plan.close (p : Plan) : Plan := { p with closed := true }

/-- The decision of CLOSE_PLAN (R32). -/
def ownClosePlan (b : List Byte) (s : State) : State × ReplyBody :=
  match station? (u8 b 0) with
  | none => s.refuse .range
  | some st =>
    if (s.stn.get st).mode = .plain .noPallet then s.refuse .state
    else ((s.setPlan st (s.plan.get st).close).closedStation st).accept

/-- CLOSE_PLAN. -/
def execClosePlan (tag : Byte) (body : List Byte) (s : State) : Host.Outcome State Fault Refusal :=
  run (fun s => s.request 0x12 tag body (ownClosePlan body)) s

/-- A layer at ABANDON_PLAN: its PENDING placements become VOID, and its sheet is no longer due unless a job holds
something of it (R33). -/
def Layer.abandoned (l : Layer) : Layer :=
  { l with
    placements := l.placements.map Placement.voided
    sheetDue := l.sheetDue && l.inFlight }

/-- The plan is marked as abandoned since the binding of a job bound to the station (R24). -/
def State.markAbandoned (s : State) (st : StationId) : State :=
  match s.job with
  | some j => if j.station = some st then s.setJob (some { j with abandoned := true }) else s
  | none => s

/-- The decision of ABANDON_PLAN (R33). The schedule is made anew once for all the placements that the request voids (R23,
R164), and for the clearing of sheet-due that goes with them, which has no recomputation of its own: DESIGN CHOICE, log 45; and
before the layers are removed: log 7.The stale scan too runs once for all of them, before the removals, which have their own
(R106), so that SLOT reports of several types stand in the order of the slots and ahead of LAYER_DONE: DESIGN CHOICE, log 55. -/
def ownAbandonPlan (b : List Byte) (s : State) : State × ReplyBody :=
  match station? (u8 b 0) with
  | none => s.refuse .range
  | some st =>
    let p := s.plan.get st
    let ids := (p.placements.filter (fun q => q.state == .pending)).map Placement.id
    let s := s.setPlan st { queue := p.queue.map Layer.abandoned, closed := true }
    let s := s.markAbandoned st
    let s := ids.foldl (fun s id => s.noteVoid st id) ((s.reschedule st).staleScan)
    let s := ((s.examineLayers st).lossOfTarget st).closedStation st
    (s, .abandoned ids.length (!(s.plan.get st).queue.isEmpty))

/-- ABANDON_PLAN. -/
def execAbandonPlan (tag : Byte) (body : List Byte) (s : State) : Host.Outcome State Fault Refusal :=
  run (fun s => s.request 0x13 tag body (ownAbandonPlan body)) s

/-! ### SET_DEPARTURE -/

/-- May a departure be set in a station state (R162)? -/
def Mode.takesDeparture : Mode → Bool
  | .plain .idle => true
  | .plain .building => true
  | .plain .complete => true
  | .plain (.held _) => true
  | _ => false

/-- The decision of SET_DEPARTURE (R162). -/
def ownSetDeparture (b : List Byte) (s : State) : State × ReplyBody :=
  match station? (u8 b 0) with
  | none => s.refuse .range
  | some st =>
    let n := s.stn.get st
    if !n.mode.takesDeparture then s.refuse .state
    else
      let d : Departure := if u16 b 1 = 0 then .passed else .counting (u16 b 1)
      let s := (s.setStn st { n with departure := d }).reschedule st
      let n := s.stn.get st
      (s, .departureSet n.est n.slack n.status)

/-- SET_DEPARTURE. -/
def execSetDeparture (tag : Byte) (body : List Byte) (s : State) : Host.Outcome State Fault Refusal :=
  run (fun s => s.request 0x14 tag body (ownSetDeparture body)) s

/-! ### SET_SHEETS -/

/-- A station HELD for sheets becomes BUILDING again (R158). -/
def State.sheetsIn (s : State) (st : StationId) : State :=
  if (s.stn.get st).mode = .plain (.held .sheetsOut) then s.returnToBuilding st else s

/-- The decision of SET_SHEETS (R90, R158). Where it ends the hold of both stations, A returns before B, and so their STATION
reports: DESIGN CHOICE, log 7. -/
def ownSetSheets (b : List Byte) (s : State) : State × ReplyBody :=
  let n := u8 b 0
  if Config.magazineMax < n then s.refuse .range
  else
    let s := s.setMagazine n
    (if n = 0 then s else allStations.foldl State.sheetsIn s, .sheetsStored n)

/-- SET_SHEETS. -/
def execSetSheets (tag : Byte) (body : List Byte) (s : State) : Host.Outcome State Fault Refusal :=
  run (fun s => s.request 0x15 tag body (ownSetSheets body)) s

end Sys2Proof.Machine
end

