-- ==== Sys2Proof/Machine/Queries.lean ====
section
/-! DEFINITION. Meanings of the twelve queries (R14, R35, R64, R88, R131, R149, R165); none changes the state but for its
reply. -/

namespace Sys2Proof.Machine

/-- The reply of QUERY_STATION (R165, R64). -/
def State.stationView (s : State) (st : StationId) : StationView :=
  let n := s.stn.get st
  let p := s.plan.get st
  let k := s.stack.get st
  { cell := s.cell
    mode := n.mode
    pallet := s.inputs.pallet.get st
    curtainBroken := s.inputs.curtain.get st
    absentSeen := n.absentSeen
    inZone := s.gantryInZone st
    departure := n.departure
    sheetCost := n.sheetCost
    margin := n.margin
    est := n.est
    slack := n.slack
    status := n.status
    closed := p.closed
    layers := p.queue.length
    free := p.free
    limits := k.limits
    entries := k.table.length
    gross := k.gross
    highest := k.highest
    sweep := k.sweep.state
    sheetVerdict := k.sheetVerdict
    magazine := s.magazine
    stall := s.stall.get st }

/-- The answer of QUERY_STATION (R165). -/
def ansQueryStation (b : List Byte) (s : State) : ReplyBody :=
  match station? (u8 b 0) with
  | none => .code .range
  | some st => .station (s.stationView st)

/-- A query's decision: its answer, and no change. -/
def asked (f : State → ReplyBody) (s : State) : State × ReplyBody := (s, f s)

/-- QUERY_STATION. -/
def execQueryStation (tag : Byte) (body : List Byte) (s : State) : Host.Outcome State Fault Refusal :=
  run (fun s => s.request 0x30 tag body (asked (ansQueryStation body))) s

/-- The reply of QUERY_LAYER (R35). -/
def Plan.layerView (p : Plan) (pos : Nat) (l : Layer) : LayerView where
  tag := l.tag
  sheet := l.sheet
  report := l.report
  early := l.early
  earlyEff := l.earlyEff
  sheetDue := l.sheetDue
  eligible := pos < p.eligible.length
  pending := l.count .pending
  bound := l.count .bound
  placed := l.count .placed
  void := l.count .void
  ids := l.placements.map Placement.id
  layers := p.queue.length
  free := p.free

/-- The answer of QUERY_LAYER (R35). -/
def ansQueryLayer (b : List Byte) (s : State) : ReplyBody :=
  match station? (u8 b 0) with
  | none => .code .range
  | some st =>
    let p := s.plan.get st
    if Config.layerMax ≤ u8 b 1 then .code .range
    else
      match p.queue[u8 b 1]? with
      | none => .code .notFound
      | some l => .layer (p.layerView (u8 b 1) l)

/-- QUERY_LAYER. -/
def execQueryLayer (tag : Byte) (body : List Byte) (s : State) : Host.Outcome State Fault Refusal :=
  run (fun s => s.request 0x31 tag body (asked (ansQueryLayer body))) s

/-- The answer of QUERY_PLACEMENT (R35). -/
def ansQueryPlacement (b : List Byte) (s : State) : ReplyBody :=
  match station? (u8 b 0) with
  | none => .code .range
  | some st =>
    let id := u16 b 1
    let p := s.plan.get st
    let k := s.stack.get st
    match p.find? id, p.layerOf? id with
    | some q, some pos =>
      .placement q pos (((p.queue[pos]?).map Layer.tag).getD 0) (if q.state = .placed then k.indexOf? id else none)
    | _, _ =>
      match k.indexOf? id with
      | some n => .placedOnStack n
      | none => .code .notFound

/-- QUERY_PLACEMENT. -/
def execQueryPlacement (tag : Byte) (body : List Byte) (s : State) : Host.Outcome State Fault Refusal :=
  run (fun s => s.request 0x32 tag body (asked (ansQueryPlacement body))) s

/-- The answer of QUERY_STACK (R64). -/
def ansQueryStack (b : List Byte) (s : State) : ReplyBody :=
  match station? (u8 b 0) with
  | none => .code .range
  | some st =>
    let t := (s.stack.get st).table
    if Config.stackMax ≤ u8 b 1 then .code .range
    else
      match t[u8 b 1]? with
      | none => .code .notFound
      | some e => .stackEntry (u8 b 1) e t.length

/-- QUERY_STACK. -/
def execQueryStack (tag : Byte) (body : List Byte) (s : State) : Host.Outcome State Fault Refusal :=
  run (fun s => s.request 0x33 tag body (asked (ansQueryStack body))) s

/-- The answer of QUERY_SURFACE (R64). -/
def ansQuerySurface (b : List Byte) (s : State) : ReplyBody :=
  match station? (u8 b 0) with
  | none => .code .range
  | some st =>
    let k := s.stack.get st
    if k.limits.foot.nj ≤ u8 b 1 then .code .range
    else .surfaceRow ((List.range k.limits.foot.ni).map (fun i => k.cell i (u8 b 1))) k.highest

/-- QUERY_SURFACE. -/
def execQuerySurface (tag : Byte) (body : List Byte) (s : State) : Host.Outcome State Fault Refusal :=
  run (fun s => s.request 0x34 tag body (asked (ansQuerySurface body))) s

/-- A record as QUERY_LANE shows it (R88). -/
def ArrivalRec.view (r : ArrivalRec) : RecView := ⟨r.seq, r.status, r.type, r.orient, r.disp, r.purge⟩

/-- The answer of QUERY_LANE (R88). -/
def ansQueryLane (b : List Byte) (s : State) : ReplyBody :=
  match lane? (u8 b 0) with
  | none => .code .range
  | some l =>
    let n := s.lanes.get l
    .lane {
      purging := n.purging
      accept := n.accept
      pick := n.pick
      bound := n.pick == .front && s.laneBound l
      wait := n.wait
      limit := s.gantry.waitLimit
      seq := n.seq
      count := n.fifo.length
      records := n.fifo.map ArrivalRec.view }

/-- QUERY_LANE. -/
def execQueryLane (tag : Byte) (body : List Byte) (s : State) : Host.Outcome State Fault Refusal :=
  run (fun s => s.request 0x35 tag body (asked (ansQueryLane body))) s

/-- State of a slot as messages name it (R185). -/
def Slot.name : Slot → SlotCode
  | .empty _ => .empty
  | .held _ _ _ => .held
  | .blocked => .blocked

/-- A slot as QUERY_SHELF shows it; staleness is read at the query (R88). -/
def State.slotView (s : State) (i : SlotId) : SlotView where
  state := (s.slots[i]).name
  presence := s.inputs.slotPresence[i]
  held :=
    match s.slots[i] with
    | .held r t _ => some ⟨r.lane, r.seq, r.type, r.orient, t, s.staleRec r⟩
    | _ => none

/-- The answer of QUERY_SHELF (R88). -/
def ansQueryShelf (s : State) : ReplyBody := .shelf (allSlots.map s.slotView) s.spill

/-- QUERY_SHELF. -/
def execQueryShelf (tag : Byte) (body : List Byte) (s : State) : Host.Outcome State Fault Refusal :=
  run (fun s => s.request 0x36 tag body (asked ansQueryShelf)) s

/-- The answer of QUERY_GANTRY (R131). -/
def ansQueryGantry (b : List Byte) (s : State) : ReplyBody :=
  match slot? (u8 b 0) with
  | none => .code .range
  | some i =>
    let g := s.gantry
    .gantry {
      state := g.state
      counters := g.counters
      homed := ⟨g.axes.x.homed, g.axes.y.homed, g.axes.z.homed⟩
      tPos := g.t.pos
      tHomed := g.t.homed
      cap := s.capInForce
      geomDefined := g.geomDefined
      fixture := g.geometry.fixture
      clearance := g.clearance
      lastTravel := g.lastTravel
      job := s.job
      slot := g.profiles[i] }

/-- QUERY_GANTRY. -/
def execQueryGantry (tag : Byte) (body : List Byte) (s : State) : Host.Outcome State Fault Refusal :=
  run (fun s => s.request 0x37 tag body (asked (ansQueryGantry body))) s

/-- The answer of QUERY_GRIPPER (R149). -/
def ansQueryGripper (s : State) : ReplyBody :=
  let g := s.gripper
  .gripper {
    state := g.state
    attempt := if g.state = .gripping ∨ g.state = .releasing then some g.attempt else none
    timer := g.timer
    zones := g.zones
    reading := s.inputs.reading
    overcurrent := s.inputs.overcurrent
    openLoad := s.inputs.openLoad
    used := g.used
    counter := g.counter
    decay := g.decay
    dropMark := g.dropMark
    set := g.set
    releaseLevel := Config.releaseLevel }

/-- QUERY_GRIPPER. -/
def execQueryGripper (tag : Byte) (body : List Byte) (s : State) : Host.Outcome State Fault Refusal :=
  run (fun s => s.request 0x38 tag body (asked ansQueryGripper)) s

/-- The answer of QUERY_TYPE (R14). -/
def ansQueryType (b : List Byte) (s : State) : ReplyBody :=
  if u8 b 0 < Config.typeCount then
    match s.dir.typeAt (u8 b 0) with
    | none => .typeUndefined
    | some t => .typeDefined t (s.referenced (u8 b 0))
  else .code .range

/-- QUERY_TYPE. -/
def execQueryType (tag : Byte) (body : List Byte) (s : State) : Host.Outcome State Fault Refusal :=
  run (fun s => s.request 0x39 tag body (asked (ansQueryType body))) s

/-- The answer of QUERY_ARTICLE (R14). -/
def ansQueryArticle (b : List Byte) (s : State) : ReplyBody :=
  match code? b 0 with
  | none => .code .range
  | some c =>
    match s.dir.lookup c with
    | none => .code .notFound
    | some n => .article n s.dir.articles.length

/-- QUERY_ARTICLE. -/
def execQueryArticle (tag : Byte) (body : List Byte) (s : State) : Host.Outcome State Fault Refusal :=
  run (fun s => s.request 0x3A tag body (asked (ansQueryArticle body))) s

/-- The answer of QUERY_HANDLING (R14). -/
def ansQueryHandling (b : List Byte) (s : State) : ReplyBody :=
  match s.dir.handling[u8 b 0]? with
  | none => .code .range
  | some h => .handling h

/-- QUERY_HANDLING. -/
def execQueryHandling (tag : Byte) (body : List Byte) (s : State) : Host.Outcome State Fault Refusal :=
  run (fun s => s.request 0x3B tag body (asked (ansQueryHandling body))) s

end Sys2Proof.Machine
end

