-- ==== Sys2Proof/Machine/Settings.lean ====
section
/-! DEFINITION. Meanings of the settings requests (R171's first group). -/

namespace Sys2Proof.Machine

/-! ### SET_CELL (R109) -/

/-- A place within its ranges (R109). -/
def Place.ok (p : Place) (xMax : Nat) : Bool := p.x ≤ xMax && p.y ≤ 2000 && p.h ≤ 1800

/-- The geometry within its ranges, with two station zones that share no X position (R109). -/
def Geometry.ok (g : Geometry) : Bool :=
  g.pick.l1.ok 5200 && g.pick.l2.ok 5200 && g.slots.toList.all (fun p => p.ok 5200) && g.spill.ok 3200
    && g.magazine.ok 5200
    && allStations.all (fun st => g.originX.get st ≤ 4000 && g.originY.get st ≤ 1200
        && g.zoneLow.get st < g.zoneHigh.get st && g.zoneHigh.get st ≤ 5200)
    && (g.zoneHigh.a < g.zoneLow.b || g.zoneHigh.b < g.zoneLow.a)

/-- The decision of SET_CELL (R109). -/
def ownSetCell (b : List Byte) (s : State) : State × ReplyBody :=
  let g := geometryBody b
  if !(g.ok && within (u16 b 88) 50 300 && within (u16 b 90) 10 200 && within (u8 b 92) 1 120) then s.refuse .range
  else if s.cell.run.going || s.job.isSome then s.refuse .state
  else
    (s.setGantry { s.gantry with
      geometry := g, geomDefined := true, clearance := u16 b 88, homingSpeed := u16 b 90, waitLimit := u8 b 92 }).accept

/-- SET_CELL. -/
def execSetCell (tag : Byte) (body : List Byte) (s : State) : Host.Outcome State Fault Refusal :=
  run (fun s => s.request 0x01 tag body (ownSetCell body)) s

/-! ### SET_STATION (R37, R152) -/

/-- Limits within their ranges (R36). -/
def Limits.ok (l : Limits) : Bool := within l.hMax 600 2400 && within l.gMax 1000 12000 && l.tol ≤ 25

/-- Limits are stored; a changed footprint gives a bare map of its size (R37). -/
def Stack.setLimits (k : Stack) (l : Limits) : Stack :=
  if k.limits.foot = l.foot then { k with limits := l } else { k with limits := l, map := bareMap l.foot }

/-- The decision of SET_STATION (R37, R152, R20). -/
def ownSetStation (b : List Byte) (s : State) : State × ReplyBody :=
  match stationBody? b with
  | none => s.refuse .range
  | some v =>
    let k := s.stack.get v.st
    if !(v.limits.ok && within v.sheetCost 10 600 && v.margin ≤ 6000) then s.refuse .range
    else if !k.table.isEmpty then s.refuse .state
    else if (s.outstanding v.st).isSome then s.refuse .state
    else if v.limits.foot ≠ k.limits.foot ∧ (s.plan.get v.st).queue ≠ [] then s.refuse .state
    else
      let s := s.setStack v.st (k.setLimits v.limits)
      let s := s.setStn v.st { s.stn.get v.st with sheetCost := v.sheetCost, margin := v.margin }
      let was := s.cell.run
      let s := s.setAuto v.auto
      let s := (s.reschedule v.st).sweepTrigger v.st
      let s := s.setCellRun s.autoBack
      (if s.cell.run = was then s else s.returned).accept

/-- SET_STATION. -/
def execSetStation (tag : Byte) (body : List Byte) (s : State) : Host.Outcome State Fault Refusal :=
  run (fun s => s.request 0x02 tag body (ownSetStation body)) s

/-! ### SET_PROFILE (R111) -/

/-- Are step speeds strictly increasing (R110)? -/
def increasing : List (Nat × Nat) → Bool
  | a :: b :: rest => a.1 < b.1 && increasing (b :: rest)
  | _ => true

/-- The first failing check of a profile as sent; none where it may be stored (R111). -/
def Profile.fails (p : Profile) : Option Result :=
  match p with
  | .linear v0 vt pr => ramped v0 vt pr
  | .sCurve v0 vt pr => ramped v0 vt pr
  | .table steps =>
    if !(within steps.length 2 16 && steps.all (fun q => within q.1 10 1500 && q.2 ≤ 500)) then some .range
    else if !steps.all (fun q => 5 ≤ q.2) then some .rampShort
    else if !increasing steps then some .range
    else none
where
  /-- The checks of LINEAR and S_CURVE (R111). -/
  ramped (v0 vt pr : Nat) : Option Result :=
    if !(within v0 10 500 && pr ≤ 1500) then some .range
    else if vt ≤ v0 then some .order
    else if pr < 10 then some .rampShort
    else none

/-- A profile as stored: a top speed above 1500 is stored as 1500 (R111). -/
def Profile.stored : Profile → Profile
  | .linear v0 vt pr => .linear v0 (min vt 1500) pr
  | .sCurve v0 vt pr => .sCurve v0 (min vt 1500) pr
  | .table steps => .table steps

/-- The decision of SET_PROFILE (R111). -/
def ownSetProfile (b : List Byte) (s : State) : State × ReplyBody :=
  match slot? (u8 b 0) with
  | none => s.refuse .range
  | some n =>
    match (profileBody b).fails with
    | some r => s.refuse r
    | none =>
      let p := (profileBody b).stored
      (s.setGantry { s.gantry with profiles := s.gantry.profiles.set n (some p) }, .profileStored p.top p.ramp)

/-- SET_PROFILE. -/
def execSetProfile (tag : Byte) (body : List Byte) (s : State) : Host.Outcome State Fault Refusal :=
  run (fun s => s.request 0x03 tag body (ownSetProfile body)) s

/-! ### SET_HANDLING (R12) -/

/-- The handling class of a SET_HANDLING body (R183). -/
def handlingBody (b : List Byte) : Handling := ⟨u8 b 1, u16 b 2, u16 b 4, u16 b 6⟩

/-- A handling class within its ranges (R12). -/
def Handling.ok (h : Handling) : Bool :=
  h.profile ≤ 7 && within h.speed 20 400 && h.dist ≤ 200 && within h.cost 10 600

/-- The decision of SET_HANDLING (R12). -/
def ownSetHandling (b : List Byte) (s : State) : State × ReplyBody :=
  if h : u8 b 0 < 6 then
    if (handlingBody b).ok then
      (s.setDir { s.dir with handling := s.dir.handling.set (u8 b 0) (handlingBody b) }).accept
    else s.refuse .range
  else s.refuse .range

/-- SET_HANDLING. -/
def execSetHandling (tag : Byte) (body : List Byte) (s : State) : Host.Outcome State Fault Refusal :=
  run (fun s => s.request 0x04 tag body (ownSetHandling body)) s

/-! ### SET_GRIPPER (R135) -/

/-- Settings within their ranges but for Lo (check 1 of R135). -/
def GripSet.ok (g : GripSet) : Bool :=
  within g.g 40 90 && within g.gripMs 100 2000 && within g.releaseMs 50 500 && within g.pullIn 20 500
    && (g.freq == 40 || g.freq == 80)

/-- The decision of SET_GRIPPER: a grip in progress and a carry are tested with the new thresholds (R135). -/
def ownSetGripper (b : List Byte) (s : State) : State × ReplyBody :=
  let g := gripBody b
  if !g.ok then s.refuse .range
  else if g.lo < 20 then s.refuse .range
  else
    let g := { g with lo := min g.lo (g.g - 5) }
    (((s.setGripper { s.gripper with set := g }).gripTest).carryTest, .gripperStored g.g g.lo)

/-- SET_GRIPPER. -/
def execSetGripper (tag : Byte) (body : List Byte) (s : State) : Host.Outcome State Fault Refusal :=
  run (fun s => s.request 0x05 tag body (ownSetGripper body)) s

/-! ### DEFINE_TYPE (R5, R6) -/

/-- Checks 1 to 4 of R5. -/
def TypeBody.ok (t : TypeBody) : Bool :=
  t.index < Config.typeCount
    && within t.len 50 800 && within t.wid 50 800 && within t.hei 50 600 && within t.wn 1 600 && t.wtol ≤ 50
    && t.dtol ≤ 30 && t.rc ≤ 4000 && t.stab ≤ 3 && t.hcls ≤ 5 && 1 ≤ zoneCount t.mask && within t.minZones 1 4

/-- The entry as stored, with the clamps of R6 and the design weight of R4. -/
def TypeBody.stored (t : TypeBody) : CaseType where
  len := t.len
  wid := t.wid
  hei := t.hei
  wn := t.wn
  wtol := t.wtol
  dtol := t.dtol
  rc := t.rc
  stab := t.stab
  hcls := t.hcls
  mask := t.mask
  minZones := min t.minZones (zoneCount t.mask)
  duty := min t.duty 127
  wd := designWeight t.wn t.wtol

/-- The decision of DEFINE_TYPE (R5, R6, R7). -/
def ownDefineType (b : List Byte) (s : State) : State × ReplyBody :=
  match typeBody? b with
  | none => s.refuse .range
  | some t =>
    if !t.ok then s.refuse .range
    else if s.referenced t.index then s.refuse .state
    else
      let c := t.stored
      (s.setDir { s.dir with types := s.dir.types.setIfInBounds t.index (some c) },
        .typeStored t.index c.minZones c.duty c.wd)

/-- DEFINE_TYPE. -/
def execDefineType (tag : Byte) (body : List Byte) (s : State) : Host.Outcome State Fault Refusal :=
  run (fun s => s.request 0x06 tag body (ownDefineType body)) s

/-! ### DEFINE_ARTICLE (R10), DROP_ARTICLE (R11) -/

/-- The decision of DEFINE_ARTICLE (R10). -/
def ownDefineArticle (b : List Byte) (s : State) : State × ReplyBody :=
  match code? b 0 with
  | none => s.refuse .range
  | some c =>
    let n := u8 b 8
    let arts := s.dir.articles
    if !(n < Config.typeCount) then s.refuse .range
    else if (s.dir.typeAt n).isNone then s.refuse .undefined
    else if arts.any (fun a => a.code == c) then
      let arts := arts.map (fun a => if a.code = c then { a with type := n } else a)
      (s.setDir { s.dir with articles := arts }, .articles arts.length)
    else if arts.length < Config.articleMax then
      let arts := arts ++ [⟨c, n⟩]
      (s.setDir { s.dir with articles := arts }, .articles arts.length)
    else s.refuse .full

/-- DEFINE_ARTICLE. -/
def execDefineArticle (tag : Byte) (body : List Byte) (s : State) : Host.Outcome State Fault Refusal :=
  run (fun s => s.request 0x07 tag body (ownDefineArticle body)) s

/-- The decision of DROP_ARTICLE (R11). -/
def ownDropArticle (b : List Byte) (s : State) : State × ReplyBody :=
  match code? b 0 with
  | none => s.refuse .range
  | some c =>
    if s.dir.articles.any (fun a => a.code == c) then
      let arts := s.dir.articles.eraseP (fun a => a.code == c)
      (s.setDir { s.dir with articles := arts }, .articles arts.length)
    else s.refuse .notFound

/-- DROP_ARTICLE. -/
def execDropArticle (tag : Byte) (body : List Byte) (s : State) : Host.Outcome State Fault Refusal :=
  run (fun s => s.request 0x08 tag body (ownDropArticle body)) s

/-! ### LOCK_SETTINGS (R172) -/

/-- LOCK_SETTINGS. -/
def execLockSettings (tag : Byte) (body : List Byte) (s : State) : Host.Outcome State Fault Refusal :=
  run (fun s => s.request 0x09 tag body (fun s => (s.setLink { s.link with lock := true }).accept)) s

end Sys2Proof.Machine
end

