-- ==== Sys2Proof/Machine/Dispatch.lean ====
section
/-! DEFINITION. The one match over the commands: each arm calls the meaning of its row. -/

namespace Sys2Proof.Machine

/-- A command's effect on everything but the queue. -/
def exec (i : Instr) (s : State) : Host.Outcome State Fault Refusal :=
  match i with
  | .powerOn => Sys2Proof.Machine.execPowerOn s
  | .goodFrame bytes => Sys2Proof.Machine.execGoodFrame bytes s
  | .linkGapTimeout before ending => Sys2Proof.Machine.execLinkGapTimeout before ending s
  | .linkStopBitError before => Sys2Proof.Machine.execLinkStopBitError before s
  | .frameSent => Sys2Proof.Machine.execFrameSent s
  | .unknownKind kind tag body => Sys2Proof.Machine.execUnknownKind kind tag body s
  | .setCell tag body => Sys2Proof.Machine.execSetCell tag body s
  | .setStation tag body => Sys2Proof.Machine.execSetStation tag body s
  | .setProfile tag body => Sys2Proof.Machine.execSetProfile tag body s
  | .setHandling tag body => Sys2Proof.Machine.execSetHandling tag body s
  | .setGripper tag body => Sys2Proof.Machine.execSetGripper tag body s
  | .defineType tag body => Sys2Proof.Machine.execDefineType tag body s
  | .defineArticle tag body => Sys2Proof.Machine.execDefineArticle tag body s
  | .dropArticle tag body => Sys2Proof.Machine.execDropArticle tag body s
  | .lockSettings tag body => Sys2Proof.Machine.execLockSettings tag body s
  | .loadLayer tag body => Sys2Proof.Machine.execLoadLayer tag body s
  | .withdrawId tag body => Sys2Proof.Machine.execWithdrawId tag body s
  | .withdrawTag tag body => Sys2Proof.Machine.execWithdrawTag tag body s
  | .closePlan tag body => Sys2Proof.Machine.execClosePlan tag body s
  | .abandonPlan tag body => Sys2Proof.Machine.execAbandonPlan tag body s
  | .setDeparture tag body => Sys2Proof.Machine.execSetDeparture tag body s
  | .setSheets tag body => Sys2Proof.Machine.execSetSheets tag body s
  | .home tag body => Sys2Proof.Machine.execHome tag body s
  | .start tag body => Sys2Proof.Machine.execStart tag body s
  | .stop tag body => Sys2Proof.Machine.execStop tag body s
  | .pauseRamped tag body => Sys2Proof.Machine.execPauseRamped tag body s
  | .pauseQuick tag body => Sys2Proof.Machine.execPauseQuick tag body s
  | .resume tag body => Sys2Proof.Machine.execResume tag body s
  | .recover tag body => Sys2Proof.Machine.execRecover tag body s
  | .gripperReset tag body => Sys2Proof.Machine.execGripperReset tag body s
  | .clearSlot tag body => Sys2Proof.Machine.execClearSlot tag body s
  | .stationHold tag body => Sys2Proof.Machine.execStationHold tag body s
  | .stationResume tag body => Sys2Proof.Machine.execStationResume tag body s
  | .purgeLane tag body => Sys2Proof.Machine.execPurgeLane tag body s
  | .restart tag body => Sys2Proof.Machine.execRestart tag body s
  | .queryStation tag body => Sys2Proof.Machine.execQueryStation tag body s
  | .queryLayer tag body => Sys2Proof.Machine.execQueryLayer tag body s
  | .queryPlacement tag body => Sys2Proof.Machine.execQueryPlacement tag body s
  | .queryStack tag body => Sys2Proof.Machine.execQueryStack tag body s
  | .querySurface tag body => Sys2Proof.Machine.execQuerySurface tag body s
  | .queryLane tag body => Sys2Proof.Machine.execQueryLane tag body s
  | .queryShelf tag body => Sys2Proof.Machine.execQueryShelf tag body s
  | .queryGantry tag body => Sys2Proof.Machine.execQueryGantry tag body s
  | .queryGripper tag body => Sys2Proof.Machine.execQueryGripper tag body s
  | .queryType tag body => Sys2Proof.Machine.execQueryType tag body s
  | .queryArticle tag body => Sys2Proof.Machine.execQueryArticle tag body s
  | .queryHandling tag body => Sys2Proof.Machine.execQueryHandling tag body s
  | .arrival lane bytes => Sys2Proof.Machine.execArrival lane bytes s
  | .scannerGapTimeout lane before => Sys2Proof.Machine.execScannerGapTimeout lane before s
  | .scannerStopBitError lane before => Sys2Proof.Machine.execScannerStopBitError lane before s
  | .casePresentOn lane => Sys2Proof.Machine.execCasePresentOn lane s
  | .casePresentOff lane => Sys2Proof.Machine.execCasePresentOff lane s
  | .accumulationEmpty lane isEmpty => Sys2Proof.Machine.execAccumulationEmpty lane isEmpty s
  | .waitExpiry lane => Sys2Proof.Machine.execWaitExpiry lane s
  | .slotPresence slot on => Sys2Proof.Machine.execSlotPresence slot on s
  | .spillTableCleared active => Sys2Proof.Machine.execSpillTableCleared active s
  | .walkEnd st => Sys2Proof.Machine.execWalkEnd st s
  | .moveEnd axis => Sys2Proof.Machine.execMoveEnd axis s
  | .homeSwitch axis active => Sys2Proof.Machine.execHomeSwitch axis active s
  | .homeSwitchNotFound axis => Sys2Proof.Machine.execHomeSwitchNotFound axis s
  | .endLimit axis side active => Sys2Proof.Machine.execEndLimit axis side active s
  | .door isOpen => Sys2Proof.Machine.execDoor isOpen s
  | .curtainBreak st => Sys2Proof.Machine.execCurtainBreak st s
  | .curtainRestore st => Sys2Proof.Machine.execCurtainRestore st s
  | .palletPresent st on => Sys2Proof.Machine.execPalletPresent st on s
  | .warningField active => Sys2Proof.Machine.execWarningField active s
  | .vacuumReading zone value => Sys2Proof.Machine.execVacuumReading zone value s
  | .gripTimerExpiry => Sys2Proof.Machine.execGripTimerExpiry s
  | .releaseTimerExpiry => Sys2Proof.Machine.execReleaseTimerExpiry s
  | .pullInExpiry zone => Sys2Proof.Machine.execPullInExpiry zone s
  | .faultInput zone which active => Sys2Proof.Machine.execFaultInput zone which active s
  | .decayExpiry => Sys2Proof.Machine.execDecayExpiry s
  | .departureTick st => Sys2Proof.Machine.execDepartureTick st s
  | .duePassed st => Sys2Proof.Machine.execDuePassed st s
  | .frameCheckMismatch bytes => Sys2Proof.Machine.execFrameCheckMismatch bytes s
  | .bodyLengthAbove1020 bytes => Sys2Proof.Machine.execBodyLengthAbove1020 bytes s

end Sys2Proof.Machine
end

