-- ==== Sys2Proof/Machine/Senses.lean ====
section
/-! DEFINITION. A step with no command: the event of an input whose change has stood for 2 ms, or one millisecond of the
part's clock (R1, logs 2, 20). -/

namespace Sys2Proof.Machine

/-- The event of an input to a level: the meaning of its row. -/
def State.inputEvent (s : State) (x : Sensor) (v : Bool) : State :=
  match x with
  | .door => s.doorInput v
  | .warning => s.warningInput v
  | .spillCleared => s.spillInput v
  | .curtain st => s.curtainInput st v
  | .pallet st => s.palletInput st v
  | .casePresent l => s.caseInput l v
  | .laneEmpty l => s.emptyInput l v
  | .slot i => s.presence i v
  | .home a => s.homeInput a v
  | .limit a side => s.limitInput a side v
  | .fault z k => s.faultLevel z k v

/-- A step on an empty queue: the oldest change that has stood for 2 ms is taken as its event, and otherwise a millisecond
passes. -/
def State.idle (s : State) : Host.Outcome State Fault Refusal :=
  match s.inputs.due? with
  | some x => run (fun s => s.inputStood x fun v s => s.inputEvent x v) s
  | none => .next s.tick

end Sys2Proof.Machine
end

