-- ==== Sys2Proof/Machine/Layout.lean ====
section
/-! DEFINITION. The codes of 10.5 and the bytes of the messages whose layout chapter 10 gives (R180 to R185): the replies
of 10.3 and the central reports of 10.4. Of a message without a given layout only what the chapter gives has bytes here:
the result code that begins its body and the header of a report (log 28). -/

namespace Sys2Proof.Machine

/-! ### Codes (R185) -/

def Result.codeOf : Result → Nat
  | .ok => 0 | .unknownKind => 1 | .badLength => 2 | .range => 3 | .undefined => 4 | .locked => 5 | .state => 6
  | .full => 7 | .noRoom => 8 | .overlap => 9 | .outside => 10 | .inFlight => 11 | .notFound => 12 | .busy => 13
  | .order => 14 | .rampShort => 15

def Verdict.codeOf : Verdict → Nat
  | .unswept => 0 | .admitted _ => 1 | .tableFull => 2 | .overhang => 3 | .height => 4 | .gross => 5 | .spread => 6
  | .crush _ _ => 7

def Reason.codeOf : Reason → Nat
  | .badCheck => 1 | .noRead => 2 | .multiLabel => 3 | .unknownArticle => 4 | .size => 5 | .overweight => 6
  | .underweight => 7 | .untracked => 8 | .purge => 9 | .lostAtPick => 10 | .notInPlan => 11 | .bufferFull => 12
  | .ungrippable => 13

def Disposition.codeOf : Disposition → Nat
  | .accepted => 0
  | .runOff r => r.codeOf

def ReadStatus.codeOf : ReadStatus → Nat
  | .ok => 0 | .noRead => 1 | .multiLabel => 2 | .badCheck => 3

def CellRun.codeOf : CellRun → Nat
  | .off => 0 | .run => 1 | .finishing => 2 | .paused _ => 3 | .guardStopped _ _ => 4

def Ret.codeOf : Ret → Nat
  | .run => 1 | .finishing => 2

def Mode.codeOf : Mode → Nat
  | .plain .noPallet => 0 | .plain .idle => 1 | .plain .building => 2 | .plain .complete => 3 | .plain (.held _) => 4
  | .exchange _ => 5 | .plain .unverified => 6

def JobKind.codeOf : JobKind → Nat
  | .place => 0 | .sheet => 1 | .put => 2 | .putaway => 3

def FaultCause.codeOf : FaultCause → Nat
  | .home => 0 | .limit => 1 | .drop => 2 | .release => 3 | .stuck => 4

def GState.codeOf : GState → Nat
  | .unhomed => 0 | .homing => 1 | .idle => 2 | .busy => 3 | .stopping => 4 | .stopped => 5 | .faulted _ => 6
  | .awaitPutaway => 7

def GripState.codeOf : GripState → Nat
  | .idle => 0 | .gripping => 1 | .holding => 2 | .releasing => 3 | .lockedOut => 4

def PState.codeOf : PState → Nat
  | .pending => 0 | .bound => 1 | .placed => 2 | .void => 3

/-- Lane states RUN and PURGE. -/
def Lane.codeOf (n : Lane) : Nat := if n.purging then 1 else 0

def Pick.codeOf : Pick → Nat
  | .empty => 0 | .front => 1 | .picking => 2 | .releasing _ _ => 3

def SlotCode.codeOf : SlotCode → Nat
  | .empty => 0 | .held => 1 | .blocked => 2

def Slot.codeOf : Slot → Nat
  | .empty _ => 0 | .held _ _ _ => 1 | .blocked => 2

def SweepState.codeOf : SweepState → Nat
  | .idle => 0 | .running => 1 | .waiting => 2

def Sched.codeOf : Sched → Nat
  | .none => 0 | .onTime => 1 | .atRisk => 2 | .late => 3

def Departure.codeOf : Departure → Nat
  | .unset => 0 | .counting _ => 1 | .passed => 2

def Phase.codeOf : Phase → Nat
  | .approach => 0 | .pickDown => 1 | .grip => 2 | .pickUp => 3 | .travel => 4 | .setDown => 5 | .release => 6
  | .clear => 7

def Hold.codeOf : Hold → Nat
  | .host => 0 | .sheetsOut => 1 | .debris => 2

/-- Hold reason of a station state; 255 where no hold applies. -/
def Mode.holdCode : Mode → Nat
  | .plain (.held h) => h.codeOf
  | _ => 255

/-- Vacuum valve modes. -/
def Valve.codeOf : Valve → Nat
  | .off => 0 | .full => 1 | .hold _ => 2

/-- A blow-off valve is OFF or ON. -/
def ZoneRec.blowCode (z : ZoneRec) : Nat := if z.blow then 1 else 0

def RClass.codeOf : RClass → Nat
  | .alarm => 0 | .progress => 1 | .routine => 2

def stationCode : StationId → Nat
  | .A => 0 | .B => 1

def laneCode : LaneId → Nat
  | .L1 => 1 | .L2 => 2

def zoneCode : Zone → Nat
  | .A => 0 | .B => 1 | .C => 2 | .D => 3

def Turn.codeOf : Turn → Nat
  | .t0 => 0 | .t90 => 1

/-- Bit value of a flag. -/
def bit (b : Bool) (n : Nat) : Nat := if b then 2 ^ n else 0

/-- Zone mask as a number (R180). -/
def maskCode (z : ZoneSet) : Nat := bit z.a 0 + bit z.b 1 + bit z.c 2 + bit z.d 3

/-- Place code of a job's source (10.4). -/
def Source.codeOf : Source → Nat
  | .lane l => laneCode l
  | .slot i => 0x10 + i.val
  | .magazine => 0x20

/-- Place code of a job's destination (10.4). -/
def destCode : Option Dest → Nat
  | none => 0
  | some (.placement .A _) => 0x30
  | some (.placement .B _) => 0x31
  | some (.sheet .A) => 0x40
  | some (.sheet .B) => 0x41
  | some (.slot i) => 0x10 + i.val
  | some .spill => 0x50

/-- Placement id of a destination; 0 for any other (10.4). -/
def destId : Option Dest → Nat
  | some (.placement _ id) => id
  | _ => 0

/-- A signed number: 4 bytes, two's complement, low byte first (R180). -/
def signed4 (x : Int) : List Byte := bytes4 (x % 4294967296).toNat

/-- The signed number that four bytes at an offset code (R180). -/
def i32 (b : List Byte) (k : Nat) : Int := if u32 b k < 2147483648 then u32 b k else (u32 b k : Int) - 4294967296

/-- An axis position; 65535 while its counter is invalid (R180). A position below 0 (log 21) is sent as 0: DESIGN CHOICE,
log 43. -/
def positionCode : Option Int → Nat
  | none => 65535
  | some x => x.toNat

/-- `n` packed decimal bytes of a number, most significant digits first (R180, R186). -/
def packedBytes : Nat → Nat → List Byte
  | 0, _ => []
  | n + 1, x => packedBytes n (x / 100) ++ [byte (x / 10 % 10 * 16 + x % 10)]

/-! ### Replies -/

/-- The result code of a reply (R181): the replies that carry more than a code are OK, but for the refusals of LOAD_LAYER
that name a position. -/
def ReplyBody.result : ReplyBody → Result
  | .code r => r
  | .layerRefused r _ => r
  | .typeStored .. | .articles _ | .profileStored .. | .gripperStored .. | .layerTaken .. | .withdrawn .. => .ok
  | .tagWithdrawn .. | .abandoned .. | .departureSet .. | .sheetsStored _ | .gripperReset .. | .laneRecords _ => .ok
  | .station _ | .layer _ | .placement .. | .placedOnStack _ | .stackEntry .. | .surfaceRow .. | .lane _ => .ok
  | .shelf .. | .gantry _ | .gripper _ | .typeUndefined | .typeDefined .. | .article .. | .handling _ => .ok

/-- The byte every reply body begins with (R181). -/
def ReplyBody.opening (b : ReplyBody) : Byte := byte b.result.codeOf

/-- What follows the result code in a reply body, where chapter 10 gives its layout (R181 to R183). -/
def ReplyBody.fields? : ReplyBody → Option (List Byte)
  | .code _ => some []
  | .layerRefused _ pos => some [byte pos]
  | .typeStored n least duty wd => some ([byte n, byte least, byte duty] ++ bytes2 wd)
  | .profileStored top ramp => some (bytes2 top ++ bytes2 ramp)
  | .layerTaken pos free early => some (byte pos :: bytes2 free ++ [byteOfBool early])
  | .typeUndefined => some [0]
  | .typeDefined t ref =>
    some (1 :: bytes2 t.len ++ bytes2 t.wid ++ bytes2 t.hei ++ bytes2 t.wn ++ [byte t.wtol, byte t.dtol]
      ++ bytes2 t.rc ++ [byte t.stab, byte t.hcls, byte (maskCode t.mask), byte t.minZones, byte t.duty]
      ++ bytes2 t.wd ++ [byteOfBool ref])
  | .article type inUse => some (byte type :: bytes2 inUse)
  | .handling h => some (byte h.profile :: bytes2 h.speed ++ bytes2 h.dist ++ bytes2 h.cost)
  | _ => none

/-- The body bytes of a reply, where chapter 10 gives its layout: the result code first (R181, 10.3). -/
def ReplyBody.bytes? (b : ReplyBody) : Option (List Byte) := b.fields?.map (fun f => b.opening :: f)

/-- Kind byte of a reply (R181). -/
def replyKind (k : Byte) : Byte := if k.toNat < 0x80 then byte (k.toNat + 0x80) else 0xFF

/-! ### Reports -/

/-- Kind byte of a report (R181). -/
def ReportBody.kindOf : ReportBody → Nat
  | .started .. => 0x40 | .arrival .. => 0x41 | .runOff .. => 0x42 | .buffered .. => 0x43 | .slot .. => 0x44
  | .lanePurge .. => 0x45 | .laneRun .. => 0x45 | .placed .. => 0x46 | .layerDone .. => 0x47 | .stall .. => 0x48
  | .station .. => 0x49 | .schedule .. => 0x4A | .duePassed .. => 0x4A | .gantry .. => 0x4B | .grip .. => 0x4C
  | .guard .. => 0x4D

/-- The 5-byte header of a report (R184). -/
def Report.header (r : Report) (lost : Bool) : List Byte :=
  byte (bit lost 0 + 2 * r.cls.codeOf) :: bytes4 r.time

/-- Event and cause codes of a GRIP report (10.4). -/
def GripEvent.codes : GripEvent → Nat × Nat
  | .failTimeout => (0, 0) | .failZones => (0, 1) | .lostReading => (1, 2) | .lostFault => (1, 3)
  | .releaseStuck => (2, 255) | .zoneOvercurrent => (3, 4) | .zoneOpenLoad => (3, 5) | .lockedOut => (4, 255)

/-- CRUSH detail of a verdict; zeros for others (10.4). -/
def Verdict.crushOf : Verdict → Nat × Nat
  | .crush e n => (e, n)
  | _ => (0, 0)

/-- Input code of a GUARD report (10.4). -/
def GuardInput.codeOf : GuardInput → Nat
  | .door => 0 | .curtain .A => 1 | .curtain .B => 2 | .warning => 3

/-- Remembered state of the cell, and what a remembered PAUSED returns to; 255 when absent (10.4). -/
def CellRun.memoryCodes : CellRun → Nat × Nat
  | .paused r => (r.codeOf, 255)
  | .guardStopped (.ret r) _ => (r.codeOf, 255)
  | .guardStopped (.paused r) _ => (3, r.codeOf)
  | _ => (255, 255)

/-- Guard causes as a byte (10.4). -/
def CellRun.causeCode : CellRun → Nat
  | .guardStopped _ c => bit c.door 0 + bit c.curtainA 1 + bit c.curtainB 2
  | _ => 0

/-- The fields of a report after its header, where 10.4 gives its layout. -/
def ReportBody.fields? : ReportBody → Option (List Byte)
  | .started restart stations slots => some [byteOfBool restart, byte stations, byte slots]
  | .arrival r stored count =>
    let m := r.meas.getD ⟨0, 0, 0, 0⟩
    some ([byte (laneCode r.lane), byte r.seq, byte r.status.codeOf,
        byte (bit r.code.isSome 0 + bit r.type.isSome 1 + bit r.meas.isSome 2 + bit r.orient.isSome 3)]
      ++ packedBytes 7 (r.code.getD 0) ++ [byte (r.type.getD 0)]
      ++ bytes2 m.len ++ bytes2 m.wid ++ bytes2 m.hei ++ bytes2 m.wei
      ++ [byte ((r.orient.map Turn.codeOf).getD 0), byte r.disp.codeOf, byteOfBool r.purge, byteOfBool stored,
        byte count])
  | .placed st id tag aisle index weight order =>
    some (byte (stationCode st) :: bytes2 id ++ [byte tag, byte aisle, byte index] ++ bytes2 weight
      ++ [byteOfBool order.isSome] ++ bytes4 (order.getD 0))
  | .stall st tag c v pending =>
    some ([byte (stationCode st), byte tag]
      ++ (match c with
          | .sheet => 1 :: bytes2 0
          | .placement id => 0 :: bytes2 id)
      ++ [byte v.codeOf, byte v.crushOf.1] ++ bytes2 v.crushOf.2 ++ [byte pending])
  | .grip e z reading faulted used counter job x y =>
    let e2 := e.codes
    some ([byte e2.1, byte e2.2, byte ((z.map zoneCode).getD 255), byte reading.a, byte reading.b, byte reading.c,
        byte reading.d, byte (maskCode faulted), byte (maskCode used), byte counter,
        byte ((job.map (fun j => j.kind.codeOf)).getD 255), byte ((job.map (fun j => j.source.codeOf)).getD 0),
        byte (destCode (job.bind JobRef.dest))]
      ++ bytes2 (destId (job.bind JobRef.dest)) ++ bytes2 (positionCode x) ++ bytes2 (positionCode y))
  | .guard i level cell quick mode inZone =>
    some [byte i.codeOf, byteOfBool level, byte cell.codeOf, byte cell.memoryCodes.1, byte cell.memoryCodes.2,
      byte cell.causeCode, byteOfBool quick, byte ((mode.map Mode.codeOf).getD 255),
      byte ((inZone.map (fun b => bit b 0)).getD 255)]
  | _ => none

/-- The body bytes of a report as it begins to be sent (R184). -/
def Report.bytes? (r : Report) (lost : Bool) : Option (List Byte) := r.body.fields?.map (fun f => r.header lost ++ f)

/-- The bytes of the frame on the transmit line, where chapter 10 gives its layout (R166). -/
def Sending.bytes? : Sending → Option (List Byte)
  | .busy r => r.body.bytes?.map (frameBytes (replyKind r.kind).toNat r.tag.toNat)
  | .reply r => r.body.bytes?.map (frameBytes (replyKind r.kind).toNat r.tag.toNat)
  | .report r lost => (r.bytes? lost).map (frameBytes r.body.kindOf 0)

end Sys2Proof.Machine
end

