-- ==== Sys2Proof/Safety.lean ====
section
/-! DEFINITION. What counts as a safe run: the laws of the device that every step keeps, and the settings the lock holds
fast. -/

namespace Sys2Proof

/-- The kind, tag and body of the frame a request command stands for (R181); none for the other commands. -/
def Instr.request? : Instr → Option (Nat × Byte × List Byte)
  | .unknownKind k t b => some (k.toNat, t, b)
  | .setCell t b => some (0x01, t, b)
  | .setStation t b => some (0x02, t, b)
  | .setProfile t b => some (0x03, t, b)
  | .setHandling t b => some (0x04, t, b)
  | .setGripper t b => some (0x05, t, b)
  | .defineType t b => some (0x06, t, b)
  | .defineArticle t b => some (0x07, t, b)
  | .dropArticle t b => some (0x08, t, b)
  | .lockSettings t b => some (0x09, t, b)
  | .loadLayer t b => some (0x10, t, b)
  | .withdrawId t b => some (0x11, t, b)
  | .withdrawTag t b => some (0x11, t, b)
  | .closePlan t b => some (0x12, t, b)
  | .abandonPlan t b => some (0x13, t, b)
  | .setDeparture t b => some (0x14, t, b)
  | .setSheets t b => some (0x15, t, b)
  | .home t b => some (0x20, t, b)
  | .start t b => some (0x21, t, b)
  | .stop t b => some (0x22, t, b)
  | .pauseRamped t b => some (0x23, t, b)
  | .pauseQuick t b => some (0x23, t, b)
  | .resume t b => some (0x24, t, b)
  | .recover t b => some (0x25, t, b)
  | .gripperReset t b => some (0x26, t, b)
  | .clearSlot t b => some (0x27, t, b)
  | .stationHold t b => some (0x28, t, b)
  | .stationResume t b => some (0x29, t, b)
  | .purgeLane t b => some (0x2A, t, b)
  | .restart t b => some (0x2B, t, b)
  | .queryStation t b => some (0x30, t, b)
  | .queryLayer t b => some (0x31, t, b)
  | .queryPlacement t b => some (0x32, t, b)
  | .queryStack t b => some (0x33, t, b)
  | .querySurface t b => some (0x34, t, b)
  | .queryLane t b => some (0x35, t, b)
  | .queryShelf t b => some (0x36, t, b)
  | .queryGantry t b => some (0x37, t, b)
  | .queryGripper t b => some (0x38, t, b)
  | .queryType t b => some (0x39, t, b)
  | .queryArticle t b => some (0x3A, t, b)
  | .queryHandling t b => some (0x3B, t, b)
  | .powerOn | .goodFrame _ | .linkGapTimeout _ _ | .linkStopBitError _ | .frameSent | .arrival _ _
  | .scannerGapTimeout _ _ | .scannerStopBitError _ _ | .casePresentOn _ | .casePresentOff _
  | .accumulationEmpty _ _ | .waitExpiry _ | .slotPresence _ _ | .spillTableCleared _ | .walkEnd _ | .moveEnd _
  | .homeSwitch _ _ | .homeSwitchNotFound _ | .endLimit _ _ _ | .door _ | .curtainBreak _ | .curtainRestore _
  | .palletPresent _ _ | .warningField _ | .vacuumReading _ _ | .gripTimerExpiry | .releaseTimerExpiry
  | .pullInExpiry _ | .faultInput _ _ _ | .decayExpiry | .departureTick _ | .duePassed _ | .frameCheckMismatch _
  | .bodyLengthAbove1020 _ => none

/-- Is the command the change of an input's level? -/
def Instr.sensed : Instr → Bool
  | .casePresentOn _ | .casePresentOff _ | .accumulationEmpty _ _ | .slotPresence _ _ | .spillTableCleared _
  | .homeSwitch _ _ | .endLimit _ _ _ | .door _ | .curtainBreak _ | .curtainRestore _ | .palletPresent _ _
  | .warningField _ | .vacuumReading _ _ | .faultInput _ _ _ => true
  | .powerOn | .goodFrame _ | .linkGapTimeout _ _ | .linkStopBitError _ | .frameSent | .unknownKind _ _ _
  | .setCell _ _ | .setStation _ _ | .setProfile _ _ | .setHandling _ _ | .setGripper _ _ | .defineType _ _
  | .defineArticle _ _ | .dropArticle _ _ | .lockSettings _ _ | .loadLayer _ _ | .withdrawId _ _ | .withdrawTag _ _
  | .closePlan _ _ | .abandonPlan _ _ | .setDeparture _ _ | .setSheets _ _ | .home _ _ | .start _ _ | .stop _ _
  | .pauseRamped _ _ | .pauseQuick _ _ | .resume _ _ | .recover _ _ | .gripperReset _ _ | .clearSlot _ _
  | .stationHold _ _ | .stationResume _ _ | .purgeLane _ _ | .restart _ _ | .queryStation _ _ | .queryLayer _ _
  | .queryPlacement _ _ | .queryStack _ _ | .querySurface _ _ | .queryLane _ _ | .queryShelf _ _ | .queryGantry _ _
  | .queryGripper _ _ | .queryType _ _ | .queryArticle _ _ | .queryHandling _ _ | .arrival _ _
  | .scannerGapTimeout _ _ | .scannerStopBitError _ _ | .waitExpiry _ | .walkEnd _ | .moveEnd _
  | .homeSwitchNotFound _ | .gripTimerExpiry | .releaseTimerExpiry | .pullInExpiry _ | .decayExpiry | .departureTick _
  | .duePassed _ | .frameCheckMismatch _ | .bodyLengthAbove1020 _ => false

/-- The two-level input whose change of level the command is, with the new level (R1); none for the other commands. -/
def Instr.sensor? : Instr → Option (Machine.Sensor × Bool)
  | .door o => some (.door, o)
  | .curtainBreak st => some (.curtain st, true)
  | .curtainRestore st => some (.curtain st, false)
  | .casePresentOn l => some (.casePresent l, true)
  | .casePresentOff l => some (.casePresent l, false)
  | .accumulationEmpty l e => some (.laneEmpty l, e)
  | .slotPresence i on => some (.slot i, on)
  | .spillTableCleared v => some (.spillCleared, v)
  | .palletPresent st on => some (.pallet st, on)
  | .warningField v => some (.warning, v)
  | .homeSwitch a v => some (.home a, v)
  | .endLimit a side v => some (.limit a side, v)
  | .faultInput z k v => some (.fault z k, v)
  | .vacuumReading _ _ | .powerOn | .goodFrame _ | .linkGapTimeout _ _ | .linkStopBitError _ | .frameSent
  | .unknownKind _ _ _ | .setCell _ _ | .setStation _ _ | .setProfile _ _ | .setHandling _ _ | .setGripper _ _
  | .defineType _ _ | .defineArticle _ _ | .dropArticle _ _ | .lockSettings _ _ | .loadLayer _ _ | .withdrawId _ _
  | .withdrawTag _ _ | .closePlan _ _ | .abandonPlan _ _ | .setDeparture _ _ | .setSheets _ _ | .home _ _ | .start _ _
  | .stop _ _ | .pauseRamped _ _ | .pauseQuick _ _ | .resume _ _ | .recover _ _ | .gripperReset _ _ | .clearSlot _ _
  | .stationHold _ _ | .stationResume _ _ | .purgeLane _ _ | .restart _ _ | .queryStation _ _ | .queryLayer _ _
  | .queryPlacement _ _ | .queryStack _ _ | .querySurface _ _ | .queryLane _ _ | .queryShelf _ _ | .queryGantry _ _
  | .queryGripper _ _ | .queryType _ _ | .queryArticle _ _ | .queryHandling _ _ | .arrival _ _
  | .scannerGapTimeout _ _ | .scannerStopBitError _ _ | .waitExpiry _ | .walkEnd _ | .moveEnd _
  | .homeSwitchNotFound _ | .gripTimerExpiry | .releaseTimerExpiry | .pullInExpiry _ | .decayExpiry | .departureTick _
  | .duePassed _ | .frameCheckMismatch _ | .bodyLengthAbove1020 _ => none

end Sys2Proof

namespace Sys2Proof.Machine

/-- The bounded stores hold no more than their sizes: the request backlog, the waiting BUSY replies (R168), the report
queue (R173), the arrival FIFOs (R65), the spill table (R85), the magazine (R90), the article table (R9), the layer
queues and the pools of placement records (R15). -/
def State.Bounded (s : State) : Prop :=
  s.link.backlog.length ≤ Config.backlogMax ∧ s.link.busy.length ≤ Config.busyMax
    ∧ s.link.reports.length ≤ Config.reportMax
    ∧ (∀ l, (s.lanes.get l).fifo.length ≤ Config.fifoMax)
    ∧ s.spill ≤ Config.spillMax ∧ s.magazine ≤ Config.magazineMax ∧ s.dir.articles.length ≤ Config.articleMax
    ∧ (∀ st, (s.plan.get st).queue.length ≤ Config.layerMax)
    ∧ (∀ st, (s.plan.get st).inUse ≤ Config.poolMax)

/-- The law of bindings (R18, R23, R89): no id stands twice in a station's pool, and a BOUND placement is the target of the
one job, a PLACE job that holds its reservation. -/
def State.BindingLaw (s : State) : Prop :=
  ∀ st, ((s.plan.get st).placements.map Placement.id).Nodup
    ∧ ∀ p ∈ (s.plan.get st).placements, p.state = .bound →
      ∃ j, s.job = some j ∧ j.kind = .place ∧ j.dest = some (.placement st p.id) ∧ j.reservation.isSome = true

/-- Does an entry's footprint cover the cell with an index in the surface map (R38, R39)? -/
def Entry.Covers (f : Footprint) (e : Entry) (n : Nat) : Prop :=
  e.i0 ≤ n % f.ni ∧ n % f.ni < e.i0 + e.cx ∧ e.j0 ≤ n / f.ni ∧ n / f.ni < e.j0 + e.cy

/-- The placement ids the CASE entries of a stack carry (R18, R39). -/
def Stack.caseIds (k : Stack) : List Nat :=
  k.table.filterMap (fun e => match e.kind with | .case id _ => some id | .sheet => none)

/-- What a cell of the surface map holds (R38): bare deck where no entry covers it, and otherwise the top of a covering entry
that none of the covering entries exceeds. -/
def Stack.CellLaw (k : Stack) (n : Nat) (c : Cell) : Prop :=
  c.h ≤ k.highest ∧ c.h ≤ k.limits.hMax
    ∧ ((c = ⟨0, .deck⟩ ∧ ∀ e ∈ k.table, ¬e.Covers k.limits.foot n)
      ∨ ∃ i e, k.table[i]? = some e ∧ c = ⟨e.top, .entry i⟩ ∧ e.Covers k.limits.foot n
          ∧ ∀ x ∈ k.table, x.Covers k.limits.foot n → x.top ≤ e.top)

/-- The law of a support list on a table, for a base and a bearing count (R39, R48, R50): 1 to 48 pairs, each share at least 1,
the shares adding up to the bearing count, and every entry it names in the table with a lower base. -/
def SupportLaw (table : List Entry) (base bearing : Nat) (sup : List (Ref × Nat)) : Prop :=
  1 ≤ sup.length ∧ sup.length ≤ Config.supportMax ∧ (∀ q ∈ sup, 1 ≤ q.2) ∧ (sup.map Prod.snd).sum = bearing
    ∧ ∀ q ∈ sup, ∀ i, q.1 = .entry i → ∃ x, table[i]? = some x ∧ x.base < base

/-- The laws of one stack. Its table has at most 160 entries, with no id in two CASE entries, and two entries that share a
cell of the map stand one above the other; every entry has a height and a support list (R39, R50); no allowance is above its
rating (R40); the gross weight is the sum of the entries' weights and within its limit (R41); and the surface map shows the
entries (R38). -/
def Stack.Law (k : Stack) : Prop :=
  k.table.length ≤ Config.stackMax ∧ k.caseIds.Nodup
    ∧ (∀ (i j n : Nat) (x y : Entry), i < j → k.table[i]? = some x → k.table[j]? = some y → n < k.map.length →
        x.Covers k.limits.foot n → y.Covers k.limits.foot n → x.top ≤ y.base)
    ∧ (∀ e ∈ k.table, e.base < e.top ∧ SupportLaw k.table e.base e.k e.supports)
    ∧ (∀ e ∈ k.table, e.allow ≤ e.rating)
    ∧ k.gross = (k.table.map Entry.weight).sum ∧ k.gross ≤ k.limits.gMax
    ∧ ∀ n c, k.map[n]? = some c → k.CellLaw n c

/-- A walk result fits a stack as it stands, for a candidate load with a height (R43 to R51): the table has room, the gross limit
holds the design weight, the base is no lower than any cell of the footprint and leaves room for the height, the support list is
one for the table, and the loads named for an entry are within its allowance. -/
def Stack.Fits (k : Stack) (c : Load) (r : WalkResult) : Prop :=
  k.table.length < Config.stackMax ∧ r.wd = c.wd ∧ k.gross + r.wd ≤ k.limits.gMax ∧ 0 < c.hei
    ∧ SupportLaw k.table r.base r.k r.supports
    ∧ (∀ x ∈ k.cellsOf c.i0 c.j0 c.mi c.mj, x.h ≤ r.base) ∧ r.base + c.hei ≤ k.limits.hMax
    ∧ ∀ i e, k.table[i]? = some e → ((r.loads.filter (fun q => q.1 == i)).map Prod.snd).sum ≤ e.allow

/-- A walk result fits a station's stack for a placement, by the directory as it stands (R42). -/
def State.FitsPlacement (s : State) (st : StationId) (p : Placement) (r : WalkResult) : Prop :=
  ∃ c, s.dir.placementLoad p = some c ∧ (s.stack.get st).Fits c r

/-- A walk result fits a station's stack for the sheet of its working layer (R42). -/
def State.FitsSheet (s : State) (st : StationId) (r : WalkResult) : Prop :=
  (s.stack.get st).Fits (sheetLoad (s.stack.get st).limits.foot) r

/-- Every defined type has a length, a width and a height, and every placement record a footprint with a cell (R2, R19). -/
def State.SizeLaw (s : State) : Prop :=
  (∀ n t, s.dir.typeAt n = some t → 0 < t.len ∧ 0 < t.wid ∧ 0 < t.hei)
    ∧ ∀ st, ∀ p ∈ (s.plan.get st).placements, 0 < p.cx ∧ 0 < p.cy

/-- The laws of the stacks: the sizes of types and footprints (R2, R19); those of each stack (R38 to R41, R50); a placement is
PLACED exactly when a CASE entry carries its id (R39); an outstanding reservation is that of a BOUND placement or of a sheet,
and fits its stack (R54, R55); and so does every admitted verdict that a dispatch could make a reservation, while no sweep waits
(R56, R61). -/
def State.StackLaw (s : State) : Prop :=
  s.SizeLaw ∧ ∀ st, (s.stack.get st).Law
    ∧ (∀ p ∈ (s.plan.get st).placements, p.state = .placed ↔ p.id ∈ (s.stack.get st).caseIds)
    ∧ (∀ j r, s.job = some j → s.outstanding st = some r →
        (∀ id, j.kind = .place → j.dest = some (.placement st id) →
          ∃ p ∈ (s.plan.get st).placements, p.id = id ∧ p.state = .bound ∧ s.FitsPlacement st p r)
        ∧ (j.kind = .sheet → s.FitsSheet st r))
    ∧ ((s.stack.get st).sweep.state ≠ .waiting →
        (∀ l ∈ (s.plan.get st).eligible, ∀ p ∈ l.placements, p.live = true → ∀ r, p.verdict = .admitted r →
          s.FitsPlacement st p r)
        ∧ ((s.plan.get st).sheetDue = true → ∀ r, (s.stack.get st).sheetVerdict = .admitted r → s.FitsSheet st r))

/-- The lockout law of the grip-fault counter (R147): LOCKED_OUT exactly at the count 6, no count beyond it, and the decay
timer runs exactly at the counts between. -/
def Gripper.LockoutLaw (g : Gripper) : Prop :=
  (g.state = .lockedOut ↔ g.counter = Config.lockoutAt) ∧ g.counter ≤ Config.lockoutAt
    ∧ (g.decay.isSome = true ↔ 1 ≤ g.counter ∧ g.counter < Config.lockoutAt)

/-- Is the cell GUARD_STOPPED (R151)? -/
def CellRun.isGuardStopped : CellRun → Bool
  | .guardStopped _ _ => true
  | _ => false

/-- May the gantry start a move of its own in this state (R116)? -/
def GState.active : GState → Bool
  | .busy => true
  | .stopping => true
  | .homing => true
  | _ => false

/-- The law of the guard (R151): no axis moves while the cell is GUARD_STOPPED, and the gantry is in no state that moves
one. -/
def State.GuardLaw (s : State) : Prop :=
  s.cell.run.isGuardStopped = true → s.gantry.moving = false ∧ s.gantry.state.active = false

/-- The settings that the settings lock holds fast, with the lock itself (R172). -/
structure LockedSettings where
  lock : Bool
  geometry : Geometry
  geomDefined : Bool
  clearance : Nat
  homingSpeed : Nat
  waitLimit : Nat
  profiles : Vector (Option Profile) 8
  grip : GripSet
  limits : PerStation Limits
  auto : Bool
  sheetCost : PerStation Nat
  margin : PerStation Nat
  deriving DecidableEq, Repr

/-- The locked settings of a state (R172). -/
def State.lockedSettings (s : State) : LockedSettings where
  lock := s.link.lock
  geometry := s.gantry.geometry
  geomDefined := s.gantry.geomDefined
  clearance := s.gantry.clearance
  homingSpeed := s.gantry.homingSpeed
  waitLimit := s.gantry.waitLimit
  profiles := s.gantry.profiles
  grip := s.gripper.set
  limits := ⟨s.stack.a.limits, s.stack.b.limits⟩
  auto := s.cell.auto
  sheetCost := ⟨s.stn.a.sheetCost, s.stn.b.sheetCost⟩
  margin := ⟨s.stn.a.margin, s.stn.b.margin⟩

/-- A step from a state is safe when it answers a next state that keeps the laws. -/
def SafeStep (s : State) : Prop :=
  ∃ t, step s = .next t ∧ (s.Bounded → t.Bounded) ∧ (s.gripper.LockoutLaw → t.gripper.LockoutLaw)
    ∧ (s.GuardLaw → t.GuardLaw) ∧ (s.BindingLaw → t.BindingLaw) ∧ (s.BindingLaw → s.StackLaw → t.StackLaw)

/-! ### The terms statements use -/

/-- A layer with every cached verdict taken away, for comparing layers across a sweep's start (R59). -/
def Layer.unswept (l : Layer) : Layer :=
  { l with placements := l.placements.map (fun p => { p with verdict := .unswept }) }

/-- The end of a step that leaves nothing to choose: the marks of the step are clear and a free transmit line takes its
next frame (R170). -/
def State.ended (s : State) : State := { s with evalDue := false, awaitDue := false, link := s.link.choose }

/-! #### Ramps to rest -/

/-- A linear axis that is brought to rest by a ramp (R123, R125): its move is cut to where the ramp leaves it, and it is at rest
at once where that is where it stands. -/
def LinState.resting (a : LinState) : LinState :=
  { a with move := a.move.bind (fun m => if m.rest a.at = a.at then none else some (m.cut (m.rest a.at))) }

/-- A gantry whose linear axes are being brought to rest, T running on (R123, R125; for a new plan and for a wait T is log 56's
choice). Axes that ramp to rest already go on as they do. -/
def Gantry.ramping (g : Gantry) (w : RestFor) : Gantry :=
  { g with
    motion := .toRest w
    axes := match g.motion with
      | .toRest _ => g.axes
      | _ => ⟨g.axes.x.resting, g.axes.y.resting, g.axes.z.resting⟩ }

/-- The gantry once a cancel has ended its job (R123): in BUSY it ramps to rest, and is IDLE where nothing moves; in STOPPED it is
IDLE at once; any other state it keeps. -/
def Gantry.cancelled (g : Gantry) : Gantry :=
  match g.state with
  | .busy => if (g.ramping .cancel).moving then g.ramping .cancel else { g with
      motion := .none, state := .idle, axes := (g.ramping .cancel).axes }
  | .stopped => { g with state := .idle }
  | _ => g

/-- Will the ramped stop of a BUSY gantry let its motion complete the phase (R125)? Every moving axis ends at the target of its
move, and the motion is one that ends a phase. -/
def State.StopEndsPhase (s : State) : Prop :=
  (s.gantry.motion = .rise ∧ (∃ j, s.job = some j ∧ (j.phase = .pickUp ∨ j.phase = .clear))
    ∨ s.gantry.motion = .travel ∨ s.gantry.motion = .descent)
  ∧ ∀ a m, (s.gantry.axes.get a).move = some m → m.rest (s.gantry.axes.get a).at = m.target

/-- What a ramped stop leaves of the gantry and its job in a state `u` whose cell does not go on (R125). While an axis moves a
BUSY gantry is STOPPING and the job stays; where none does it is STOPPED, with the job at the start of the next phase where its
motion ended its phase, a CLEAR that ends so ends the job, and without a job it is IDLE (log 49). A rise in AWAIT_PUTAWAY is
brought to rest in the same way, and the gantry is then STOPPED. Any other state is kept. -/
def State.RampStopped (s u : State) : Prop :=
  (∀ (d : Bool) (g : Gantry), (d = true ↔ s.StopEndsPhase) → g = s.gantry.ramping (.stop d) → s.gantry.state = .busy →
    (g.moving = true → u.job = s.job ∧ u.gantry = { g with state := .stopping })
    ∧ (g.moving = false → s.gantry.heldChange = false →
      (s.job = none → u.job = none ∧ u.gantry = { g with motion := .none, state := .idle })
      ∧ ∀ j, s.job = some j →
        (d = false ∨ j.phase ≠ .clear → u.gantry = { g with motion := .none, state := .stopped }
          ∧ u.job = some { j with phase := if d then j.phase.next else j.phase })
        ∧ (d = true → j.phase = .clear → u.job = none ∧ u.gantry = { g with motion := .none, state := .idle })))
  ∧ (∀ g : Gantry, g = s.gantry.ramping (.stop false) → s.gantry.state = .awaitPutaway →
    (g.moving = true → u.job = s.job ∧ u.gantry = g)
    ∧ (g.moving = false → s.gantry.heldChange = false → u.job = s.job
      ∧ u.gantry = { g with motion := .none, state := if s.job = none then .idle else .stopped }))
  ∧ (s.gantry.state ≠ .busy → s.gantry.state ≠ .awaitPutaway → u.job = s.job ∧ u.gantry = s.gantry)

/-! #### Phases that start

`e` is the state in which a phase starts, with the travel height already computed (R120), `j` its job and `u` the state after.
The rows hold where no move is stopped at its start: no end limit is active and no curtain broken (R127, R159). -/

/-- No end limit is active and no curtain broken, so that no move is stopped at its start (R127, R159). -/
def Inputs.Clear (i : Inputs) : Prop := (∀ a side, i.limit a side = false) ∧ ∀ st, i.curtain.get st = false

/-- A linear axis sent to a target by a profile move; where it stands there already no move is made (R113, R115). -/
def LinState.sentTo (a : LinState) (cap : Bool) (axis : LinAxis) (p : Profile) (target : Int) : LinState :=
  if target = a.at then a else { a with move := some (newMove cap axis p a.at target) }

/-- Z sent to the travel height with the laden profile (R121, R126). -/
def State.rising (e : State) (j : Job) : Gantry :=
  { e.gantry with
    motion := .rise
    axes := { e.gantry.axes with
      z := e.gantry.axes.z.sentTo e.inputs.warning .Z (e.gantry.profileOf j.laden) e.gantry.lastTravel } }

/-- X, Y and T sent to a place (R115, R121). -/
def State.sentXY (e : State) (p : Profile) (xy : Int × Int) (t : Turn) : Gantry :=
  { e.gantry with
    axes := { e.gantry.axes with
      x := e.gantry.axes.x.sentTo e.inputs.warning .X p xy.1
      y := e.gantry.axes.y.sentTo e.inputs.warning .Y p xy.2 }
    t := if e.gantry.t.pos = some t then e.gantry.t else { e.gantry.t with move := some t } }

/-- Z sent down to a height, the last part a creep over the set-down distance or what remains of it (R115, R126). -/
def State.lowered (e : State) (j : Job) (target : Int) : Gantry :=
  { e.gantry with
    axes := { e.gantry.axes with
      z := if target = (e.gantry.axes.z).at then e.gantry.axes.z else { e.gantry.axes.z with
        move := some (newDescent e.inputs.warning (e.gantry.profileOf j.laden) j.speed j.dist (e.gantry.axes.z).at target) } } }

/-- A phase starts with a rise where Z stands below the travel height, and with the rest of it where not (R121, R126). -/
def State.RiseThen (e u : State) (j : Job) (rest : Prop) : Prop :=
  ((e.gantry.axes.z).at < (e.gantry.lastTravel : Int) → u.job = some j ∧ u.gantry = e.rising j)
  ∧ ((e.gantry.lastTravel : Int) ≤ (e.gantry.axes.z).at → rest)

/-- A motion starts, or the next phase where no axis has to move (R121). -/
def State.MoveThen (u : State) (j : Job) (g : Gantry) (m : Motion) (rest : Prop) : Prop :=
  (g.moving = true → u.job = some j ∧ u.gantry = { g with motion := m }) ∧ (g.moving = false → rest)

/-- RELEASE starts (R121, R126, R143): a held item is released, and a release already handed on is waited for. -/
def State.ReleaseStarts (e u : State) (j : Job) : Prop :=
  u.job = some { j with phase := .release } ∧ u.gantry = e.gantry
  ∧ u.gripper = if e.gripper.state = .holding then e.gripper.blow 1 else e.gripper

/-- SET_DOWN starts (R121, R126). -/
def State.SetDownStarts (e u : State) (j : Job) (d : Dest) : Prop :=
  ∀ (k : Job) (g : Gantry), k = { j with phase := .setDown } → g = e.lowered k (e.destZ k d) →
    u.MoveThen k g .descent (({ e with gantry := g } : State).ReleaseStarts u k)

/-- TRAVEL goes on in X and Y, with T to the required turn; the place on the spill table is fixed with its first start toward it
(R119, R121, R126). -/
def State.TravelStarts (e u : State) (j : Job) (d : Dest) : Prop :=
  ∀ (k : Job) (g : Gantry), k = { j with
      phase := .travel, spillK := if d = .spill ∧ j.spillK = none then some e.spill else j.spillK } →
    g = e.sentXY (e.gantry.profileOf k.laden) (e.destXY k d) k.turn →
    u.MoveThen k g .travel (({ e with gantry := g } : State).SetDownStarts u k d)

/-- GRIP starts (R121, R126, R138): try 1 of a grip with enough zones where the gripper is idle; a grip that goes on is waited
for. -/
def State.GripStarts (e u : State) (j : Job) : Prop :=
  ∀ k : Job, k = { j with phase := .grip } →
    (e.gripper.state ≠ .idle → u.job = some k ∧ u.gantry = e.gantry ∧ u.gripper = e.gripper)
    ∧ ∀ used, used = e.gripper.usable (e.gripNeeds (e.sourceCase k)).1 → e.gripper.state = .idle →
      (e.gripNeeds (e.sourceCase k)).2 ≤ zoneCount used →
      u.job = some k ∧ u.gantry = e.gantry ∧ u.gripper.state = .gripping ∧ u.gripper.attempt = 1
        ∧ u.gripper.timer = some e.gripper.set.gripMs ∧ u.gripper.used = used

/-- PICK_DOWN starts (R121, R126). -/
def State.PickDownStarts (e u : State) (j : Job) : Prop :=
  ∀ (k : Job) (g : Gantry), k = { j with phase := .pickDown } → g = e.lowered k (e.sourceZ k) →
    u.MoveThen k g .descent (({ e with gantry := g } : State).GripStarts u k)

/-- APPROACH goes on in X and Y, with T to 0 (R121, R126). -/
def State.ApproachStarts (e u : State) (j : Job) : Prop :=
  ∀ (k : Job) (g : Gantry), k = { j with phase := .approach } →
    g = e.sentXY (e.gantry.profileOf k.unladen) (e.sourceXY k) .t0 →
    u.MoveThen k g .travel (({ e with gantry := g } : State).PickDownStarts u k)

/-- The phases with a rise (R121, R126): APPROACH, PICK_UP, TRAVEL, and CLEAR, whose end is the end of the job. -/
def State.PhaseRises (e u : State) (j : Job) (p : Phase) (rest : Prop) : Prop := e.RiseThen u { j with phase := p } rest

/-- The phase of a retained job is planned again (R126), row by row: what is still to do of it, a recorded outcome of the gripper
taken, and a phase with nothing left to do followed by the next. -/
def State.PhaseGoesOn (e u : State) (j : Job) (d : Dest) : Prop :=
  ∀ ended pickUp : Prop, ended = (u.job = none ∧ u.gantry = { e.gantry with state := .idle }) →
    pickUp = e.PhaseRises u j .pickUp (e.TravelStarts u j d) →
    match j.phase with
    | .approach => e.PhaseRises u j .approach (e.ApproachStarts u j)
    | .pickDown => e.PickDownStarts u j
    | .grip => if j.gripped then pickUp else if j.gripFailed then e.PhaseRises u j .clear ended else e.GripStarts u j
    | .pickUp => pickUp
    | .travel => e.PhaseRises u j .travel (e.TravelStarts u j d)
    | .setDown => e.SetDownStarts u j d
    | .release => if j.released then e.PhaseRises u j .clear ended else e.ReleaseStarts u j
    | .clear => e.PhaseRises u j .clear ended

/-- The state in which a phase of the job `j` starts with the gantry `g`, on the way from `s` to `u`: BUSY, with the travel height
computed afresh and the gripper as `s` has it (R120, R126). -/
def State.starting (s u : State) (j : Job) (g : Gantry) : State :=
  let w : State := { u with job := some j, gripper := s.gripper, gantry := { g with state := .busy } }
  { w with gantry := { w.gantry with lastTravel := w.travelHeight } }

/-! #### Returns, and changes of a destination -/

/-- What the return of a cell to RUN or FINISHING leaves of a retained job in a state `u` (R126, R151). Where the gantry is
neither STOPPED nor AWAIT_PUTAWAY the cell alone has changed. A STOPPED gantry is no longer STOPPED, unless a broken curtain in
the way of its X target stops the cell anew (R159), and a FINISHING whose job ends in the same event is OFF (R153); the retained
phase is planned again, a phase that begins with a rise rising from where Z stands, and a job without a destination waits in
AWAIT_PUTAWAY with the phase TRAVEL (log 15). A gantry in AWAIT_PUTAWAY that is at rest rises (R123). -/
def State.ReturnedTo (s u : State) (r : Ret) (auto : Bool) : Prop :=
  ∀ next : CellRun, next = (match r with | .run => .run | .finishing => .finishing) →
    (s.gantry.state ≠ .stopped → s.gantry.state ≠ .awaitPutaway →
      u.cell = ⟨next, auto⟩ ∧ u.gantry = s.gantry ∧ u.job = s.job)
    ∧ (s.gantry.state = .stopped →
      (u.gantry.state = .stopped → ∃ m c, u.cell.run = .guardStopped m c)
      ∧ ((∀ st, u.inputs.curtain.get st = false) → u.gantry.state ≠ .stopped)
      ∧ (u.cell = ⟨next, auto⟩ ∨ u.cell = ⟨.off, auto⟩ ∧ next = .finishing ∧ u.job = none
        ∨ ∃ st c, u.inputs.curtain.get st = true ∧ u.cell = ⟨.guardStopped (.ret r) c, auto⟩)
      ∧ (∀ j, s.job = some j → j.dest ≠ none → (j.phase = .approach ∨ j.phase = .pickUp ∨ j.phase = .travel) →
        s.lossZone? = none → s.inputs.limitHigh.z = false → (s.gantry.axes.z).at < (u.travelHeight : Int) →
        u.cell = ⟨next, auto⟩ ∧ u.job = s.job ∧ u.gantry.state = .busy ∧ u.gantry.motion = .rise
          ∧ u.gantry.axes = { s.gantry.axes with z := { s.gantry.axes.z with
              move := some (newMove s.inputs.warning .Z (s.gantry.profileOf j.laden) (s.gantry.axes.z).at u.travelHeight) } })
      ∧ (∀ j d, s.job = some j → j.dest = some d → s.lossZone? = none → u.inputs.Clear →
        (s.starting u j s.gantry).PhaseGoesOn u j d)
      ∧ ∀ j, s.job = some j → j.dest = none → s.lossZone? = none → s.inputs.limitHigh.z = false →
        u.job = some { j with phase := .travel } ∧ u.gantry.state = .awaitPutaway)
    ∧ (s.gantry.state = .awaitPutaway → u.cell = ⟨next, auto⟩ ∧ u.job = s.job
      ∧ (s.gantry.moving = true → u.gantry = s.gantry)
      ∧ (s.gantry.moving = false → u.gantry.lastTravel = u.travelHeight
        ∧ ((s.gantry.axes.z).at < (u.travelHeight : Int) → s.inputs.limitHigh.z = false →
          u.gantry.state = .awaitPutaway ∧ u.gantry.motion = .rise
          ∧ ∃ j, s.job = some j ∧ u.gantry.axes = { s.gantry.axes with z := { s.gantry.axes.z with
              move := some (newMove s.inputs.warning .Z (s.gantry.profileOf j.laden) (s.gantry.axes.z).at u.travelHeight) } })))

/-- TRAVEL of a job `j` toward a destination, planned from where the gantry `g` stands at rest, on the way from `s` to `u` (R123,
R126): Z rises first where it stands below the travel height. -/
def State.Retravels (s u : State) (j : Job) (g : Gantry) (d : Dest) : Prop :=
  ∀ e : State, e = s.starting u { j with phase := .travel } g →
    (u.inputs.limitHigh.z = false → (e.gantry.axes.z).at < (e.gantry.lastTravel : Int) →
      u.job = some { j with phase := .travel } ∧ u.gantry = e.rising j)
    ∧ (u.inputs.Clear → (e.gantry.lastTravel : Int) ≤ (e.gantry.axes.z).at → e.TravelStarts u j d)

/-- What the gantry of a state `s` makes of a destination that its job `j` gets, or loses, where TRAVEL is planned anew (R123).
The moving axes ramp to rest first, with the phase TRAVEL (logs 15 and 38), T ending its old turn (log 56). At rest, with a
destination, TRAVEL starts from there; without one the gantry is AWAIT_PUTAWAY, and rises while the cell runs. -/
def State.RampsToReplan (s u : State) (j : Job) : Prop :=
  (∀ g : Gantry, j.dest = none → g = { s.gantry.ramping .await with state := .awaitPutaway } →
    u.job = some { j with phase := .travel }
    ∧ (g.moving = true → u.gantry = g)
    ∧ (g.moving = false → s.cell.run.going = false → u.gantry = { g with motion := .none })
    ∧ (g.moving = false → s.cell.run.going = true → ∀ h : Nat, h = u.travelHeight →
      ((h : Int) ≤ (g.axes.z).at → u.gantry = { g with motion := .none, lastTravel := h })
      ∧ ((g.axes.z).at < (h : Int) → s.inputs.limitHigh.z = false → u.gantry = { g with
          motion := .rise, lastTravel := h
          axes := { g.axes with
            z := g.axes.z.sentTo s.inputs.warning .Z (g.profileOf j.laden) h } })))
  ∧ ∀ (g : Gantry) (d : Dest), j.dest = some d → g = { s.gantry.ramping .replan with state := .busy } →
    (g.moving = true → u.job = some { j with phase := .travel } ∧ u.gantry = g)
    ∧ (g.moving = false → s.Retravels u j { g with motion := .none } d)

/-- What a BUSY gantry makes of a new destination of its carrying job, or of the lack of one (R123); `j` is the job with the
change. In PICK_UP the rise goes on toward a new destination. -/
def State.TakesDestination (s u : State) (j : Job) : Prop :=
  (j.dest ≠ none → j.phase = .pickUp → u.job = some j ∧ u.gantry = s.gantry)
  ∧ (j.dest = none ∨ j.phase = .travel ∨ j.phase = .setDown → s.RampsToReplan u j)

/-! #### Homing -/

/-- A gantry `g` whose homing has failed with a cause, as `v` (R118): every axis at rest, every mark clear, the counters kept. -/
def Gantry.HomingFailed (g v : Gantry) (c : FaultCause) : Prop :=
  v.state = .faulted c ∧ v.moving = false ∧ v.counters = g.counters ∧ v.kept = none
  ∧ v.t.homed = false ∧ ∀ a, (v.axes.get a).homed = false

/-- Homing is complete with the gantry `g` (R99, R102, R117): the gantry acts on the job of `s` in a state `u`. That the phase
of a job that waits for a destination is TRAVEL is log 15's choice. -/
def State.HomingEnds (s u : State) (g : Gantry) : Prop :=
  (s.job = none → u.job = none ∧ u.gantry = { g with state := .idle, kept := none } ∧ u.evalDue = true)
  ∧ ∀ j, s.job = some j →
    (j.carried = none → u.job = none ∧ u.gantry = { g with state := .idle, kept := none } ∧ u.evalDue = true)
    ∧ ∀ item k, j.carried = some item → s.lossZone? = none → k = { j with
        kind := .putaway, dest := u.chooseDest item, turn := .t0, reservation := none, spillK := none, phase := .travel } →
      (u.chooseDest item = none → u.job = some k ∧ u.gantry = { g with state := .awaitPutaway, kept := none })
      ∧ (s.cell.run.going = false → u.chooseDest item ≠ none →
        u.job = some k ∧ u.gantry = { g with state := .stopped, kept := none })
      ∧ ∀ d, s.cell.run.going = true → u.chooseDest item = some d → s.Retravels u k { g with kept := none } d

/-- X and Y start their part of homing with the gantry `g` (R117, R118, log 14): an end limit that stands active toward which an
axis would move is the fault LIMIT; an axis whose switch stands active is home at once. -/
def State.HomingXYStarts (s u : State) (g : Gantry) : Prop :=
  ∀ i : Inputs, i = u.inputs →
    (i.limitLow.x = true ∧ i.homeX = false ∨ i.limitLow.y = true ∧ i.homeY = false →
      u.job = s.job ∧ g.HomingFailed u.gantry .limit)
    ∧ ∀ h : Gantry, ¬(i.limitLow.x = true ∧ i.homeX = false ∨ i.limitLow.y = true ∧ i.homeY = false) →
      h = { g with homing := 3, axes := { g.axes with
        x := if i.homeX then ⟨some 0, true, none⟩ else g.axes.x
        y := if i.homeY then ⟨some 0, true, none⟩ else g.axes.y } } →
      (h.axes.x.homed = false ∨ h.axes.y.homed = false → u.job = s.job ∧ u.gantry = h)
      ∧ (h.axes.x.homed = true → h.axes.y.homed = true → s.HomingEnds u h)

/-- T starts its part of homing with the gantry `g` (R117): where its switch stands active it is home at once. -/
def State.HomingTStarts (s u : State) (g : Gantry) : Prop :=
  (u.inputs.homeT = false → u.job = s.job ∧ u.gantry = { g with homing := 2 })
  ∧ (u.inputs.homeT = true → s.HomingXYStarts u { g with t := ⟨some .t0, true, none⟩ })

/-! #### Stops without a fault -/

/-- What a quick stop without a fault leaves of the gantry and its job in a state `u` (R124, R118): every axis at rest where it
stands. A BUSY, STOPPING or AWAIT_PUTAWAY gantry is STOPPED and retains the job with its phase, and is IDLE where a cancel has
ended the job already (log 49); a change of destination held in STOPPING is taken at the stop, with the phase TRAVEL where it
takes a set-down back or leaves no destination (R123, logs 15 and 17). A HOMING gantry returns to the state it had before HOME,
and any other keeps its state. -/
def State.QuickStopped (s u : State) : Prop :=
  u.gantry.moving = false ∧ u.gantry.counters = s.gantry.counters
  ∧ (s.gantry.state = .busy ∨ s.gantry.state = .stopping ∨ s.gantry.state = .awaitPutaway →
    (s.gantry.heldChange = false →
      u.job = s.job ∧ u.gantry.state = if s.job = none then .idle else .stopped)
    ∧ ∀ j, s.job = some j → s.gantry.heldChange = true → s.lossZone? = none →
      u.job = some { j with
        phase := if j.dest = none ∨ j.phase = .setDown ∨ j.phase = .release then .travel else j.phase }
      ∧ u.gantry.state = if j.dest = none then .awaitPutaway else .stopped)
  ∧ (s.gantry.state ≠ .busy → s.gantry.state ≠ .stopping → s.gantry.state ≠ .awaitPutaway → u.job = s.job
    ∧ (s.gantry.state ≠ .homing → u.gantry.state = s.gantry.state)
    ∧ (s.gantry.state = .homing →
      u.gantry.state = match s.gantry.kept with | none => .unhomed | some c => .faulted c))

/-- The backlog takes a request and hands it on at once: there is room, no RESTART is outstanding, and every request in
it is decided (R168, R169, R179). -/
def Link.Ready (l : Link) : Prop :=
  l.backlog.length < Config.backlogMax ∧ l.restartPending = false ∧ ∀ r ∈ l.backlog, r.reply ≠ none

/-- A state after the decision of a request: the request stands last in the backlog with its reply (R168, R169). -/
def State.replied (s : State) (kind : Nat) (tag : Byte) (body : List Byte) (b : ReplyBody) : State :=
  { s with
    link := { s.link with
      framer := .hunting
      backlog := s.link.backlog ++ [⟨byte kind, tag, body, some b⟩] } }

/-- The end of a step that decided a request and leaves nothing to choose. -/
def State.answered (s : State) (kind : Nat) (tag : Byte) (body : List Byte) (b : ReplyBody) : State :=
  (s.replied kind tag body b).ended

/-- The decision of the block that owns a request, step 4 of R169: the state after it and the reply. RESTART is answered OK with
no other effect yet (R179); an unknown kind has no owner, and is answered before this step. -/
def decision : Instr → State → State × ReplyBody
  | .setCell _ body => ownSetCell body
  | .setStation _ body => ownSetStation body
  | .setProfile _ body => ownSetProfile body
  | .setHandling _ body => ownSetHandling body
  | .setGripper _ body => ownSetGripper body
  | .defineType _ body => ownDefineType body
  | .defineArticle _ body => ownDefineArticle body
  | .dropArticle _ body => ownDropArticle body
  | .lockSettings _ _ => fun s => ({ s with link := { s.link with lock := true } }, .code .ok)
  | .loadLayer _ body => ownLoadLayer body
  | .withdrawId _ body => ownWithdrawId body
  | .withdrawTag _ body => ownWithdrawTag body
  | .closePlan _ body => ownClosePlan body
  | .abandonPlan _ body => ownAbandonPlan body
  | .setDeparture _ body => ownSetDeparture body
  | .setSheets _ body => ownSetSheets body
  | .home _ _ => ownHome
  | .start _ _ => ownStart
  | .stop _ _ => ownStop
  | .pauseRamped _ body => ownPauseRamped body
  | .pauseQuick _ _ => ownPauseQuick
  | .resume _ _ => ownResume
  | .recover _ body => ownRecover body
  | .gripperReset _ _ => ownGripperReset
  | .clearSlot _ body => ownClearSlot body
  | .stationHold _ body => ownStationHold body
  | .stationResume _ body => ownStationResume body
  | .purgeLane _ body => ownPurgeLane body
  | .queryStation _ body => asked (ansQueryStation body)
  | .queryLayer _ body => asked (ansQueryLayer body)
  | .queryPlacement _ body => asked (ansQueryPlacement body)
  | .queryStack _ body => asked (ansQueryStack body)
  | .querySurface _ body => asked (ansQuerySurface body)
  | .queryLane _ body => asked (ansQueryLane body)
  | .queryShelf _ _ => asked ansQueryShelf
  | .queryGantry _ body => asked (ansQueryGantry body)
  | .queryGripper _ _ => asked ansQueryGripper
  | .queryType _ body => asked (ansQueryType body)
  | .queryArticle _ body => asked (ansQueryArticle body)
  | .queryHandling _ body => asked (ansQueryHandling body)
  | .unknownKind _ _ _ | .restart _ _ | .powerOn | .goodFrame _ | .linkGapTimeout _ _ | .linkStopBitError _ | .frameSent
  | .arrival _ _ | .scannerGapTimeout _ _ | .scannerStopBitError _ _ | .casePresentOn _ | .casePresentOff _
  | .accumulationEmpty _ _ | .waitExpiry _ | .slotPresence _ _ | .spillTableCleared _ | .walkEnd _ | .moveEnd _
  | .homeSwitch _ _ | .homeSwitchNotFound _ | .endLimit _ _ _ | .door _ | .curtainBreak _ | .curtainRestore _
  | .palletPresent _ _ | .warningField _ | .vacuumReading _ _ | .gripTimerExpiry | .releaseTimerExpiry
  | .pullInExpiry _ | .faultInput _ _ _ | .decayExpiry | .departureTick _ | .duePassed _ | .frameCheckMismatch _
  | .bodyLengthAbove1020 _ => fun s => (s, .code .ok)

/-- A request decided where it stands in the backlog, with `before` ahead of it and `after` behind (R168, R169): the decision is
that of `decided`, and the reply is formed in the request's place, the others staying as they are. -/
def State.decidedInPlace (s : State) (c : Instr) (q : Request) (before after : List Request) : State :=
  let r := ({ s with evalDue := false, awaitDue := false } : State).decided q.kind.toNat q.body (decision c)
  { r.1 with link := { r.1.link with backlog := before ++ { q with reply := some r.2 } :: after } }

/-- The GUARD reports that wait, in order (R155). -/
def State.guards (s : State) : List ReportBody :=
  (s.link.reports.map Report.body).filter (fun r => match r with | .guard .. => true | _ => false)

/-- A list names the supports of bearing cells with their shares (R48): each distinct top reference once, with the number of cells
that have it, DECK first and the entries by rising index. -/
def SupportsFor (bear : List Cell) (sup : List (Ref × Nat)) : Prop :=
  (∀ r m, (r, m) ∈ sup ↔ m = bear.countP (fun x => x.ref == r) ∧ 0 < m)
  ∧ sup.Pairwise (fun x y => x.1 = .deck ∧ y.1 ≠ .deck ∨ ∃ i j, x.1 = .entry i ∧ y.1 = .entry j ∧ i < j)

/-- Does a station rank before another (R92, R93, R164)? The smaller slack does, an UNSET departure ranks after every slack,
and A ranks first where neither is smaller. -/
def State.Outranks (s : State) (st other : StationId) : Prop :=
  match (s.stn.get st).slack, (s.stn.get other).slack with
  | some x, some y => x < y ∨ x = y ∧ st = .A
  | some _, none => True
  | none, some _ => False
  | none, none => st = .A

/-- A station admits dispatch with its working layer's sheet due and admitted (R57, R92). -/
def State.SheetStands (s : State) (st : StationId) : Prop :=
  (s.stn.get st).mode = .plain .building ∧ (s.stack.get st).sweep.state = .idle ∧ (s.plan.get st).sheetDue = true
    ∧ ∃ r, (s.stack.get st).sheetVerdict = .admitted r

/-- A source holds a case of a placement's type that no job has claimed: a HELD slot or a front case (R93). -/
def State.Offers (s : State) (p : Placement) : Source → Prop
  | .slot i => ∃ r t m, s.slots[i] = .held r t m ∧ r.type = some p.type
  | .lane l => (s.lanes.get l).pick = .front ∧ ∃ r, (s.lanes.get l).fifo.head? = some r ∧ r.type = some p.type
  | .magazine => False

/-- A PLACE pair of a station (R93). -/
def State.PairStands (s : State) (st : StationId) (p : Placement) (src : Source) : Prop :=
  (s.stn.get st).mode = .plain .building ∧ (s.stack.get st).sweep.state = .idle ∧ p ∈ (s.plan.get st).eligiblePending
    ∧ (∃ r, p.verdict = .admitted r) ∧ s.Offers p src

/-- Does a lane's front case rank before another's (R78, R93, R94)? The longer wait does, and L1 on equal waits. -/
def State.WaitsLonger (s : State) (l other : LaneId) : Prop :=
  (s.lanes.get other).wait < (s.lanes.get l).wait ∨ (s.lanes.get other).wait = (s.lanes.get l).wait ∧ l = .L1

/-- Does a slot's case rank before another's (R80)? The earlier shelving time does, and the lower slot on equal times. -/
def State.Older (s : State) (i k : SlotId) : Prop :=
  ∀ r t m r' t' m', s.slots[i] = .held r t m → s.slots[k] = .held r' t' m' → t < t' ∨ t = t' ∧ i < k

/-- Does the case of one source rank before that of another (R93)? Buffered cases come before front cases. -/
def State.CaseBefore (s : State) : Source → Source → Prop
  | .slot i, .slot k => s.Older i k
  | .slot _, .lane _ => True
  | .lane l, .lane other => s.WaitsLonger l other
  | _, _ => False

/-- A lane's front case is wanted (R94). -/
def State.PutStands (s : State) (l : LaneId) : Prop :=
  (s.lanes.get l).pick = .front ∧ ∃ r, (s.lanes.get l).fifo.head? = some r ∧ s.wantedRec r = true

/-- A slot holds a stale case (R80, R95). -/
def State.StaleStands (s : State) (i : SlotId) : Prop := ∃ r t m, s.slots[i] = .held r t m ∧ s.wantedRec r = false

/-- A slot is free for a PUT (R94). -/
def State.FreeSlot (s : State) (i : SlotId) : Prop := s.slots[i] = .empty false ∧ s.inputs.slotPresence[i] = false

/-- The lowest-numbered free slot (R94, R102). -/
def State.LowestFree (s : State) (i : SlotId) : Prop := s.FreeSlot i ∧ ∀ k, k < i → ¬s.FreeSlot k

/-- A dispatch evaluation is made at the end of the step: a dispatch event came, its conditions hold (R91), and no PUTAWAY
job chooses first (log 8). -/
def State.Evaluates (s : State) : Prop := s.awaitDue = false ∧ s.evalDue = true ∧ s.mayDispatch = true

/-- The placement record of one placement of a LOAD_LAYER body that passes checks 7 to 9 of R21: the body's fields, the
footprint of R19, PENDING and UNSWEPT (R17, R22). Every type is at least 50 mm long and wide (R2), so that the footprint has a
cell. -/
def State.PlaceTaken (s : State) (st : StationId) (q : PlaceBody) (p : Placement) : Prop :=
  ∃ (t : CaseType) (r : Turn), turn? q.turn = some r ∧ q.type < 64 ∧ q.aisle ≤ 99 ∧ (∀ n, q.override = some n → n ≤ 5)
    ∧ s.dir.typeAt q.type = some t
    ∧ p = {
        id := q.id, type := q.type, i0 := q.i0, j0 := q.j0, turn := r, aisle := q.aisle, order := q.order
        override := q.override
        cx := ceilDiv (match r with | .t0 => t.len | .t90 => t.wid) 50
        cy := ceilDiv (match r with | .t0 => t.wid | .t90 => t.len) 50
        state := .pending, verdict := .unswept }
    ∧ 0 < p.cx ∧ 0 < p.cy ∧ p.i0 + p.cx ≤ (s.stack.get st).limits.foot.ni ∧ p.j0 + p.cy ≤ (s.stack.get st).limits.foot.nj

/-- A placement id is in use in a station (R18). -/
def State.IdTaken (s : State) (st : StationId) (id : Nat) : Prop :=
  (∃ p ∈ (s.plan.get st).placements, p.id = id) ∨ id ∈ (s.stack.get st).caseIds

/-- Two footprints share a cell (check 11 of R21). -/
def Placement.ShareCell (p q : Placement) : Prop :=
  ∃ i j, p.i0 ≤ i ∧ i < p.i0 + p.cx ∧ q.i0 ≤ i ∧ i < q.i0 + q.cx
    ∧ p.j0 ≤ j ∧ j < p.j0 + p.cy ∧ q.j0 ≤ j ∧ j < q.j0 + q.cy

/-- Placements of a LOAD_LAYER body, with the records they get, that pass checks 7 to 11 of R21 in list order. -/
def State.PlacesTaken (s : State) (st : StationId) (qs : List PlaceBody) (ps : List Placement) : Prop :=
  List.Forall₂ (s.PlaceTaken st) qs ps ∧ (∀ p ∈ ps, ¬s.IdTaken st p.id) ∧ (ps.map Placement.id).Nodup
    ∧ ps.Pairwise (fun p q => ¬p.ShareCell q)

/-- The load that reaches each entry of a stack, over every path (R49, R50): its share of the first-level loads of a candidate
with the per-cell share `q` on the bearing cells `bear`, and what every entry hands on to it. -/
def Stack.Loads (k : Stack) (bear : List Cell) (q : Nat) (load : Nat → Nat) : Prop :=
  ∀ i, i < k.table.length → load i = q * bear.countP (fun x => x.ref == .entry i)
    + (k.table.mapIdx (fun t e =>
        ((e.supports.filter (fun x => x.1 == .entry i)).map (fun x => ceilDiv (load t * x.2) e.k)).sum)).sum

/-- The order in which the walk-down takes the entries: by descending base, and by index on equal bases (R50). -/
def Stack.TakenBefore (k : Stack) (i j : Nat) : Prop :=
  ∃ x y, k.table[i]? = some x ∧ k.table[j]? = some y ∧ (y.base < x.base ∨ y.base = x.base ∧ i < j)

/-- The values a reset gives the operational state: `t` after the reset of `s`, with the settings `t` holds (R178, R179
and the reset rule of each chapter). The first report, STARTED, is on the line. -/
def ResetValues (s t : State) (restart : Bool) : Prop :=
  t.clock = 0 ∧ t.plan = ⟨⟨[], false⟩, ⟨[], false⟩⟩
    ∧ (∀ st, t.stack.get st = .bare (t.stack.get st).limits)
    ∧ (∀ l, t.lanes.get l = { Lane.initial with
        purging := !s.inputs.laneEmpty.get l
        pick := if s.inputs.casePresent.get l then
            .releasing false (if s.inputs.laneEmpty.get l then .untracked else .purge) else .empty })
    ∧ (∀ i : SlotId, t.slots[i] = if s.inputs.slotPresence[i] then .blocked else .empty false)
    ∧ t.spill = 6 ∧ t.job = none ∧ t.magazine = 0 ∧ t.stall = ⟨false, false⟩
    ∧ t.gantry.state = .unhomed ∧ t.gantry.axes = ⟨⟨none, false, none⟩, ⟨none, false, none⟩, ⟨none, false, none⟩⟩
    ∧ t.gantry.t = ⟨none, false, none⟩ ∧ t.gantry.lastTravel = 0 ∧ t.gantry.kept = none
    ∧ t.gripper.state = .idle ∧ t.gripper.timer = none ∧ t.gripper.attempt = 0 ∧ t.gripper.used = noZones ∧ t.gripper.counter = 0 ∧ t.gripper.decay = none
    ∧ t.gripper.dropMark = false
    ∧ (∀ z, t.gripper.zones.get z = ⟨.off, false, s.inputs.overcurrent.get z || s.inputs.openLoad.get z⟩)
    ∧ t.cell.run = .off
    ∧ (∀ st, (t.stn.get st).mode =
          (if s.inputs.curtain.get st then Mode.exchange else Mode.plain)
            (if s.inputs.pallet.get st then .unverified else .noPallet)
        ∧ (t.stn.get st).absentSeen = (s.inputs.curtain.get st && !s.inputs.pallet.get st)
        ∧ (t.stn.get st).departure = .unset ∧ (t.stn.get st).status = .none)
    ∧ t.link = { Link.initial with
        lock := t.link.lock
        tx := some (.report ⟨.started restart (allStations.countP s.inputs.pallet.get)
          (allSlots.countP (fun i => s.inputs.slotPresence[i])), .progress, 0⟩ false) }
    ∧ t.evalDue = false ∧ t.awaitDue = false

/-- What no shared operation of the blocks changes: the queue, the clock, the inputs, the draws, the directory, the
request side of the link and the settings of the lock. -/
structure Fixed where
  pending : List Instr
  clock : Nat
  inputs : Inputs
  draws : Nat
  dir : Directory
  framer : Receiver
  backlog : List Request
  busy : List Reply
  tx : Option Sending
  settings : LockedSettings
  deriving DecidableEq, Repr

def State.fixed (s : State) : Fixed :=
  ⟨s.pending, s.clock, s.inputs, s.draws, s.dir, s.link.framer, s.link.backlog, s.link.busy, s.link.tx, s.lockedSettings⟩

end Sys2Proof.Machine
end

