-- ==== Sys2Proof/Certificates/Slice0/Obligations.lean ====
section
/-! DEFINITION. The statements for the provers, from the numbered rules of the spec, block by block. -/

open Sys2Proof Sys2Proof.Machine

/-! ### The step and the whole machine -/

/-- The step runs the command at the front of the queue, with the queue's rest (the model's form, log 1; a request is
handed on in arrival order, R169). -/
def Obligations.StepRunsTheFrontCommand : Prop :=
  ∀ (s : State) (c : Instr) (rest : List Instr), s.pending = c :: rest → step s = exec c { s with pending := rest }

/-- On an empty queue the cell's time goes on (the model's choice, logs 2, 10 and 20). The oldest change of an input that has
stood for 2 ms is taken as the event its row names (R1). Where there is none one millisecond passes: the clock, the bounce
filters and the timers run, a moving axis gets no farther from where its move ends, and nothing else changes. -/
def Obligations.IdleStepPassesOneMillisecond : Prop :=
  (∀ (s : State) (x : Sensor) (before after : List (Sensor × Nat)) (c : Instr), s.pending = [] →
    s.inputs.filter = before ++ (x, 0) :: after → (∀ e ∈ before, e.2 ≠ 0 ∧ e.1 ≠ x) →
    c.sensor? = some (x, !s.inputs.level x) → step s = exec c s)
  ∧ ∀ s : State, s.pending = [] → (∀ e ∈ s.inputs.filter, e.2 ≠ 0) → ∃ t : State, step s = .next t
    ∧ t = { s with
        clock := s.clock + 1
        inputs := { s.inputs with filter := s.inputs.filter.map (fun e => (e.1, e.2 - 1)) }
        lanes := t.lanes, gripper := t.gripper, gantry := t.gantry, draws := t.draws }
    ∧ (∀ l, t.lanes.get l = { s.lanes.get l with
        wait := if s.waitCounts l ∧ (s.lanes.get l).wait < 1000 * s.gantry.waitLimit then (s.lanes.get l).wait + 1
          else (s.lanes.get l).wait })
    ∧ t.gripper = { s.gripper with
        timer := s.gripper.timer.map (fun n => n - 1)
        decay := s.gripper.decay.map (fun n => min (n + 1) 600000)
        zones := t.gripper.zones }
    ∧ (∀ z, t.gripper.zones.get z = { s.gripper.zones.get z with
        valve := match (s.gripper.zones.get z).valve with
          | .hold ms => .hold (ms + 1)
          | v => v })
    ∧ t.gantry = { s.gantry with axes := t.gantry.axes }
    ∧ ∀ a, match (s.gantry.axes.get a).move with
      | none => t.gantry.axes.get a = s.gantry.axes.get a
      | some m => ∃ x, t.gantry.axes.get a = { s.gantry.axes.get a with counter := some x }
          ∧ distance m.goal x ≤ distance m.goal (s.gantry.axes.get a).at

/-- No command ends the run: every command answers a next state and leaves the queue of commands and the count of free
values as they are. The inputs belong to the cell: a command that is not the change of an input's level leaves every input
as it is, the two resets included. A filtered input (R1) that shows the level it has is no change (log 4). One that shows
the other level begins its 2 ms; it drops the change where it goes back before they are over, and where they are over the
change is the event, which alters that level alone. The form of the filter is the model's (log 20). -/
def Obligations.EveryCommandAnswersAndKeepsQueueAndInputs : Prop :=
  (∀ (c : Instr) (s : State), ∃ t : State, exec c s = .next t ∧ t.pending = s.pending ∧ t.draws = s.draws
    ∧ (c.sensed = false → t.inputs = s.inputs))
  ∧ (∀ (c : Instr) (x : Sensor) (v : Bool) (s : State), c.sensor? = some (x, v) →
    (s.inputs.changing x = none →
      (s.inputs.level x = v → exec c s = .next s.ended)
      ∧ (s.inputs.level x ≠ v → exec c s = .next ({ s with inputs := { s.inputs with
          filter := s.inputs.filter ++ [(x, 2)] } } : State).ended))
    ∧ (∀ n, s.inputs.changing x = some n → n ≠ 0 →
      (s.inputs.level x ≠ v → exec c s = .next s.ended)
      ∧ (s.inputs.level x = v → exec c s = .next ({ s with inputs := { s.inputs with
          filter := s.inputs.filter.filter (fun e => e.1 != x) } } : State).ended))
    ∧ (s.inputs.changing x = some 0 → ∃ t : State, exec c s = .next t ∧ t.inputs.level x = !s.inputs.level x
      ∧ t.inputs.changing x = (if s.inputs.level x = v then some 2 else none)
      ∧ t.clock = s.clock ∧ t.inputs.reading = s.inputs.reading
      ∧ ∀ y, y ≠ x → t.inputs.level y = s.inputs.level y ∧ t.inputs.changing y = s.inputs.changing y))

/-- The state after reset meets the laws that every step keeps. -/
def Obligations.ResetMeetsTheLaws : Prop :=
  State.reset.Bounded ∧ State.reset.gripper.LockoutLaw ∧ State.reset.GuardLaw ∧ State.reset.BindingLaw
    ∧ State.reset.StackLaw

/-- The dispatch evaluation at the end of a step (R91 to R95): none is made where no dispatch event came or its conditions fail;
with the magazine at 0 it first holds every station whose sheet stands admitted (R92), and goes on with the others; without a
candidate nothing changes, and a choice that can be gripped becomes the job. What is chosen, exactly: a SHEET of the station
that ranks first; without one, the PLACE pair of the first station, its first placement in plan order and the first case for it;
without one, the PUT of the front case that waits longest to the lowest free slot; without one, the PUTAWAY of the oldest stale
case; and nothing only where none of these stands. A destination after the grip is the lowest free slot for a wanted case, the
spill table otherwise, and none while that is full; a PUTAWAY job that waits takes it or waits on (R102, R103). With a
destination the waiting gantry is STOPPED, at rest at once and otherwise when it is at rest, in a cell that does not run, and
BUSY in TRAVEL, rising first, in one that does (R123, State.RampsToReplan, which rests on logs 15, 38 and 56; while a ramped
stop ramps, log 50). That evaluation and choice are made once, at the end of the step, after the command's own effect, is the
model's choice (log 8). -/
def Obligations.DispatchChoosesByRankWhereItMay : Prop :=
  (∀ s : State, s.evalDue = false → s.awaitDue = false → s.settle = s.ended)
  ∧ (∀ s : State, s.awaitDue = false →
      (s.job ≠ none ∨ s.gantry.state ≠ .idle ∨ s.cell.run ≠ .run ∨ s.gripper.state = .lockedOut) → s.settle = s.ended)
  ∧ (∀ s : State, s.Evaluates → s.magazine = 0 → ∃ v : State, s.settle = v.settle ∧ v.Evaluates
      ∧ (∀ st, ¬v.SheetStands st)
      ∧ v = { s with stn := v.stn, stall := v.stall, link := v.link }
      ∧ (∀ st, s.SheetStands st → (v.stn.get st).mode = .plain (.held .sheetsOut))
      ∧ (∀ st, ¬s.SheetStands st → v.stn.get st = s.stn.get st)
      ∧ ((∀ st, ¬s.SheetStands st) → v = s))
  ∧ (∀ s : State, s.Evaluates → (s.magazine ≠ 0 ∨ ∀ st, ¬s.SheetStands st) → s.choice = none → s.settle = s.ended)
  ∧ (∀ (s : State) (c : Choice), s.Evaluates → (s.magazine ≠ 0 ∨ ∀ st, ¬s.SheetStands st) → s.choice = some c →
      s.grippable (s.caseAt c.source) = true → s.settle = (s.createJob c).ended)
  ∧ (∀ (s : State) (st : StationId), s.choice = some (.sheet st) ↔
      s.magazine ≠ 0 ∧ s.SheetStands st ∧ ∀ x, s.SheetStands x → x ≠ st → s.Outranks st x)
  ∧ (∀ (s : State) (st : StationId) (p : Placement) (src : Source), s.choice = some (.place st p src) ↔
      (s.magazine = 0 ∨ ∀ x, ¬s.SheetStands x) ∧ s.PairStands st p src
        ∧ (∀ x q y, s.PairStands x q y → x ≠ st → s.Outranks st x)
        ∧ (∃ before after, (s.plan.get st).eligiblePending = before ++ p :: after
            ∧ ∀ q ∈ before, ∀ y, ¬s.PairStands st q y)
        ∧ ∀ y, s.Offers p y → y ≠ src → s.CaseBefore src y)
  ∧ (∀ (s : State) (l : LaneId) (i : SlotId), s.choice = some (.put l i) ↔
      (s.magazine = 0 ∨ ∀ x, ¬s.SheetStands x) ∧ (∀ x q y, ¬s.PairStands x q y) ∧ s.LowestFree i
        ∧ s.PutStands l ∧ ∀ x, s.PutStands x → x ≠ l → s.WaitsLonger l x)
  ∧ (∀ (s : State) (i : SlotId), s.choice = some (.putaway i) ↔
      (s.magazine = 0 ∨ ∀ x, ¬s.SheetStands x) ∧ (∀ x q y, ¬s.PairStands x q y)
        ∧ ((∀ k, ¬s.FreeSlot k) ∨ ∀ l, ¬s.PutStands l) ∧ s.spill < 6
        ∧ s.StaleStands i ∧ ∀ k, s.StaleStands k → k ≠ i → s.Older i k)
  ∧ (∀ s : State, s.choice = none ↔
      (s.magazine = 0 ∨ ∀ x, ¬s.SheetStands x) ∧ (∀ x q y, ¬s.PairStands x q y)
        ∧ ((∀ k, ¬s.FreeSlot k) ∨ ∀ l, ¬s.PutStands l) ∧ (6 ≤ s.spill ∨ ∀ k, ¬s.StaleStands k))
  ∧ (∀ (s : State) (r : ArrivalRec) (i : SlotId), s.wantedRec r = true → s.LowestFree i →
      s.chooseDest (.case r) = some (.slot i))
  ∧ (∀ (s : State) (item : Item),
      (item = .sheet ∨ (∃ r, item = .case r ∧ s.wantedRec r = false) ∨ ∀ i, ¬s.FreeSlot i) →
      s.chooseDest item = if s.spill < 6 then some .spill else none)
  ∧ (∀ (s : State) (j : Job) (item : Item), s.awaitDue = true → s.job = some j → j.kind = .putaway → j.dest = none →
      j.carried = some item →
      (s.chooseDest item = none → s.settle = s.ended)
      ∧ (∀ d, s.chooseDest item = some d → s.gantry.heldChange = false → s.lossZone? = none →
        ∃ (u : State) (j' : Job), s.settle = u.ended ∧ u.job = some j' ∧ j'.kind = .putaway ∧ j'.dest = some d
          ∧ j'.carried = some item
          ∧ (s.gantry.state = .awaitPutaway → s.cell.run.going = false → s.gantry.moving = false →
              u.gantry.state = .stopped)
          ∧ (s.gantry.state = .awaitPutaway → s.cell.run.going = false → s.gantry.moving = true → u.gantry = s.gantry)
          ∧ (s.gantry.state = .awaitPutaway → s.cell.run.going = true →
              s.RampsToReplan u { j with dest := some d, spillK := none })
          ∧ (s.gantry.state = .stopping → u.gantry = { s.gantry with heldChange := true })))

/-- What an evaluation makes of its choice (R13, R92, R96, R97, R112): a job with the fields that R97 names, its placement
BOUND; an item that cannot be gripped is given up and the evaluation made again, a PLACE, PUT and PUTAWAY with the magazine at 0
as well; and with the magazine at 0 a station whose sheet stands admitted is HELD with SHEETS_OUT, after which the evaluation
goes on with the others (DispatchChoosesByRankWhereItMay). That the substitution mark also stands for an undefined slot 0 is
read from R112 by log 18. -/
def Obligations.ChosenJobsAreMadeOrGivenUp : Prop :=
  (∀ (s : State) (c : Choice), s.Evaluates → (s.magazine ≠ 0 ∨ ∀ st, ¬s.SheetStands st) → s.choice = some c →
    s.grippable (s.caseAt c.source) = true →
    ∃ (u : State) (j : Job), s.settle = u.ended ∧ u.job = some j ∧ u.gantry.state ≠ .idle ∧ u.fixed = s.fixed
      ∧ j.source = c.source ∧ j.gripped = false ∧ j.released = false ∧ j.carried = none
      ∧ (∀ st, c = .sheet st → j.kind = .sheet ∧ j.dest = some (.sheet st) ∧ j.turn = .t0 ∧ j.cls = 0
          ∧ ∀ r, (s.stack.get st).sheetVerdict = .admitted r → j.reservation = some r)
      ∧ (∀ st p src, c = .place st p src → j.kind = .place ∧ j.dest = some (.placement st p.id)
          ∧ (∀ r, p.verdict = .admitted r → j.reservation = some r)
          ∧ (∀ r, s.caseAt src = some r → j.turn = if r.orient = some p.turn then .t0 else .t90)
          ∧ (∀ t, s.dir.typeAt p.type = some t → j.cls = p.override.getD t.hcls)
          ∧ ∀ q ∈ (u.plan.get st).placements, q.id = p.id → q.state = .bound)
      ∧ (∀ l i, c = .put l i → j.kind = .put ∧ j.dest = some (.slot i))
      ∧ (∀ i, c = .putaway i → j.kind = .putaway ∧ j.dest = some .spill)
      ∧ (j.kind = .put ∨ j.kind = .putaway → j.turn = .t0 ∧ j.reservation = none
          ∧ ∀ r t, s.caseAt c.source = some r → r.type.bind s.dir.typeAt = some t → j.cls = t.hcls)
      ∧ ∀ h zero, s.dir.handling[j.cls]? = some h → zero = (if s.gantry.defined 0 then .slot 0 else .fallback) →
          j.profile = h.profile ∧ j.speed = h.speed ∧ j.dist = h.dist
          ∧ j.laden = (if s.gantry.defined h.profile then .slot h.profile else zero) ∧ j.unladen = zero
          ∧ j.subst = (!s.gantry.defined h.profile || !s.gantry.defined 0))
  ∧ (∀ (s : State) (c : Choice), s.Evaluates → (s.magazine ≠ 0 ∨ ∀ st, ¬s.SheetStands st) → s.choice = some c →
    s.grippable (s.caseAt c.source) = false →
    ∃ u : State, (u.choice = none → s.settle = u.ended)
      ∧ (∀ d, u.choice = some d → u.grippable (u.caseAt d.source) = true → s.settle = (u.createJob d).ended)
      ∧ (∀ l r rest, c.source = .lane l → (s.lanes.get l).fifo = r :: rest → u = { s with
          lanes := s.lanes.set l { s.lanes.get l with
            pick := .releasing true .ungrippable, wait := 0, fifo := { r with disp := .runOff .ungrippable } :: rest } })
      ∧ (∀ i r t m, c.source = .slot i → s.slots[i] = .held r t m →
          u = ({ s with slots := s.slots.set i .blocked, evalDue := true, awaitDue := true } : State).report
            (.slot i .blocked .ungrippable (some ⟨r.lane, r.seq, r.type⟩)))
      ∧ (∀ st, c = .sheet st → (u.stn.get st).mode = .plain (.held .sheetsOut)
          ∧ u = { s with stn := u.stn, stall := u.stall, link := u.link, evalDue := u.evalDue }
          ∧ ∀ st', st' ≠ st → u.stn.get st' = s.stn.get st'))
  ∧ (∀ s : State, s.Evaluates → s.magazine = 0 → ∃ u : State, s.settle = u.ended
    ∧ ∀ st, (s.SheetStands st → (u.stn.get st).mode = .plain (.held .sheetsOut))
        ∧ (¬s.SheetStands st → (u.stn.get st).mode = (s.stn.get st).mode))

/-! ### Power and the line link -/

/-- POWER_ON (R178): every block takes its power-on values, the settings with them; inputs and queue stay. Of
`Gantry.initial` the spec gives what R132 names; the geometry's fields, which it leaves undefined, are 0 by log 6, and the
part of homing and the held change are clear by log 33. -/
def Obligations.PowerOnLeavesThePowerOnValues : Prop :=
  ∀ s : State, ∃ t : State, exec .powerOn s = .next t ∧ ResetValues s t false
    ∧ t.pending = s.pending ∧ t.inputs = s.inputs ∧ t.draws = s.draws
    ∧ t.dir = Directory.initial ∧ t.gantry = Gantry.initial ∧ t.gripper.set = ⟨65, 45, 600, 150, 100, 80⟩
    ∧ t.cell.auto = false ∧ t.link.lock = false
    ∧ ∀ st, (t.stack.get st).limits = ⟨1800, 8000, 10, .full⟩ ∧ (t.stn.get st).sheetCost = 120
      ∧ (t.stn.get st).margin = 600

/-- FRAME_SENT (R168, R170, R179): the end of a reply removes the answered request from the head of the backlog; the end of
a BUSY reply or a report only frees the line. The line then takes the next frame. Once the last byte of an OK reply of
RESTART is sent, every block takes its reset values instead, and the settings, the tables and the settings lock are kept. On
an idle line the event does not arise, and that it then changes nothing but the line's choice is the model's (log 4). -/
def Obligations.FrameSentFreesTheLineAndRestartClears : Prop :=
  (∀ s : State, s.link.tx = none → exec .frameSent s = .next s.ended)
  ∧ (∀ (s : State) (r : Reply), s.link.tx = some (.busy r) →
      exec .frameSent s = .next ({ s with link := { s.link with tx := none } } : State).ended)
  ∧ (∀ (s : State) (r : Report) (lost : Bool), s.link.tx = some (.report r lost) →
      exec .frameSent s = .next ({ s with link := { s.link with tx := none } } : State).ended)
  ∧ (∀ (s : State) (r : Reply), s.link.tx = some (.reply r) → (r.kind ≠ 0x2B ∨ r.body ≠ .code .ok) →
      exec .frameSent s =
        .next ({ s with link := { s.link with tx := none, backlog := s.link.backlog.drop 1 } } : State).ended)
  ∧ (∀ (s : State) (tag : Byte), s.link.tx = some (.reply ⟨0x2B, tag, .code .ok⟩) →
      ∃ t : State, exec .frameSent s = .next t ∧ ResetValues s t true
        ∧ t.pending = s.pending ∧ t.inputs = s.inputs ∧ t.draws = s.draws
        ∧ t.dir = s.dir ∧ t.lockedSettings = s.lockedSettings)

/-- The line's choice (R170, R174): a waiting BUSY reply first, then the reply of the request at the head, then the oldest
report of the highest class, with the lost flag, which its sending clears (of R176 the sending alone). A line that sends keeps
its frame, and one with nothing to send stays idle. -/
def Obligations.LineSendsBusyThenReplyThenHighestReport : Prop :=
  (∀ l : Link, l.tx ≠ none → l.choose = l)
  ∧ (∀ l : Link, l.tx = none → l.busy = [] → (∀ q, l.backlog.head? = some q → q.reply = none) → l.reports = [] →
      l.choose = l)
  ∧ (∀ (l : Link) (r : Reply) (rest : List Reply), l.tx = none → l.busy = r :: rest →
      l.choose = { l with tx := some (.busy r), busy := rest })
  ∧ (∀ (l : Link) (q : Request) (rest : List Request) (b : ReplyBody), l.tx = none → l.busy = [] →
      l.backlog = q :: rest → q.reply = some b → l.choose = { l with tx := some (.reply ⟨q.kind, q.tag, b⟩) })
  ∧ (∀ l : Link, l.tx = none → l.busy = [] → (∀ q, l.backlog.head? = some q → q.reply = none) → l.reports ≠ [] →
      ∃ before r after, l.reports = before ++ r :: after
        ∧ (∀ q ∈ before, r.cls.codeOf < q.cls.codeOf) ∧ (∀ q ∈ after, r.cls.codeOf ≤ q.cls.codeOf)
        ∧ l.choose = { l with tx := some (.report r l.lost), reports := before ++ after, lost := false })

/-- A report that finds the queue full (R175, R176): by its class it is dropped, or takes the place of the oldest report
of the lowest class below it. -/
def Obligations.FullReportQueueDisplacesByClass : Prop :=
  ∀ (l : Link) (r : Report), l.reports.length = 24 →
    (r.cls = .routine → l.enqueue r = { l with lost := true })
    ∧ (r.cls ≠ .routine → ∀ before x after, l.reports = before ++ x :: after → x.cls = .routine →
        (∀ q ∈ before, q.cls ≠ .routine) → l.enqueue r = { l with reports := before ++ after ++ [r], lost := true })
    ∧ (r.cls = .progress → (∀ q ∈ l.reports, q.cls ≠ .routine) → l.enqueue r = { l with lost := true })
    ∧ (r.cls = .alarm → (∀ q ∈ l.reports, q.cls ≠ .routine) → ∀ before x after, l.reports = before ++ x :: after →
        x.cls = .progress → (∀ q ∈ before, q.cls ≠ .progress) →
        l.enqueue r = { l with reports := before ++ after ++ [r], lost := true })
    ∧ (r.cls = .alarm → (∀ q ∈ l.reports, q.cls = .alarm) → l.enqueue r = { l with lost := true })

/-- Frames (R166, R167, R168). GOOD_FRAME: the bytes of a frame, received from HUNTING, are taken as the request they carry, or
answered BUSY, or discarded, and change nothing else. A wrong check, a gap and a stop-bit error discard the frame being
assembled, and a length above 1020 discards the marker and leaves the length bytes to be examined as hunting bytes: nothing
outside the framer changes. -/
def Obligations.FramesAreTakenAnsweredBusyOrDiscarded : Prop :=
  (∀ (s : State) (kind tag : Byte) (body : List Byte), s.link.framer = .hunting → body.length ≤ 1020 →
    (s.link.backlog.length < 4 → exec (.goodFrame (frameBytes kind.toNat tag.toNat body)) s =
      .next ({ s with link := { s.link with backlog := s.link.backlog ++ [⟨kind, tag, body, none⟩] } } : State).ended)
    ∧ (4 ≤ s.link.backlog.length → s.link.busy.length < 4 →
      exec (.goodFrame (frameBytes kind.toNat tag.toNat body)) s =
        .next ({ s with link := { s.link with busy := s.link.busy ++ [⟨kind, tag, .code .busy⟩] } } : State).ended)
    ∧ (4 ≤ s.link.backlog.length → 4 ≤ s.link.busy.length →
      exec (.goodFrame (frameBytes kind.toNat tag.toNat body)) s = .next s.ended))
  ∧ (∀ (s : State) (f : List Byte), s.link.framer = .hunting → isWholeFrame f = true → checkMatches f = false →
      exec (.frameCheckMismatch f) s = .next s.ended)
  ∧ (∀ (s : State) (lo hi : Byte), s.link.framer = .hunting → 1020 < lo.toNat + 256 * hi.toNat →
      exec (.bodyLengthAbove1020 [0xB6, lo, hi]) s = .next ({ s with
        link := { s.link with
          framer := if lo = 0xB6 then .assembling [0xB6, hi] else if hi = 0xB6 then .assembling [0xB6] else .hunting } }
        : State).ended)
  ∧ (∀ (s : State) (before : List Byte) (e : Byte), s.link.framer = .hunting → before.head? = some 0xB6 →
      (before.length < 3 ∨ u16 before 1 ≤ 1020 ∧ before.length < 7 + u16 before 1) →
      exec (.linkGapTimeout before e) s = .next ({ s with
        link := { s.link with framer := if e = 0xB6 then .assembling [0xB6] else .hunting } } : State).ended
      ∧ exec (.linkStopBitError before) s = .next s.ended)

/-- The turn of a request (R168, R169, R179). One that stands in the backlog as the oldest undecided, taken by GOOD_FRAME or left
waiting, is decided there by its own command: the blocks' decision is made on the state as it stands, and the reply is formed in
the request's place, whatever stands ahead of it and behind. A command whose request is not in a ready backlog does what it does
once the frame has put it there. A request received while the backlog has room, but another waits for its decision or a RESTART
for its clear, is taken and not yet decided; with the backlog full it is answered BUSY or discarded. `s.link.next?` names the
request that would be handed on. That one command stands for the frame and for the decision is log 3. -/
def Obligations.RequestsWaitTheirTurn : Prop :=
  (∀ (s : State) (c : Instr) (k : Nat) (tag : Byte) (body : List Byte) (q : Request), c.request? = some (k, tag, body) →
    c.wellFormed = true → q = ⟨byte k, tag, body, none⟩ → s.link.restartPending = false →
    (∀ before after, s.link.backlog = before ++ q :: after → (∀ r ∈ before, r.reply ≠ none) →
      exec c s = .next (s.decidedInPlace c q before after).settle
      ∧ (s.decidedInPlace c q before after).link.framer = s.link.framer
      ∧ (s.decidedInPlace c q before after).link.busy = s.link.busy
      ∧ (s.decidedInPlace c q before after).link.tx = s.link.tx)
    ∧ (s.link.Ready → exec c s =
        exec c { s with link := { s.link with framer := .hunting, backlog := s.link.backlog ++ [q] } }))
  ∧ ∀ (s : State) (c : Instr) (k : Nat) (tag : Byte) (body : List Byte), c.request? = some (k, tag, body) →
    c.wellFormed = true →
    (∀ q, s.link.next? = some q → q ≠ ⟨byte k, tag, body, none⟩) →
    (s.link.backlog.length < 4 → (s.link.next? ≠ none ∨ s.link.restartPending = true) →
      exec c s = .next ({ s with link := { s.link with
        framer := .hunting, backlog := s.link.backlog ++ [⟨byte k, tag, body, none⟩] } } : State).ended)
    ∧ (4 ≤ s.link.backlog.length → s.link.busy.length < 4 →
      exec c s = .next ({ s with link := { s.link with
        framer := .hunting, busy := s.link.busy ++ [⟨byte k, tag, .code .busy⟩] } } : State).ended)
    ∧ (4 ≤ s.link.backlog.length → 4 ≤ s.link.busy.length →
      exec c s = .next ({ s with link := { s.link with framer := .hunting } } : State).ended)

/-- The decision's first three steps (R169, R172): UNKNOWN_KIND, BAD_LENGTH and LOCKED replies carry their code alone and
leave everything but the reply as it was; and so does the RANGE reply of a body that names no station (R180). RESTART and
LOCK_SETTINGS are taken in every state and answered OK (R172, R179): RESTART clears nothing until its reply is sent, and
LOCK_SETTINGS sets the lock, set already or not. -/
def Obligations.EarlyRefusalsRestartAndLock : Prop :=
  (∀ (s : State) (kind tag : Byte) (body : List Byte), s.link.Ready → isRequestKind kind.toNat = false →
      exec (.unknownKind kind tag body) s = .next (s.answered kind.toNat tag body (.code .unknownKind)))
  ∧ (∀ (s : State) (c : Instr) (k : Nat) (tag : Byte) (body : List Byte), s.link.Ready → c.wellFormed = true →
      c.request? = some (k, tag, body) → isRequestKind k = true → bodyFits k body = false →
      exec c s = .next (s.answered k tag body (.code .badLength)))
  ∧ (∀ (s : State) (c : Instr) (k : Nat) (tag : Byte) (body : List Byte), s.link.Ready →
      c.request? = some (k, tag, body) → (k = 0x01 ∨ k = 0x02 ∨ k = 0x03 ∨ k = 0x05) → bodyFits k body = true →
      (∀ kind b, c ≠ .unknownKind kind tag b) → s.link.lock = true →
      exec c s = .next (s.answered k tag body (.code .locked)))
  ∧ (∀ (s : State) (tag : Byte) (body : List Byte), s.link.Ready → body.length = 1 → station? (u8 body 0) = none →
      exec (.closePlan tag body) s = .next (s.answered 0x12 tag body (.code .range))
      ∧ exec (.abandonPlan tag body) s = .next (s.answered 0x13 tag body (.code .range))
      ∧ exec (.stationHold tag body) s = .next (s.answered 0x28 tag body (.code .range))
      ∧ exec (.stationResume tag body) s = .next (s.answered 0x29 tag body (.code .range)))
  ∧ (∀ (s : State) (tag : Byte) (body : List Byte), s.link.Ready → body.length = 3 →
      (station? (u8 body 0) = none → exec (.setDeparture tag body) s = .next (s.answered 0x14 tag body (.code .range)))
      ∧ (u8 body 0 = 1 → station? (u8 body 1) = none →
        exec (.withdrawTag tag body) s = .next (s.answered 0x11 tag body (.code .range))))
  ∧ (∀ (s : State) (tag : Byte) (body : List Byte), s.link.Ready → body.length = 4 → u8 body 0 = 0 →
      station? (u8 body 1) = none →
      exec (.withdrawId tag body) s = .next (s.answered 0x11 tag body (.code .range)))
  ∧ (∀ (s : State) (tag : Byte), s.link.Ready →
    exec (.restart tag []) s = .next (s.answered 0x2B tag [] (.code .ok))
    ∧ exec (.lockSettings tag []) s =
      .next (({ s with link := { s.link with lock := true } } : State).answered 0x09 tag [] (.code .ok)))

/-! ### Queries -/

/-- The twelve queries: each is answered from the state as it stands, and nothing but its reply changes. What the replies carry:
RANGE and NOT_FOUND where R14, R35, R64, R88, R131 and R165 refuse, and otherwise the fields these rules and R149 name. -/
def Obligations.QueriesAnswerAndChangeNothing : Prop :=
  (∀ (s : State) (tag : Byte) (b : List Byte), s.link.Ready →
    (b.length = 1 → exec (.queryStation tag b) s = .next (s.answered 0x30 tag b (ansQueryStation b s)))
    ∧ (b.length = 2 → exec (.queryLayer tag b) s = .next (s.answered 0x31 tag b (ansQueryLayer b s)))
    ∧ (b.length = 3 → exec (.queryPlacement tag b) s = .next (s.answered 0x32 tag b (ansQueryPlacement b s)))
    ∧ (b.length = 2 → exec (.queryStack tag b) s = .next (s.answered 0x33 tag b (ansQueryStack b s)))
    ∧ (b.length = 2 → exec (.querySurface tag b) s = .next (s.answered 0x34 tag b (ansQuerySurface b s)))
    ∧ (b.length = 1 → exec (.queryLane tag b) s = .next (s.answered 0x35 tag b (ansQueryLane b s)))
    ∧ (b.length = 0 → exec (.queryShelf tag b) s = .next (s.answered 0x36 tag b (ansQueryShelf s)))
    ∧ (b.length = 1 → exec (.queryGantry tag b) s = .next (s.answered 0x37 tag b (ansQueryGantry b s)))
    ∧ (b.length = 0 → exec (.queryGripper tag b) s = .next (s.answered 0x38 tag b (ansQueryGripper s)))
    ∧ (b.length = 1 → exec (.queryType tag b) s = .next (s.answered 0x39 tag b (ansQueryType b s)))
    ∧ (b.length = 8 → exec (.queryArticle tag b) s = .next (s.answered 0x3A tag b (ansQueryArticle b s)))
    ∧ (b.length = 1 → exec (.queryHandling tag b) s = .next (s.answered 0x3B tag b (ansQueryHandling b s))))
  ∧ (∀ (s : State) (b : List Byte), station? (u8 b 0) = none →
    ansQueryStation b s = .code .range ∧ ansQueryLayer b s = .code .range ∧ ansQueryPlacement b s = .code .range
      ∧ ansQueryStack b s = .code .range ∧ ansQuerySurface b s = .code .range)
  ∧ (∀ (s : State) (b : List Byte) (st : StationId) (n : Station) (p : Plan) (k : Stack), station? (u8 b 0) = some st →
    n = s.stn.get st → p = s.plan.get st → k = s.stack.get st →
    ansQueryStation b s = .station {
      cell := s.cell, mode := n.mode, pallet := s.inputs.pallet.get st, curtainBroken := s.inputs.curtain.get st
      absentSeen := n.absentSeen, inZone := s.gantryInZone st, departure := n.departure, sheetCost := n.sheetCost
      margin := n.margin, est := n.est, slack := n.slack, status := n.status, closed := p.closed
      layers := p.queue.length, free := p.free, limits := k.limits, entries := k.table.length, gross := k.gross
      highest := k.highest, sweep := k.sweep.state, sheetVerdict := k.sheetVerdict, magazine := s.magazine
      stall := s.stall.get st }
    ∧ (12 ≤ u8 b 1 → ansQueryLayer b s = .code .range)
    ∧ (u8 b 1 < 12 → p.queue.length ≤ u8 b 1 → ansQueryLayer b s = .code .notFound)
    ∧ (∀ l, u8 b 1 < 12 → p.queue[u8 b 1]? = some l → ansQueryLayer b s = .layer {
        tag := l.tag, sheet := l.sheet, report := l.report, early := l.early, earlyEff := l.earlyEff
        sheetDue := l.sheetDue, eligible := decide (u8 b 1 < p.eligible.length)
        pending := l.placements.countP (fun q => q.state == .pending)
        bound := l.placements.countP (fun q => q.state == .bound)
        placed := l.placements.countP (fun q => q.state == .placed)
        void := l.placements.countP (fun q => q.state == .void)
        ids := l.placements.map Placement.id, layers := p.queue.length, free := p.free })
    ∧ (∀ before l after q, p.queue = before ++ l :: after → q ∈ l.placements → q.id = u16 b 1 →
        p.placements.Pairwise (fun x y => x.id ≠ y.id) → ∃ i, ansQueryPlacement b s = .placement q before.length l.tag i
          ∧ (q.state ≠ .placed → i = none)
          ∧ (q.state = .placed → u16 b 1 ∈ k.caseIds →
              ∃ j e t, i = some j ∧ k.table[j]? = some e ∧ e.kind = .case (u16 b 1) t))
    ∧ ((∀ q ∈ p.placements, q.id ≠ u16 b 1) →
        (u16 b 1 ∉ k.caseIds → ansQueryPlacement b s = .code .notFound)
        ∧ (u16 b 1 ∈ k.caseIds → ∃ j e t, k.table[j]? = some e ∧ e.kind = .case (u16 b 1) t
            ∧ ansQueryPlacement b s = .placedOnStack j))
    ∧ (160 ≤ u8 b 1 → ansQueryStack b s = .code .range)
    ∧ (u8 b 1 < 160 → k.table.length ≤ u8 b 1 → ansQueryStack b s = .code .notFound)
    ∧ (∀ e, u8 b 1 < 160 → k.table[u8 b 1]? = some e → ansQueryStack b s = .stackEntry (u8 b 1) e k.table.length)
    ∧ ((match k.limits.foot with | .full => 16 | .half => 12) ≤ u8 b 1 → ansQuerySurface b s = .code .range)
    ∧ (u8 b 1 < (match k.limits.foot with | .full => 16 | .half => 12) → ∃ row : List Cell,
        ansQuerySurface b s = .surfaceRow row k.highest
        ∧ row.length = (match k.limits.foot with | .full => 24 | .half => 16)
        ∧ ∀ (i : Nat) (c : Cell), row[i]? = some c → ∀ x, k.map[u8 b 1 * row.length + i]? = some x → c = x))
  ∧ (∀ (s : State) (b : List Byte),
    (lane? (u8 b 0) = none → ansQueryLane b s = .code .range)
    ∧ (∀ l n, lane? (u8 b 0) = some l → n = s.lanes.get l → ansQueryLane b s = .lane {
        purging := n.purging, accept := !n.purging && decide (n.fifo.length < 8), pick := n.pick
        bound := n.pick == .front && s.laneBound l, wait := n.wait, limit := s.gantry.waitLimit, seq := n.seq
        count := n.fifo.length, records := n.fifo.map (fun r => ⟨r.seq, r.status, r.type, r.orient, r.disp, r.purge⟩) })
    ∧ (∃ slots : List SlotView, ansQueryShelf s = .shelf slots s.spill ∧ slots.length = 8
      ∧ ∀ i : SlotId, ∃ v : SlotView, slots[i.val]? = some v ∧ v.presence = s.inputs.slotPresence[i]
        ∧ (match s.slots[i] with
          | .empty _ => v.state = .empty ∧ v.held = none
          | .blocked => v.state = .blocked ∧ v.held = none
          | .held r t _ => v.state = .held ∧ v.held = some ⟨r.lane, r.seq, r.type, r.orient, t, !s.wantedRec r⟩))
    ∧ (8 ≤ u8 b 0 → ansQueryGantry b s = .code .range)
    ∧ (∀ i : Fin 8, u8 b 0 = i.val → ansQueryGantry b s = .gantry {
        state := s.gantry.state, counters := s.gantry.counters
        homed := ⟨s.gantry.axes.x.homed, s.gantry.axes.y.homed, s.gantry.axes.z.homed⟩, tPos := s.gantry.t.pos
        tHomed := s.gantry.t.homed, cap := s.inputs.warning, geomDefined := s.gantry.geomDefined
        fixture := s.gantry.geometry.fixture, clearance := s.gantry.clearance, lastTravel := s.gantry.lastTravel
        job := s.job, slot := s.gantry.profiles[i] })
    ∧ ansQueryGripper s = .gripper {
        state := s.gripper.state
        attempt := (match s.gripper.state with
          | .gripping => some s.gripper.attempt
          | .releasing => some s.gripper.attempt
          | _ => none)
        timer := s.gripper.timer, zones := s.gripper.zones, reading := s.inputs.reading
        overcurrent := s.inputs.overcurrent, openLoad := s.inputs.openLoad, used := s.gripper.used
        counter := s.gripper.counter, decay := s.gripper.decay, dropMark := s.gripper.dropMark
        set := s.gripper.set, releaseLevel := 10 }
    ∧ (64 ≤ u8 b 0 → ansQueryType b s = .code .range)
    ∧ (u8 b 0 < 64 → s.dir.typeAt (u8 b 0) = none → ansQueryType b s = .typeUndefined)
    ∧ (∀ t, u8 b 0 < 64 → s.dir.typeAt (u8 b 0) = some t → ∃ ref, ansQueryType b s = .typeDefined t ref
        ∧ ref = s.referenced (u8 b 0)
        ∧ (ref = true ↔
          (∃ st, ∃ p ∈ (s.plan.get st).placements, (p.state = .pending ∨ p.state = .bound) ∧ p.type = u8 b 0)
          ∨ (∃ (i : SlotId) (r : ArrivalRec) (n : Nat) (m : Bool), s.slots[i] = .held r n m ∧ r.type = some (u8 b 0))
          ∨ ∃ j, s.job = some j ∧ (j.delivered = some (u8 b 0)
            ∨ ∃ r, (j.carried = some (.case r) ∨ j.carried = none ∧ s.sourceCase j = some r)
              ∧ r.type = some (u8 b 0))))
    ∧ (code? b 0 = none → ansQueryArticle b s = .code .range)
    ∧ (∀ c, code? b 0 = some c →
      ((∀ a ∈ s.dir.articles, a.code ≠ c) → ansQueryArticle b s = .code .notFound)
      ∧ (∀ before a after, s.dir.articles = before ++ a :: after → a.code = c → (∀ x ∈ before, x.code ≠ c) →
          ansQueryArticle b s = .article a.type s.dir.articles.length))
    ∧ (6 ≤ u8 b 0 → ansQueryHandling b s = .code .range)
    ∧ ∀ i : Fin 6, u8 b 0 = i.val → ansQueryHandling b s = .handling s.dir.handling[i])

/-! ### Settings requests -/

/-- SET_CELL (R109, R183): a body out of range gives RANGE, a cell that runs or has a job gives STATE, and otherwise all fields
are stored together and the geometry is defined. The places, heights and bounds lie in the body from offset 0: the pick points
of L1 and L2, the slots 0 to 7, the first spill position, the magazine, the origins of A and B, their zones, which share no X
position, the clearance margin, the homing speed and the wait limit. -/
def Obligations.SetCellStoresTheGeometryOrRefuses : Prop :=
  ∀ (s : State) (tag : Byte) (b : List Byte), s.link.Ready → s.link.lock = false → b.length = 93 →
    let place (o xMax : Nat) : Prop := u16 b o ≤ xMax ∧ u16 b (o + 2) ≤ 2000 ∧ u16 b (o + 4) ≤ 1800
    let ok : Prop := place 0 5200 ∧ place 6 5200 ∧ (∀ i : Nat, i < 8 → place (12 + 6 * i) 5200)
      ∧ place 60 3200 ∧ place 66 5200
      ∧ u16 b 72 ≤ 4000 ∧ u16 b 74 ≤ 1200 ∧ u16 b 76 ≤ 4000 ∧ u16 b 78 ≤ 1200
      ∧ u16 b 80 < u16 b 82 ∧ u16 b 82 ≤ 5200 ∧ u16 b 84 < u16 b 86 ∧ u16 b 86 ≤ 5200
      ∧ (u16 b 82 < u16 b 84 ∨ u16 b 86 < u16 b 80)
      ∧ 50 ≤ u16 b 88 ∧ u16 b 88 ≤ 300 ∧ 10 ≤ u16 b 90 ∧ u16 b 90 ≤ 200 ∧ 1 ≤ u8 b 92 ∧ u8 b 92 ≤ 120
    (¬ok → exec (.setCell tag b) s = .next (s.answered 0x01 tag b (.code .range)))
    ∧ (ok →
      (s.cell.run = .run ∨ s.cell.run = .finishing ∨ s.job ≠ none →
        exec (.setCell tag b) s = .next (s.answered 0x01 tag b (.code .state)))
      ∧ (s.cell.run ≠ .run → s.cell.run ≠ .finishing → s.job = none →
        exec (.setCell tag b) s = .next (({ s with gantry := { s.gantry with
          geometry := {
            pick := ⟨⟨u16 b 0, u16 b 2, u16 b 4⟩, ⟨u16 b 6, u16 b 8, u16 b 10⟩⟩
            slots := Vector.ofFn (fun i => ⟨u16 b (12 + 6 * i.val), u16 b (14 + 6 * i.val), u16 b (16 + 6 * i.val)⟩)
            spill := ⟨u16 b 60, u16 b 62, u16 b 64⟩
            magazine := ⟨u16 b 66, u16 b 68, u16 b 70⟩
            originX := ⟨u16 b 72, u16 b 76⟩
            originY := ⟨u16 b 74, u16 b 78⟩
            zoneLow := ⟨u16 b 80, u16 b 84⟩
            zoneHigh := ⟨u16 b 82, u16 b 86⟩ }
          geomDefined := true
          clearance := u16 b 88
          homingSpeed := u16 b 90
          waitLimit := u8 b 92 } } : State).answered 0x01 tag b (.code .ok))))

/-- SET_STATION (R20, R36, R37, R126, R151, R152): the four checks in order, then the limits, the station fields and the restart
policy stored together, a changed footprint with its bare map, and a sweep, which begins anew at once where one runs (log 13); a
cell that is GUARD_STOPPED with no cause left returns when the policy becomes AUTO, and a retained job goes on as
State.ReturnedTo says. -/
def Obligations.SetStationStoresLimitsPolicyAndFields : Prop :=
  (∀ (s : State) (tag : Byte) (b : List Byte), s.link.Ready → s.link.lock = false → b.length = 12 →
    (station? (u8 b 0) = none ∨ 2 ≤ u8 b 1 ∨ 2 ≤ u8 b 7) →
    exec (.setStation tag b) s = .next (s.answered 0x02 tag b (.code .range)))
  ∧ ∀ (s : State) (tag : Byte) (b : List Byte) (st : StationId) (foot : Footprint) (auto : Bool),
    s.link.Ready → s.link.lock = false → b.length = 12 → station? (u8 b 0) = some st →
    u8 b 1 = (match foot with | .full => 0 | .half => 1) → u8 b 7 = (if auto then 1 else 0) →
    (¬(600 ≤ u16 b 2 ∧ u16 b 2 ≤ 2400 ∧ 1000 ≤ u16 b 4 ∧ u16 b 4 ≤ 12000 ∧ u8 b 6 ≤ 25 ∧ 10 ≤ u16 b 8 ∧ u16 b 8 ≤ 600
        ∧ u16 b 10 ≤ 6000) → exec (.setStation tag b) s = .next (s.answered 0x02 tag b (.code .range)))
    ∧ (600 ≤ u16 b 2 ∧ u16 b 2 ≤ 2400 ∧ 1000 ≤ u16 b 4 ∧ u16 b 4 ≤ 12000 ∧ u8 b 6 ≤ 25 ∧ 10 ≤ u16 b 8 ∧ u16 b 8 ≤ 600
        ∧ u16 b 10 ≤ 6000 →
      ((s.stack.get st).table ≠ [] ∨ s.outstanding st ≠ none
          ∨ foot ≠ (s.stack.get st).limits.foot ∧ (s.plan.get st).queue ≠ [] →
        exec (.setStation tag b) s = .next (s.answered 0x02 tag b (.code .state)))
      ∧ ((s.stack.get st).table = [] → s.outstanding st = none →
          (foot = (s.stack.get st).limits.foot ∨ (s.plan.get st).queue = []) →
        (∀ m c, s.cell.run = .guardStopped m c →
          auto = false ∨ c.door = true ∨ c.curtainA = true ∨ c.curtainB = true) →
        ∃ u : State, exec (.setStation tag b) s = .next (u.replied 0x02 tag b (.code .ok)).settle
          ∧ u = { s with
              stack := u.stack, stn := u.stn, plan := u.plan, stall := u.stall, cell := ⟨s.cell.run, auto⟩
              link := u.link, evalDue := u.evalDue, awaitDue := false }
          ∧ (u.stack.get st).limits = ⟨u16 b 2, u16 b 4, u8 b 6, foot⟩ ∧ (u.stack.get st).table = []
          ∧ (foot ≠ (s.stack.get st).limits.foot → (u.stack.get st).map = bareMap foot)
          ∧ (u.stn.get st).sheetCost = u16 b 8 ∧ (u.stn.get st).margin = u16 b 10
          ∧ (u.stn.get st).mode = (s.stn.get st).mode
          ∧ (s.plan.get st).candidates = ((u.plan.get st).candidates)
          ∧ (u.stack.get st).sweep = (match (s.plan.get st).candidates with
              | [] => ⟨.idle, []⟩
              | cs => ⟨.running, cs⟩)
          ∧ ∀ st', st' ≠ st → u.stack.get st' = s.stack.get st' ∧ u.stn.get st' = s.stn.get st'
              ∧ u.plan.get st' = s.plan.get st')
      ∧ ((s.stack.get st).table = [] → s.job = none → foot = (s.stack.get st).limits.foot → auto = true →
        ∀ m, s.cell.run = .guardStopped m ⟨false, false, false⟩ →
        ∃ u : State, exec (.setStation tag b) s = .next (u.replied 0x02 tag b (.code .ok)).settle
          ∧ u.gantry = s.gantry
          ∧ u.cell = ⟨match m with
            | .ret .run => .run
            | .ret .finishing => .off
            | .paused r => .paused r, true⟩)
      ∧ ((s.stack.get st).table = [] → s.outstanding st = none →
        (foot = (s.stack.get st).limits.foot ∨ (s.plan.get st).queue = []) → auto = true → s.job ≠ none →
        (∀ r, s.cell.run = .guardStopped (.paused r) ⟨false, false, false⟩ →
          ∃ u : State, exec (.setStation tag b) s = .next (u.replied 0x02 tag b (.code .ok)).settle
            ∧ u.gantry = s.gantry ∧ u.job = s.job ∧ u.cell = ⟨.paused r, true⟩)
        ∧ ∀ r, s.cell.run = .guardStopped (.ret r) ⟨false, false, false⟩ →
          ∃ u : State, exec (.setStation tag b) s = .next (u.replied 0x02 tag b (.code .ok)).settle
            ∧ u.inputs = s.inputs ∧ s.ReturnedTo u r true))

/-- SET_PROFILE (R110, R111): a LINEAR or S_CURVE profile by its checks in order, with a top speed above 1500 stored as
1500, and a TABLE profile by its own. -/
def Obligations.SetProfileChecksAndStoresTheProfile : Prop :=
  ∀ (s : State) (tag : Byte) (b : List Byte), s.link.Ready → s.link.lock = false → bodyFits 0x03 b = true →
    (8 ≤ u8 b 0 → exec (.setProfile tag b) s = .next (s.answered 0x03 tag b (.code .range)))
    ∧ (∀ n : Fin 8, u8 b 0 = n.val →
      (u8 b 1 ≤ 1 →
        (¬(10 ≤ u16 b 2 ∧ u16 b 2 ≤ 500 ∧ u16 b 6 ≤ 1500) →
          exec (.setProfile tag b) s = .next (s.answered 0x03 tag b (.code .range)))
        ∧ (10 ≤ u16 b 2 ∧ u16 b 2 ≤ 500 ∧ u16 b 6 ≤ 1500 →
          (u16 b 4 ≤ u16 b 2 → exec (.setProfile tag b) s = .next (s.answered 0x03 tag b (.code .order)))
          ∧ (u16 b 2 < u16 b 4 → u16 b 6 < 10 →
            exec (.setProfile tag b) s = .next (s.answered 0x03 tag b (.code .rampShort)))
          ∧ (u16 b 2 < u16 b 4 → 10 ≤ u16 b 6 →
            exec (.setProfile tag b) s = .next (({ s with gantry := { s.gantry with
              profiles := s.gantry.profiles.set n (some (if u8 b 1 = 0
                then .linear (u16 b 2) (min (u16 b 4) 1500) (u16 b 6)
                else .sCurve (u16 b 2) (min (u16 b 4) 1500) (u16 b 6))) } } : State).answered 0x03 tag b
              (.profileStored (min (u16 b 4) 1500) (u16 b 6))))))
      ∧ (u8 b 1 = 2 → 2 ≤ u8 b 2 → u8 b 2 ≤ 16 →
        (∀ q ∈ steps b 3 (u8 b 2), 10 ≤ q.1 ∧ q.1 ≤ 1500 ∧ 5 ≤ q.2 ∧ q.2 ≤ 500) →
        (steps b 3 (u8 b 2)).Pairwise (fun p q => p.1 < q.1) →
        exec (.setProfile tag b) s = .next (({ s with gantry := { s.gantry with
          profiles := s.gantry.profiles.set n (some (.table (steps b 3 (u8 b 2)))) } } : State).answered 0x03 tag b
          (.profileStored (((steps b 3 (u8 b 2)).getLast?.map Prod.fst).getD 0)
            ((steps b 3 (u8 b 2)).map Prod.snd).sum)))
      ∧ (u8 b 1 = 2 → (u8 b 2 < 2 ∨ 16 < u8 b 2
            ∨ ∃ q ∈ steps b 3 (u8 b 2), q.1 < 10 ∨ 1500 < q.1 ∨ 500 < q.2) →
        exec (.setProfile tag b) s = .next (s.answered 0x03 tag b (.code .range)))
      ∧ (u8 b 1 = 2 → 2 ≤ u8 b 2 → u8 b 2 ≤ 16 →
        (∀ q ∈ steps b 3 (u8 b 2), 10 ≤ q.1 ∧ q.1 ≤ 1500 ∧ q.2 ≤ 500) →
        ((∃ q ∈ steps b 3 (u8 b 2), q.2 < 5) →
          exec (.setProfile tag b) s = .next (s.answered 0x03 tag b (.code .rampShort)))
        ∧ ((∀ q ∈ steps b 3 (u8 b 2), 5 ≤ q.2) → ¬(steps b 3 (u8 b 2)).Pairwise (fun p q => p.1 < q.1) →
          exec (.setProfile tag b) s = .next (s.answered 0x03 tag b (.code .range)))))

/-- SET_GRIPPER (R135, R138, R139, R141): the two checks, then every setting is stored with Lo at most G − 5, in every gripper
state. Beside that nothing changes with neither a grip nor a carry in progress, while a used zone of a grip reads below the new
G, and in a carry that is not watched or whose used zones read the new Lo or above. A grip whose used zones all read the new G
or above ends at once, and the job takes its item; a watched carry with a used zone below the new Lo drops it at once. -/
def Obligations.SetGripperStoresWithLoClamped : Prop :=
  ∀ (s : State) (tag : Byte) (b : List Byte), s.link.Ready → s.link.lock = false → b.length = 9 →
    (¬(40 ≤ u8 b 0 ∧ u8 b 0 ≤ 90 ∧ 20 ≤ u8 b 1 ∧ 100 ≤ u16 b 2 ∧ u16 b 2 ≤ 2000 ∧ 50 ≤ u16 b 4 ∧ u16 b 4 ≤ 500
        ∧ 20 ≤ u16 b 6 ∧ u16 b 6 ≤ 500 ∧ (u8 b 8 = 40 ∨ u8 b 8 = 80)) →
      exec (.setGripper tag b) s = .next (s.answered 0x05 tag b (.code .range)))
    ∧ (40 ≤ u8 b 0 ∧ u8 b 0 ≤ 90 ∧ 20 ≤ u8 b 1 ∧ 100 ≤ u16 b 2 ∧ u16 b 2 ≤ 2000 ∧ 50 ≤ u16 b 4 ∧ u16 b 4 ≤ 500
        ∧ 20 ≤ u16 b 6 ∧ u16 b 6 ≤ 500 ∧ (u8 b 8 = 40 ∨ u8 b 8 = 80) →
      (s.gripper.state ≠ .gripping → s.gripper.state ≠ .holding →
        exec (.setGripper tag b) s = .next (({ s with gripper := { s.gripper with
          set := ⟨u8 b 0, min (u8 b 1) (u8 b 0 - 5), u16 b 2, u16 b 4, u16 b 6, u8 b 8⟩ } } : State).answered 0x05 tag b
          (.gripperStored (u8 b 0) (min (u8 b 1) (u8 b 0 - 5)))))
      ∧ (∃ u : State, exec (.setGripper tag b) s =
          .next (u.replied 0x05 tag b (.gripperStored (u8 b 0) (min (u8 b 1) (u8 b 0 - 5)))).settle
        ∧ u.gripper.set = ⟨u8 b 0, min (u8 b 1) (u8 b 0 - 5), u16 b 2, u16 b 4, u16 b 6, u8 b 8⟩)
      ∧ ∀ set : GripSet, set = ⟨u8 b 0, min (u8 b 1) (u8 b 0 - 5), u16 b 2, u16 b 4, u16 b 6, u8 b 8⟩ →
        let accepted := ReplyBody.gripperStored (u8 b 0) (min (u8 b 1) (u8 b 0 - 5))
        (s.gripper.state = .gripping ∧ (∃ y, s.gripper.used.get y = true ∧ s.inputs.reading.get y < set.g)
            ∨ s.gripper.state = .holding ∧ (s.watched = false ∨ ∀ y, s.gripper.used.get y = true →
              set.lo ≤ s.inputs.reading.get y ∧ (s.gripper.zones.get y).faulted = false) →
          exec (.setGripper tag b) s =
            .next (({ s with gripper := { s.gripper with set := set } } : State).answered 0x05 tag b accepted))
        ∧ (∀ j, s.gripper.state = .gripping → s.job = some j → j.gripped = false →
          (∀ y, s.gripper.used.get y = true →
            set.g ≤ s.inputs.reading.get y ∧ (s.gripper.zones.get y).faulted = false) →
          ∃ (u : State) (j' : Job), exec (.setGripper tag b) s = .next (u.replied 0x05 tag b accepted).settle
            ∧ u.job = some j' ∧ j'.gripped = true ∧ u.gripper.set = set
            ∧ (u.gripper.state = .holding ∨ u.gripper.state = .releasing ∧ j'.phase = .release)
            ∧ (u.gripper.state = .holding → ∀ y, s.gripper.used.get y = true → (u.gripper.zones.get y).valve = .hold 0)
            ∧ (∀ c t, s.sourceCase j = some c → c.type.bind s.dir.typeAt = some t → j.source ≠ .magazine →
                u.gripper.duty = t.duty)
            ∧ (j.source = .magazine → u.gripper.duty = 64 ∧ j'.carried = some .sheet)
            ∧ (∀ l r rest, j.source = .lane l → (s.lanes.get l).fifo = r :: rest →
                j'.carried = some (.case r) ∧ (u.lanes.get l).pick = .picking ∧ (u.lanes.get l).fifo = rest)
            ∧ (∀ k r n m, j.source = .slot k → s.slots[k] = .held r n m →
                j'.carried = some (.case r) ∧ u.slots[k] = .empty true))
        ∧ (∀ z, s.watched = true → s.gripper.used.get z = true →
          s.inputs.reading.get z < set.lo ∨ (s.gripper.zones.get z).faulted = true →
          ∃ u : State, exec (.setGripper tag b) s = .next (u.replied 0x05 tag b accepted).settle ∧ u.job = none
            ∧ u.gripper.dropMark = true ∧ u.gripper.set = set
            ∧ u.gripper.counter = min (s.gripper.counter + 1) 6
            ∧ u.gripper.state = (if u.gripper.counter = 6 then .lockedOut else .idle)
            ∧ u.gantry.state = .faulted .drop ∧ u.gantry.moving = false ∧ u.gantry.counters = s.gantry.counters))

/-- DEFINE_TYPE (R4, R5, R6, R7): a field out of range gives RANGE, a referenced type STATE; otherwise the entry is stored
with an absent weight tolerance as 15, the minimum zones and the hold duty clamped, and the design weight rounded up. A type is
referenced by a PENDING or BOUND placement, by the record of a HELD slot, and by the job: the case it carries, its source case
before the grip, and, of a PUT or PUTAWAY that has released, the case it delivered. -/
def Obligations.DefineTypeStoresClampedWithDesignWeight : Prop :=
  (∀ (s : State) (n : Nat), s.referenced n = true ↔
    (∃ st, ∃ p ∈ (s.plan.get st).placements, (p.state = .pending ∨ p.state = .bound) ∧ p.type = n)
    ∨ (∃ (i : SlotId) (r : ArrivalRec) (t : Nat) (m : Bool), s.slots[i] = .held r t m ∧ r.type = some n)
    ∨ ∃ j, s.job = some j ∧ ((∃ r, j.carried = some (.case r) ∧ r.type = some n) ∨ j.delivered = some n
      ∨ j.carried = none ∧ j.gripped = false
        ∧ ((∃ l r rest, j.source = .lane l ∧ (s.lanes.get l).fifo = r :: rest ∧ r.type = some n)
          ∨ ∃ i r t m, j.source = .slot i ∧ s.slots[i] = .held r t m ∧ r.type = some n)))
  ∧ (∀ (s : State) (tag : Byte) (b : List Byte), s.link.Ready → b.length = 18 → 16 ≤ u8 b 15 →
    exec (.defineType tag b) s = .next (s.answered 0x06 tag b (.code .range)))
  ∧ ∀ (s : State) (tag : Byte) (b : List Byte) (m : ZoneSet) (wtol : Nat), s.link.Ready → b.length = 18 →
    mask? (u8 b 15) = some m → wtol = (if u8 b 9 = 255 then 15 else u8 b 9) →
    (¬(u8 b 0 < 64 ∧ 50 ≤ u16 b 1 ∧ u16 b 1 ≤ 800 ∧ 50 ≤ u16 b 3 ∧ u16 b 3 ≤ 800 ∧ 50 ≤ u16 b 5 ∧ u16 b 5 ≤ 600
        ∧ 1 ≤ u16 b 7 ∧ u16 b 7 ≤ 600 ∧ wtol ≤ 50 ∧ u8 b 10 ≤ 30 ∧ u16 b 11 ≤ 4000 ∧ u8 b 13 ≤ 3 ∧ u8 b 14 ≤ 5
        ∧ 1 ≤ zoneCount m ∧ 1 ≤ u8 b 16 ∧ u8 b 16 ≤ 4) →
      exec (.defineType tag b) s = .next (s.answered 0x06 tag b (.code .range)))
    ∧ (u8 b 0 < 64 ∧ 50 ≤ u16 b 1 ∧ u16 b 1 ≤ 800 ∧ 50 ≤ u16 b 3 ∧ u16 b 3 ≤ 800 ∧ 50 ≤ u16 b 5 ∧ u16 b 5 ≤ 600
        ∧ 1 ≤ u16 b 7 ∧ u16 b 7 ≤ 600 ∧ wtol ≤ 50 ∧ u8 b 10 ≤ 30 ∧ u16 b 11 ≤ 4000 ∧ u8 b 13 ≤ 3 ∧ u8 b 14 ≤ 5
        ∧ 1 ≤ zoneCount m ∧ 1 ≤ u8 b 16 ∧ u8 b 16 ≤ 4 →
      (s.referenced (u8 b 0) = true → exec (.defineType tag b) s = .next (s.answered 0x06 tag b (.code .state)))
      ∧ (s.referenced (u8 b 0) = false → ∃ wd, 100 * (wd - 1) < u16 b 7 * (100 + wtol)
          ∧ u16 b 7 * (100 + wtol) ≤ 100 * wd ∧ 1 ≤ wd ∧ wd ≤ 900
          ∧ exec (.defineType tag b) s = .next (({ s with dir := { s.dir with
              types := s.dir.types.setIfInBounds (u8 b 0) (some {
                len := u16 b 1, wid := u16 b 3, hei := u16 b 5, wn := u16 b 7, wtol := wtol, dtol := u8 b 10
                rc := u16 b 11, stab := u8 b 13, hcls := u8 b 14, mask := m
                minZones := min (u8 b 16) (zoneCount m), duty := min (u8 b 17) 127, wd := wd }) } } : State).answered
              0x06 tag b (.typeStored (u8 b 0) (min (u8 b 16) (zoneCount m)) (min (u8 b 17) 127) wd))))

/-- SET_HANDLING (R12): a class outside 0..5 or a field out of range gives RANGE; otherwise the four values are stored,
with the lock set or not. DEFINE_ARTICLE (R10): RANGE, UNDEFINED and FULL in order; a known code gets the new type, a new code a
new entry, and the reply carries the number in use. DROP_ARTICLE (R11): an invalid code gives RANGE, a code not in the table
NOT_FOUND; a code in the table loses its entry. -/
def Obligations.HandlingClassesAndArticlesAreStored : Prop :=
  (∀ (s : State) (tag : Byte) (b : List Byte), s.link.Ready → b.length = 8 →
    (¬(u8 b 0 < 6 ∧ u8 b 1 ≤ 7 ∧ 20 ≤ u16 b 2 ∧ u16 b 2 ≤ 400 ∧ u16 b 4 ≤ 200 ∧ 10 ≤ u16 b 6 ∧ u16 b 6 ≤ 600) →
      exec (.setHandling tag b) s = .next (s.answered 0x04 tag b (.code .range)))
    ∧ (∀ n : Fin 6, u8 b 0 = n.val → u8 b 1 ≤ 7 → 20 ≤ u16 b 2 → u16 b 2 ≤ 400 → u16 b 4 ≤ 200 → 10 ≤ u16 b 6 →
      u16 b 6 ≤ 600 → exec (.setHandling tag b) s = .next (({ s with
        dir := { s.dir with handling := s.dir.handling.set n ⟨u8 b 1, u16 b 2, u16 b 4, u16 b 6⟩ } } : State).answered
          0x04 tag b (.code .ok))))
  ∧ (∀ (s : State) (tag : Byte) (b : List Byte), s.link.Ready → b.length = 9 →
    (code? b 0 = none ∨ 64 ≤ u8 b 8 → exec (.defineArticle tag b) s = .next (s.answered 0x07 tag b (.code .range)))
    ∧ (∀ c, code? b 0 = some c → u8 b 8 < 64 →
      (s.dir.typeAt (u8 b 8) = none → exec (.defineArticle tag b) s = .next (s.answered 0x07 tag b (.code .undefined)))
      ∧ (s.dir.typeAt (u8 b 8) ≠ none →
        ((∃ a ∈ s.dir.articles, a.code = c) → exec (.defineArticle tag b) s =
          .next (({ s with dir := { s.dir with
            articles := s.dir.articles.map (fun a => if a.code = c then ⟨c, u8 b 8⟩ else a) } } : State).answered
            0x07 tag b (.articles s.dir.articles.length)))
        ∧ ((∀ a ∈ s.dir.articles, a.code ≠ c) →
          (s.dir.articles.length < 256 → exec (.defineArticle tag b) s =
            .next (({ s with dir := { s.dir with articles := s.dir.articles ++ [⟨c, u8 b 8⟩] } } : State).answered
              0x07 tag b (.articles (s.dir.articles.length + 1))))
          ∧ (256 ≤ s.dir.articles.length →
            exec (.defineArticle tag b) s = .next (s.answered 0x07 tag b (.code .full)))))))
  ∧ (∀ (s : State) (tag : Byte) (b : List Byte), s.link.Ready → b.length = 8 →
    (code? b 0 = none → exec (.dropArticle tag b) s = .next (s.answered 0x08 tag b (.code .range)))
    ∧ (∀ c, code? b 0 = some c →
      ((∀ a ∈ s.dir.articles, a.code ≠ c) → exec (.dropArticle tag b) s = .next (s.answered 0x08 tag b (.code .notFound)))
      ∧ (∀ before a after, s.dir.articles = before ++ a :: after → a.code = c → (∀ x ∈ before, x.code ≠ c) →
        exec (.dropArticle tag b) s =
          .next (({ s with dir := { s.dir with articles := before ++ after } } : State).answered 0x08 tag b
            (.articles (s.dir.articles.length - 1))))))

/-! ### Plan requests -/

/-- LOAD_LAYER (R17, R19, R21, R22): with every check passed the layer stands at the tail of the queue, its placements PENDING
and UNSWEPT with the fields of the body and the footprint of their types, an IDLE station becomes BUILDING, and the reply
carries the position, the free records and early effective. A layer that changes the eligible layers has the station swept, or
its sweep wait while a reservation is outstanding (R26, R58, R59), and a sweep that runs begins anew at once (log 13); any other
leaves the sweep as it is. -/
def Obligations.LoadLayerAppendsTheLayer : Prop :=
  ∀ (s : State) (tag : Byte) (b : List Byte) (v : LayerBody) (ps : List Placement), s.link.Ready →
    bodyFits 0x10 b = true → layerBody? b = some v → 1 ≤ v.count → v.count ≤ 40 →
    ((s.stn.get v.st).mode = .plain .idle ∨ (s.stn.get v.st).mode = .plain .building) →
    (s.plan.get v.st).closed = false → (s.plan.get v.st).queue.length < 12 → v.count ≤ (s.plan.get v.st).free →
    s.PlacesTaken v.st v.places ps →
    (∀ p ∈ ps, p.state = .pending ∧ p.verdict = .unswept) ∧ ps.length = v.places.length
    ∧ ∃ u : State, exec (.loadLayer tag b) s = .next (u.replied 0x10 tag b (.layerTaken (s.plan.get v.st).queue.length
          ((s.plan.get v.st).free - ps.length) (v.early && !v.sheet))).settle
      ∧ u = { s with
          plan := u.plan, stack := u.stack, stn := u.stn, slots := u.slots, stall := u.stall, link := u.link
          evalDue := true, awaitDue := u.awaitDue }
      ∧ (u.plan.get v.st).queue.getLast? = some {
          tag := v.tag, sheet := v.sheet, report := v.report, early := v.early, earlyEff := v.early && !v.sheet
          sheetDue := v.sheet, placements := ps, sheetDone := false, sheetJob := false }
      ∧ (u.plan.get v.st).queue.dropLast.map Layer.unswept = (s.plan.get v.st).queue.map Layer.unswept
      ∧ (u.plan.get v.st).closed = false ∧ (u.stn.get v.st).mode = .plain .building
      ∧ ((s.plan.get v.st).queue = [] ∨ (s.plan.get v.st).queue.length = 1 ∧ (v.early && !v.sheet) = true →
        (u.stack.get v.st).sweep =
            (if s.outstanding v.st = none then ⟨.running, (u.plan.get v.st).candidates⟩ else ⟨.waiting, []⟩)
          ∧ (s.outstanding v.st = none → ∀ p ∈ (u.plan.get v.st).eligiblePending, p.verdict = .unswept))
      ∧ ((s.plan.get v.st).queue ≠ [] → (s.plan.get v.st).queue.length ≠ 1 ∨ (v.early && !v.sheet) = false →
        u.stack.get v.st = s.stack.get v.st
          ∧ (u.plan.get v.st).queue.dropLast = (s.plan.get v.st).queue)
      ∧ ∀ st, st ≠ v.st → u.plan.get st = s.plan.get st ∧ u.stack.get st = s.stack.get st ∧ u.stn.get st = s.stn.get st

/-- LOAD_LAYER's checks in their order leave everything as it was (R18, R19, R21): 1 to 6 by their result, and of 7 to 11 the
first placement of the list that fails one, with the result of its first failing check and its list position. -/
def Obligations.LoadLayerRefusesInOrder : Prop :=
  ∀ (s : State) (tag : Byte) (b : List Byte), s.link.Ready → bodyFits 0x10 b = true →
    (layerBody? b = none → exec (.loadLayer tag b) s = .next (s.answered 0x10 tag b (.code .range)))
    ∧ ∀ v, layerBody? b = some v →
      (v.count = 0 ∨ 40 < v.count → exec (.loadLayer tag b) s = .next (s.answered 0x10 tag b (.code .range)))
      ∧ (1 ≤ v.count → v.count ≤ 40 →
        ((s.stn.get v.st).mode ≠ .plain .idle → (s.stn.get v.st).mode ≠ .plain .building →
          exec (.loadLayer tag b) s = .next (s.answered 0x10 tag b (.code .state)))
        ∧ ((s.stn.get v.st).mode = .plain .idle ∨ (s.stn.get v.st).mode = .plain .building →
          ((s.plan.get v.st).closed = true → exec (.loadLayer tag b) s = .next (s.answered 0x10 tag b (.code .state)))
          ∧ ((s.plan.get v.st).closed = false →
            (12 ≤ (s.plan.get v.st).queue.length →
              exec (.loadLayer tag b) s = .next (s.answered 0x10 tag b (.code .full)))
            ∧ ((s.plan.get v.st).queue.length < 12 →
              ((s.plan.get v.st).free < v.count →
                exec (.loadLayer tag b) s = .next (s.answered 0x10 tag b (.code .noRoom)))
              ∧ (v.count ≤ (s.plan.get v.st).free → ∀ r pos, s.checkPlaces v.st [] v.places = .error (r, pos) →
                exec (.loadLayer tag b) s = .next (s.answered 0x10 tag b (.layerRefused r pos)))
              ∧ (v.count ≤ (s.plan.get v.st).free → ∀ before q after ps, v.places = before ++ q :: after →
                s.PlacesTaken v.st before ps →
                let refused := fun r : Result => exec (.loadLayer tag b) s =
                  .next (s.answered 0x10 tag b (.layerRefused r (before.length + 1)))
                (64 ≤ q.type ∨ turn? q.turn = none ∨ 99 < q.aisle ∨ (∃ n, q.override = some n ∧ 5 < n) →
                  refused .range)
                ∧ (∀ r, turn? q.turn = some r → q.aisle ≤ 99 → (∀ n, q.override = some n → n ≤ 5) →
                  (q.type < 64 → s.dir.typeAt q.type = none → refused .undefined)
                  ∧ ∀ t cx cy, q.type < 64 → s.dir.typeAt q.type = some t →
                    cx = ceilDiv (match r with | .t0 => t.len | .t90 => t.wid) 50 →
                    cy = ceilDiv (match r with | .t0 => t.wid | .t90 => t.len) 50 →
                    ((s.stack.get v.st).limits.foot.ni < q.i0 + cx ∨ (s.stack.get v.st).limits.foot.nj < q.j0 + cy →
                      refused .outside)
                    ∧ (q.i0 + cx ≤ (s.stack.get v.st).limits.foot.ni →
                      q.j0 + cy ≤ (s.stack.get v.st).limits.foot.nj →
                      ((s.IdTaken v.st q.id ∨ ∃ p ∈ ps, p.id = q.id) → refused .overlap)
                      ∧ ((∃ p ∈ ps, ∃ i j, p.i0 ≤ i ∧ i < p.i0 + p.cx ∧ q.i0 ≤ i ∧ i < q.i0 + cx
                          ∧ p.j0 ≤ j ∧ j < p.j0 + p.cy ∧ q.j0 ≤ j ∧ j < q.j0 + cy) → refused .overlap))))))))

/-- WITHDRAW of a placement id (R30), by the placement's state: unknown, BOUND, PLACED and VOID change nothing; PENDING becomes
VOID, and no other placement changes its state. Where no other layer is complete, the voided placement stands VOID in its layer
and every layer stays, or its layer alone, complete with it (R27), leaves the queue, and the reply names its tag. A removed
layer with its report flag set is reported with LAYER_DONE (R28; said where no report waits, so that none is displaced), and a
BUILDING station whose last layer leaves with no job bound to it becomes COMPLETE or IDLE (R29). Every buffered case is scanned
anew (R106). -/
def Obligations.WithdrawIdVoidsAPendingPlacement : Prop :=
  ∀ (s : State) (tag : Byte) (b : List Byte) (st : StationId), s.link.Ready → b.length = 4 → u8 b 0 = 0 →
    station? (u8 b 1) = some st →
    ((s.plan.get st).find? (u16 b 2) = none →
      exec (.withdrawId tag b) s = .next (s.answered 0x11 tag b (.code .notFound)))
    ∧ ∀ q, (s.plan.get st).find? (u16 b 2) = some q →
      (q.state = .bound → exec (.withdrawId tag b) s = .next (s.answered 0x11 tag b (.code .inFlight)))
      ∧ (q.state = .placed → exec (.withdrawId tag b) s = .next (s.answered 0x11 tag b (.code .state)))
      ∧ (q.state = .void → exec (.withdrawId tag b) s = .next (s.answered 0x11 tag b (.withdrawn .void none)))
      ∧ (q.state = .pending → ∃ (u : State) (gone : Option Nat), exec (.withdrawId tag b) s =
            .next (u.replied 0x11 tag b (.withdrawn .void gone)).settle
          ∧ u = { s with
              plan := u.plan, stack := u.stack, stn := u.stn, slots := u.slots, stall := u.stall
              link := u.link, evalDue := u.evalDue, awaitDue := false }
          ∧ (∀ p ∈ (u.plan.get st).placements, p.id = u16 b 2 → p.state = .void)
          ∧ (∀ p ∈ (u.plan.get st).placements, p.id ≠ u16 b 2 →
              ∃ p' ∈ (s.plan.get st).placements, p'.id = p.id ∧ p'.state = p.state)
          ∧ (∀ st', st' ≠ st → u.plan.get st' = s.plan.get st')
          ∧ (∀ before l after, (s.plan.get st).queue = before ++ l :: after → (∃ p ∈ l.placements, p.id = u16 b 2) →
              (∀ x ∈ before ++ after, (∀ p ∈ x.placements, p.id ≠ u16 b 2) ∧ x.settle.complete = false) →
              ∀ l', l' = { l with placements := l.placements.map (fun p =>
                if p.id = u16 b 2 then { p with state := .void } else p) } →
              (l'.settle.complete = false → gone = none ∧ (u.plan.get st).queue = before ++ l' :: after)
              ∧ (l'.settle.complete = true → gone = some l.tag
                ∧ (u.plan.get st).queue.map Layer.unswept = (before ++ after).map Layer.unswept))
          ∧ (u.stn.get st).mode = (if (s.stn.get st).mode = .plain .building ∧ (u.plan.get st).queue = []
                ∧ s.boundTo st = false
              then .plain (if (s.plan.get st).closed then .complete else .idle) else (s.stn.get st).mode)
          ∧ (∀ (before : List Layer) (l : Layer) (after : List Layer) (l' : Layer), s.link.reports = [] →
              (s.plan.get st).queue = before ++ l :: after →
              (∃ p ∈ l.placements, p.id = u16 b 2) →
              (∀ x ∈ before ++ after, (∀ p ∈ x.placements, p.id ≠ u16 b 2) ∧ x.settle.complete = false) →
              l' = { l with placements := l.placements.map (fun p =>
                if p.id = u16 b 2 then { p with state := .void } else p) } →
              (u.link.reports.map Report.body).filter (fun r => match r with | .layerDone .. => true | _ => false) =
                if l'.settle.complete = true ∧ l.report = true then
                  [.layerDone st l.tag (l'.placements.countP (fun p => p.state == .placed))
                    (l'.placements.countP (fun p => p.state == .void)) l.sheetDone]
                else [])
          ∧ ∀ (i : SlotId) r n m, s.slots[i] = .held r n m → u.slots[i] = .held r n (!u.wantedRec r))

/-- WITHDRAW of a layer tag (R31): the first layer with the tag is removed, unless it is in flight or there is none. Where
no other layer is complete, exactly that layer leaves: the layers before it and after it stay in their order. LAYER_DONE and the
end of the queue follow as at the withdrawal of an id (R28, R29). Every buffered case is scanned anew (R106). -/
def Obligations.WithdrawTagRemovesTheFirstSuchLayer : Prop :=
  ∀ (s : State) (tag : Byte) (b : List Byte) (st : StationId), s.link.Ready → b.length = 3 → u8 b 0 = 1 →
    station? (u8 b 1) = some st →
    ((∀ l ∈ (s.plan.get st).queue, l.tag ≠ u8 b 2) →
      exec (.withdrawTag tag b) s = .next (s.answered 0x11 tag b (.code .notFound)))
    ∧ ∀ before l after, (s.plan.get st).queue = before ++ l :: after → l.tag = u8 b 2 →
      (∀ x ∈ before, x.tag ≠ u8 b 2) →
      (l.sheetJob = true ∨ (∃ p ∈ l.placements, p.state = .bound) →
        exec (.withdrawTag tag b) s = .next (s.answered 0x11 tag b (.code .inFlight)))
      ∧ (l.sheetJob = false → (∀ p ∈ l.placements, p.state ≠ .bound) →
        ∃ u : State, exec (.withdrawTag tag b) s =
            .next (u.replied 0x11 tag b (.tagWithdrawn (l.count .pending) (l.count .placed))).settle
          ∧ u = { s with
              plan := u.plan, stack := u.stack, stn := u.stn, slots := u.slots, stall := u.stall
              link := u.link, evalDue := u.evalDue, awaitDue := false }
          ∧ ((u.plan.get st).queue.map Layer.tag).Sublist ((before ++ after).map Layer.tag)
          ∧ ((∀ x ∈ before ++ after, x.settle.complete = false) →
              (u.plan.get st).queue.map Layer.unswept = (before ++ after).map Layer.unswept)
          ∧ (∀ st', st' ≠ st → u.plan.get st' = s.plan.get st')
          ∧ (u.stn.get st).mode = (if (s.stn.get st).mode = .plain .building ∧ (u.plan.get st).queue = []
                ∧ s.boundTo st = false
              then .plain (if (s.plan.get st).closed then .complete else .idle) else (s.stn.get st).mode)
          ∧ (s.link.reports = [] → (∀ x ∈ before ++ after, x.settle.complete = false) →
              (u.link.reports.map Report.body).filter (fun r => match r with | .layerDone .. => true | _ => false) =
                if l.report then
                  [.layerDone st l.tag (l.placements.countP (fun p => p.state == .placed))
                    (l.placements.countP (fun p => p.state == .pending || p.state == .void)) l.sheetDone]
                else [])
          ∧ ∀ (i : SlotId) r n m, s.slots[i] = .held r n m → u.slots[i] = .held r n (!u.wantedRec r))

/-- CLOSE_PLAN (R29, R32): STATE in NO_PALLET; otherwise plan-closed is set, and a station that is IDLE, or BUILDING with
nothing queued and no job bound to it, becomes COMPLETE. ABANDON_PLAN (R33). With no job bound to the station, plan-closed is
set, every layer is removed with its PENDING placements VOID, an IDLE or BUILDING station becomes COMPLETE, and the reply
carries the number of placements voided. With a job bound to it no placement is left PENDING, and the job loses its target
(R101): before the grip it is cancelled, after it converted, its BUSY gantry taking the new destination as R123 lays down
(State.TakesDestination, with logs 15, 38 and 56), and a release that has begun goes on. The reply says whether a layer remains;
what its two fields count with a job bound is log 35's choice, and that a release has begun as soon as the job is in the RELEASE
phase is log 54's reading. -/
def Obligations.ClosePlanAndAbandonPlanEndThePlan : Prop :=
  (∀ (s : State) (tag : Byte) (b : List Byte) (st : StationId), s.link.Ready → b.length = 1 →
    station? (u8 b 0) = some st →
    ((s.stn.get st).mode = .plain .noPallet →
      exec (.closePlan tag b) s = .next (s.answered 0x12 tag b (.code .state)))
    ∧ ((s.stn.get st).mode ≠ .plain .noPallet → (s.stn.get st).mode ≠ .plain .idle →
      ((s.stn.get st).mode ≠ .plain .building ∨ (s.plan.get st).queue ≠ [] ∨ s.boundTo st = true) →
      exec (.closePlan tag b) s = .next (({ s with
        plan := s.plan.set st { s.plan.get st with closed := true } } : State).answered 0x12 tag b (.code .ok)))
    ∧ ((s.stn.get st).mode = .plain .idle
        ∨ (s.stn.get st).mode = .plain .building ∧ (s.plan.get st).queue = [] ∧ s.boundTo st = false →
      ∃ u : State, exec (.closePlan tag b) s = .next (u.replied 0x12 tag b (.code .ok)).settle
        ∧ u = { s with
            plan := s.plan.set st { s.plan.get st with closed := true }
            stn := u.stn, stall := u.stall, link := u.link, evalDue := true, awaitDue := false }
        ∧ (u.stn.get st).mode = .plain .complete ∧ ∀ st', st' ≠ st → u.stn.get st' = s.stn.get st'))
  ∧ (∀ (s : State) (tag : Byte) (b : List Byte) (st : StationId), s.link.Ready → b.length = 1 →
    station? (u8 b 0) = some st → s.boundTo st = false →
    (∀ l ∈ (s.plan.get st).queue, l.sheetJob = false ∧ ∀ p ∈ l.placements, p.state ≠ .bound) →
    ∃ u : State, exec (.abandonPlan tag b) s = .next (u.replied 0x13 tag b
          (.abandoned ((s.plan.get st).placements.countP (fun p => p.state == .pending)) false)).settle
      ∧ u = { s with
          plan := u.plan, stack := u.stack, stn := u.stn, slots := u.slots, stall := u.stall, link := u.link
          evalDue := u.evalDue, awaitDue := false }
      ∧ u.plan.get st = ⟨[], true⟩
      ∧ (u.stn.get st).mode = (if (s.stn.get st).mode = .plain .idle ∨ (s.stn.get st).mode = .plain .building
          then .plain .complete else (s.stn.get st).mode)
      ∧ ∀ st', st' ≠ st → u.plan.get st' = s.plan.get st' ∧ u.stn.get st' = s.stn.get st'
          ∧ u.stack.get st' = s.stack.get st')
  ∧ (∀ (s : State) (tag : Byte) (b : List Byte) (st : StationId) (j : Job), s.link.Ready → b.length = 1 →
    station? (u8 b 0) = some st → s.job = some j → j.station = some st →
    ∃ u : State, exec (.abandonPlan tag b) s = .next (u.replied 0x13 tag b
          (.abandoned ((s.plan.get st).placements.countP (fun p => p.state == .pending))
            (!(u.plan.get st).queue.isEmpty))).settle
      ∧ (u.plan.get st).closed = true ∧ (∀ p ∈ (u.plan.get st).placements, p.state ≠ .pending)
      ∧ (j.gripped = false → u.job = none ∧ u.gantry = s.gantry.cancelled)
      ∧ (j.gripped = true → j.releaseBegun = false → u.boundTo st = false)
      ∧ (∀ item, j.gripped = true → j.releaseBegun = false → j.carried = some item → s.gantry.state = .busy →
          s.TakesDestination u { j with
            kind := .putaway, dest := u.chooseDest item, turn := .t0, reservation := none, spillK := none
            abandoned := true })
      ∧ (j.gripped = true → j.releaseBegun = true → u.job = some { j with abandoned := true })
      ∧ ∀ st', st' ≠ st → u.plan.get st' = s.plan.get st')

/-- SET_SHEETS (R29, R58, R59, R90, R156, R158): RANGE above 60; otherwise the count is stored, and a count above 0 ends every
SHEETS_OUT hold: the station returns to BUILDING, its sweep starts over every candidate, one that runs anew at once (log 13), or
waits for the outstanding reservation, and with nothing queued and no job bound it goes on to COMPLETE or IDLE. -/
def Obligations.SetSheetsStoresTheCountAndEndsHolds : Prop :=
  ∀ (s : State) (tag : Byte) (b : List Byte), s.link.Ready → b.length = 1 →
    (60 < u8 b 0 → exec (.setSheets tag b) s = .next (s.answered 0x15 tag b (.code .range)))
    ∧ (u8 b 0 ≤ 60 → (u8 b 0 = 0 ∨ ∀ st, (s.stn.get st).mode ≠ .plain (.held .sheetsOut)) →
      exec (.setSheets tag b) s =
        .next (({ s with magazine := u8 b 0 } : State).answered 0x15 tag b (.sheetsStored (u8 b 0))))
    ∧ (u8 b 0 ≤ 60 → 1 ≤ u8 b 0 → ∃ u : State, exec (.setSheets tag b) s =
          .next (u.replied 0x15 tag b (.sheetsStored (u8 b 0))).settle
        ∧ u = { s with
            magazine := u8 b 0, plan := u.plan, stack := u.stack, stn := u.stn, stall := u.stall
            link := u.link, evalDue := u.evalDue, awaitDue := false }
        ∧ ∀ st, ((s.stn.get st).mode = .plain (.held .sheetsOut) →
              (u.stn.get st).mode = (if (s.plan.get st).queue = [] ∧ s.boundTo st = false
                then .plain (if (s.plan.get st).closed then .complete else .idle) else .plain .building)
              ∧ (u.plan.get st).closed = (s.plan.get st).closed
              ∧ (u.plan.get st).queue.map Layer.unswept = (s.plan.get st).queue.map Layer.unswept
              ∧ u.stack.get st = { s.stack.get st with
                  sweep := (u.stack.get st).sweep, sheetVerdict := (u.stack.get st).sheetVerdict }
              ∧ (s.outstanding st ≠ none → (u.stack.get st).sweep = ⟨.waiting, []⟩)
              ∧ (s.outstanding st = none → (u.stack.get st).sweep = (match (s.plan.get st).candidates with
                    | [] => ⟨.idle, []⟩
                    | cs => ⟨.running, cs⟩)
                  ∧ ((s.plan.get st).sheetDue = true → (u.stack.get st).sheetVerdict = .unswept)
                  ∧ ∀ p ∈ (u.plan.get st).eligiblePending, p.verdict = .unswept))
            ∧ ((s.stn.get st).mode ≠ .plain (.held .sheetsOut) → u.stn.get st = s.stn.get st
                ∧ u.plan.get st = s.plan.get st ∧ u.stack.get st = s.stack.get st))

/-! ### The departure budget -/

/-- SET_DEPARTURE (R162, R163, R164): STATE where the station takes none; otherwise COUNTING, or PASSED for 0 seconds, with
estimate, slack and status computed at once and SCHEDULE reported on a change of status. A tick lowers the seconds by one; the
tick that takes them to 0 makes the departure PASSED with one DUE_PASSED report; a departure that does not count takes none. The
estimate is the cost of the effective class of every PENDING and BOUND placement and the sheet cost of every layer whose sheet
is due. The model's choices in it: DUE_PASSED as a command of its own (log 24), what a station that is not BUILDING stores and
replies (log 27), DUE_PASSED reported ahead of SCHEDULE (log 7), and the station as all that DUE_PASSED carries (log 52). -/
def Obligations.DeparturesAreSetAndTickDown : Prop :=
  (∀ (p : Plan) (d : Directory) (sheetCost : Nat) (cost : Placement → Nat),
    (∀ q ∈ p.placements, q.state = .pending ∨ q.state = .bound → ∃ t h, d.typeAt q.type = some t
      ∧ d.handling[q.override.getD t.hcls]? = some h ∧ cost q = h.cost) →
    p.estimate d sheetCost =
      ((p.placements.filter (fun q => decide (q.state = .pending ∨ q.state = .bound))).map cost).sum
        + sheetCost * (p.queue.filter Layer.sheetDue).length)
  ∧ (∀ (s : State) (tag : Byte) (b : List Byte) (st : StationId), s.link.Ready → b.length = 3 →
    station? (u8 b 0) = some st →
    ((s.stn.get st).mode = .plain .noPallet ∨ (s.stn.get st).mode = .plain .unverified
        ∨ (∃ m, (s.stn.get st).mode = .exchange m) →
      exec (.setDeparture tag b) s = .next (s.answered 0x14 tag b (.code .state)))
    ∧ ((s.stn.get st).mode = .plain .idle ∨ (s.stn.get st).mode = .plain .building
        ∨ (s.stn.get st).mode = .plain .complete ∨ (∃ h, (s.stn.get st).mode = .plain (.held h)) →
      ∀ (e : Nat) (x : Sched), e = (s.plan.get st).estimate s.dir (s.stn.get st).sheetCost →
      x = (if (s.stn.get st).mode ≠ .plain .building then .none
        else if e + (s.stn.get st).margin ≤ 10 * u16 b 1 then .onTime
        else if e ≤ 10 * u16 b 1 then .atRisk else .late) →
      exec (.setDeparture tag b) s = .next
        (let n : Station := { s.stn.get st with
            departure := if u16 b 1 = 0 then .passed else .counting (u16 b 1)
            est := e
            slack := some (((10 * u16 b 1 : Nat) : Int) - (e : Int))
            status := x }
         let s1 : State := { s with stn := s.stn.set st n }
         let s2 := if x = (s.stn.get st).status then s1
           else s1.report (.schedule st (s.stn.get st).status x e (some (10 * u16 b 1)) n.slack)
         s2.answered 0x14 tag b (.departureSet e n.slack x))))
  ∧ (∀ (s : State) (st : StationId),
    (∀ n, (s.stn.get st).departure = .counting n → 1 < n → exec (.departureTick st) s =
      .next ((({ s with stn := s.stn.set st { s.stn.get st with departure := .counting (n - 1) } } : State).reschedule
        st).ended))
    ∧ (∀ c, (c = .departureTick st ∨ c = .duePassed st) → (s.stn.get st).departure = .counting 1 → exec c s =
      .next (((({ s with stn := s.stn.set st { s.stn.get st with departure := .passed } } : State).report
        (.duePassed st)).reschedule st).ended))
    ∧ ((s.stn.get st).departure = .unset ∨ (s.stn.get st).departure = .passed →
      exec (.departureTick st) s = .next s.ended ∧ exec (.duePassed st) s = .next s.ended))
/-! ### Operating requests -/

/-- HOME (R116, R117, R118): STATE where it is not accepted; an accepted HOME makes the gantry HOMING with Z rising and
every counter (log 14) and mark gone, keeping a fault cause aside, and is answered OK in every case. Where the Z switch stands
active Z is home at once and T starts (State.HomingTStarts), and where it does not and the upper limit of Z does, homing fails
with the fault LIMIT; that the switch counts ahead of the limit is log 14's choice. -/
def Obligations.HomeStartsTheSequenceOrRefuses : Prop :=
  ∀ (s : State) (tag : Byte), s.link.Ready →
    (((s.gantry.state ≠ .unhomed ∧ ∀ c, s.gantry.state ≠ .faulted c)
        ∨ (s.gantry.state = .faulted .drop ∧ s.gripper.dropMark = true)
        ∨ (s.cell.run ≠ .off ∧ ∀ r, s.cell.run ≠ .paused r) ∨ s.inputs.door = true
        ∨ (∃ st, s.inputs.curtain.get st = true)) →
      exec (.home tag []) s = .next (s.answered 0x20 tag [] (.code .state)))
    ∧ ∀ kept : Option FaultCause,
      (s.gantry.state = (match kept with | none => .unhomed | some c => .faulted c)) →
      (kept = some .drop → s.gripper.dropMark = false) → (s.cell.run = .off ∨ ∃ r, s.cell.run = .paused r) →
      s.inputs.door = false → (∀ st, s.inputs.curtain.get st = false) → ∀ g : Gantry, g = { s.gantry with
        state := .homing
        kept := kept
        homing := 1
        axes := ⟨⟨none, false, none⟩, ⟨none, false, none⟩, ⟨none, false, none⟩⟩
        t := ⟨none, false, none⟩
        motion := .none } →
      (∃ u : State, exec (.home tag []) s = .next (u.replied 0x20 tag [] (.code .ok)).settle ∧ u.fixed = s.fixed
        ∧ (s.inputs.homeZ = false → s.inputs.limitHigh.z = true → u.job = s.job ∧ g.HomingFailed u.gantry .limit)
        ∧ (s.inputs.homeZ = true → s.HomingTStarts u { g with axes := { g.axes with z := ⟨some 3200, true, none⟩ } })
        ∧ (s.job = none ∨ s.inputs.homeZ = false ∨ s.inputs.homeT = false → u = { s with
            gantry := u.gantry, link := u.link, evalDue := u.evalDue, awaitDue := false }))
      ∧ (s.inputs.homeZ = false → s.inputs.limitHigh.z = false → exec (.home tag []) s = .next
          ((({ s with gantry := g } : State).report
            (.gantry .homing ⟨none, none, none⟩ none s.inputs.warning (s.job.map Job.ref) none)).answered
              0x20 tag [] (.code .ok)))

/-- START and STOP (R153): START's checks in order, then RUN with a dispatch event; STOP is answered OK in every state and
leaves FINISHING or OFF, whether a job exists or not, in the state or in its memory. -/
def Obligations.StartAndStopChangeTheCellRunState : Prop :=
  ∀ (s : State) (tag : Byte), s.link.Ready →
    (s.cell.run ≠ .off → exec (.start tag []) s = .next (s.answered 0x21 tag [] (.code .state)))
    ∧ (s.cell.run = .off →
      (s.gantry.geomDefined = false → exec (.start tag []) s = .next (s.answered 0x21 tag [] (.code .undefined)))
      ∧ (s.gantry.geomDefined = true → (s.gantry.state ≠ .idle ∨ s.inputs.door = true) →
        exec (.start tag []) s = .next (s.answered 0x21 tag [] (.code .state)))
      ∧ (s.gantry.geomDefined = true → s.gantry.state = .idle → s.inputs.door = false →
        exec (.start tag []) s = .next (({ s with
          cell := ⟨.run, s.cell.auto⟩, evalDue := true, awaitDue := false } : State).replied
            0x21 tag [] (.code .ok)).settle))
    ∧ (∀ next : CellRun, (match s.cell.run with
          | .off => next = .off
          | .run => next = if s.job = none then .off else .finishing
          | .finishing => next = .finishing
          | .paused _ => next = if s.job = none then .off else .paused .finishing
          | .guardStopped (.ret _) c => next = if s.job = none then .off else .guardStopped (.ret .finishing) c
          | .guardStopped (.paused _) c => next = if s.job = none then .off else .guardStopped (.paused .finishing) c) →
      exec (.stop tag []) s =
        .next (({ s with cell := ⟨next, s.cell.auto⟩ } : State).answered 0x22 tag [] (.code .ok)))

/-- PAUSE (R124, R125, R153): STATE in OFF and GUARD_STOPPED, RANGE for another kind; in RUN and FINISHING the cell becomes
PAUSED and remembers what it left. A quick stop halts every axis at once, in PAUSED as well. A ramped stop brings the linear axes
to rest, T running on: the gantry is STOPPING with its job while one moves, and STOPPED where none does, with the phase that its
motion completed (State.RampStopped; where a ramp ends is read by log 9, and what a stop without a job leaves is log 49's choice).
A ramped PAUSE in PAUSED changes nothing. Beside the cell and the gantry a quick stop changes nothing: the job
is retained with its phase, as State.QuickStopped says. Where it takes a change held in STOPPING (log 17), the job takes that
change, and ends where its carry is lost (R123, R141). -/
def Obligations.PauseStopsTheCellRampedOrQuick : Prop :=
  ∀ (s : State) (tag : Byte), s.link.Ready →
    (∀ k : Byte, 2 ≤ k.toNat → exec (.pauseRamped tag [k]) s = .next (s.answered 0x23 tag [k] (.code .range)))
    ∧ (s.cell.run = .off ∨ (∃ m c, s.cell.run = .guardStopped m c) →
      exec (.pauseRamped tag [0]) s = .next (s.answered 0x23 tag [0] (.code .state))
      ∧ exec (.pauseQuick tag [1]) s = .next (s.answered 0x23 tag [1] (.code .state)))
    ∧ (∀ r, s.cell.run = .paused r →
      exec (.pauseRamped tag [0]) s = .next (s.answered 0x23 tag [0] (.code .ok)))
    ∧ (∀ r, (s.cell.run = .paused r ∨ s.cell.run = .run ∧ r = .run ∨ s.cell.run = .finishing ∧ r = .finishing) →
      ∃ u : State, exec (.pauseQuick tag [1]) s = .next (u.replied 0x23 tag [1] (.code .ok)).settle
        ∧ (s.gantry.heldChange = false → u = { s with
            cell := ⟨.paused r, s.cell.auto⟩
            gantry := u.gantry, link := u.link, evalDue := u.evalDue, awaitDue := false })
        ∧ (s.lossZone? = none → u = { s with
            cell := ⟨.paused r, s.cell.auto⟩
            gantry := u.gantry, job := u.job, link := u.link, evalDue := u.evalDue, awaitDue := false })
        ∧ s.QuickStopped u
        ∧ u.cell = ⟨.paused r, s.cell.auto⟩ ∧ u.fixed = s.fixed
        ∧ u.gantry.moving = false ∧ u.gantry.state ≠ .busy ∧ u.gantry.state ≠ .stopping ∧ u.gantry.state ≠ .homing
        ∧ u.gantry.counters = s.gantry.counters)
    ∧ (∀ r, (s.cell.run = .run ∧ r = .run ∨ s.cell.run = .finishing ∧ r = .finishing) →
      (s.gantry.state ≠ .busy → s.gantry.state ≠ .awaitPutaway → exec (.pauseRamped tag [0]) s =
        .next (({ s with cell := ⟨.paused r, s.cell.auto⟩ } : State).answered 0x23 tag [0] (.code .ok)))
      ∧ ∃ u : State, exec (.pauseRamped tag [0]) s = .next (u.replied 0x23 tag [0] (.code .ok)).settle
        ∧ u.cell = ⟨.paused r, s.cell.auto⟩ ∧ u.gantry.state ≠ .busy ∧ u.gantry.counters = s.gantry.counters
        ∧ u.fixed = s.fixed ∧ s.RampStopped u
        ∧ (u.job ≠ none ∨ s.job = none → u = { s with
            cell := ⟨.paused r, s.cell.auto⟩
            gantry := u.gantry, job := u.job, link := u.link, evalDue := u.evalDue, awaitDue := false }))

/-- RESUME (R151, R153): STATE in OFF, RUN and FINISHING and with a guard cause left; otherwise the cell returns to what it
remembers, and a FINISHING without a job goes on to OFF. With a retained job and a gantry that is STOPPED the cell returns so
beside the phase that is planned again from where the gantry stands, by the rows of R126 (State.ReturnedTo), and a FINISHING
whose job ends in the same event goes on to OFF (R153); only a broken curtain in the way of the X target stops the cell anew
(R159). That a job without a destination waits with the phase TRAVEL is log 15's choice. A gantry that waits in AWAIT_PUTAWAY
keeps its job, and at rest rises (R123). That a RESUME which comes while the ramped stop of AWAIT_PUTAWAY still ramps leaves the
gantry to that ramp, and is taken at rest, is the model's choice (log 50). -/
def Obligations.ResumeReturnsToTheRememberedState : Prop :=
  ∀ (s : State) (tag : Byte), s.link.Ready →
    (s.cell.run = .off ∨ s.cell.run = .run ∨ s.cell.run = .finishing
        ∨ (∃ m c, s.cell.run = .guardStopped m c ∧ (c.door = true ∨ c.curtainA = true ∨ c.curtainB = true)) →
      exec (.resume tag []) s = .next (s.answered 0x24 tag [] (.code .state)))
    ∧ (∀ r, s.cell.run = .guardStopped (.paused r) ⟨false, false, false⟩ →
      exec (.resume tag []) s =
        .next (({ s with cell := ⟨.paused r, s.cell.auto⟩ } : State).answered 0x24 tag [] (.code .ok)))
    ∧ (∀ r, (s.cell.run = .paused r ∨ s.cell.run = .guardStopped (.ret r) ⟨false, false, false⟩) →
      (s.job = none ∨ (s.gantry.state ≠ .stopped ∧ s.gantry.state ≠ .awaitPutaway) →
        exec (.resume tag []) s = .next (({ s with
          cell := ⟨match r with | .run => .run | .finishing => if s.job = none then .off else .finishing, s.cell.auto⟩
          evalDue := (match r with | .run => true | .finishing => false)
          awaitDue := false } : State).replied 0x24 tag [] (.code .ok)).settle)
      ∧ (s.job ≠ none → ∀ next : CellRun, next = (match r with | .run => .run | .finishing => .finishing) →
        (s.gantry.state = .stopped →
          ∃ u : State, exec (.resume tag []) s = .next (u.replied 0x24 tag [] (.code .ok)).settle
            ∧ u.fixed = s.fixed ∧ s.ReturnedTo u r s.cell.auto)
        ∧ (s.gantry.state = .awaitPutaway →
          ∃ u : State, exec (.resume tag []) s = .next (u.replied 0x24 tag [] (.code .ok)).settle
            ∧ u = { s with
                cell := ⟨next, s.cell.auto⟩
                gantry := u.gantry, link := u.link, evalDue := (match r with | .run => true | .finishing => false)
                awaitDue := false }
            ∧ s.ReturnedTo u r s.cell.auto
            ∧ (s.gantry.moving = true → u.gantry = s.gantry)
            ∧ (s.gantry.moving = false → u.gantry.lastTravel = s.travelHeight
              ∧ ((s.gantry.axes.z).at < (s.travelHeight : Int) → s.inputs.limitHigh.z = false →
                  u.gantry.state = .awaitPutaway ∧ u.gantry.motion = .rise
                  ∧ ∃ m, (u.gantry.axes.z).move = some m ∧ m.goal = s.travelHeight)))))

/-- RECOVER (R142, R158): RANGE for another place, STATE while the drop mark is clear; otherwise the mark is cleared, and a
named station that no job is bound to becomes HELD with DEBRIS unless the exchange that ends its state will clear it.
GRIPPER_RESET (R148): STATE during a grip, a carry or a release; otherwise the counter is 0, the lockout ends, and exactly
the zones with an active fault input stay FAULTED. CLEAR_SLOT (R84): RANGE outside 0..7; a BLOCKED slot without presence becomes
EMPTY with its SLOT report and a dispatch event; an EMPTY slot is answered OK, and a HELD slot or one with presence STATE, with
no effect; what that SLOT report carries beyond slot and cause is the choice of the model (log 53). -/
def Obligations.RecoverGripperResetAndClearSlotClearTheirMarks : Prop :=
  (∀ (s : State) (tag : Byte), s.link.Ready →
    (∀ k : Byte, 3 ≤ k.toNat → exec (.recover tag [k]) s = .next (s.answered 0x25 tag [k] (.code .range)))
    ∧ (∀ k : Byte, k.toNat ≤ 2 → s.gripper.dropMark = false →
      exec (.recover tag [k]) s = .next (s.answered 0x25 tag [k] (.code .state)))
    ∧ (s.gripper.dropMark = true →
      exec (.recover tag [0]) s = .next (({ s with gripper := { s.gripper with dropMark := false } } : State).answered
        0x25 tag [0] (.code .ok))
      ∧ ∀ st, ∀ k : Byte, k = (match st with | .A => 1 | .B => 2) → s.boundTo st = false →
        ∃ u : State, exec (.recover tag [k]) s = .next (u.replied 0x25 tag [k] (.code .ok)).settle
          ∧ u = { s with
              gripper := { s.gripper with dropMark := false }
              stn := u.stn, stall := u.stall, link := u.link, evalDue := u.evalDue, awaitDue := false }
          ∧ (u.stn.get st).mode = (match (s.stn.get st).mode with
            | .plain .noPallet => .plain .noPallet
            | .plain .unverified => .plain .unverified
            | .plain _ => .plain (.held .debris)
            | .exchange .noPallet => .exchange .noPallet
            | .exchange .unverified => .exchange .unverified
            | .exchange _ => .exchange (.held .debris))
          ∧ ∀ st', st' ≠ st → u.stn.get st' = s.stn.get st')
    ∧ (s.gripper.state ≠ .idle → s.gripper.state ≠ .lockedOut →
      exec (.gripperReset tag []) s = .next (s.answered 0x26 tag [] (.code .state)))
    ∧ (s.gripper.state = .idle ∨ s.gripper.state = .lockedOut →
      ∀ f : ZoneSet, (∀ z, f.get z = (s.inputs.overcurrent.get z || s.inputs.openLoad.get z)) →
      ∃ u : State, exec (.gripperReset tag []) s = .next (u.replied 0x26 tag [] (.gripperReset 0 .idle f)).settle
        ∧ u = { s with
            gripper := u.gripper, link := u.link, awaitDue := false
            evalDue := decide (s.gripper.state = .lockedOut) }
        ∧ u.gripper = { s.gripper with counter := 0, decay := none, state := .idle, zones := u.gripper.zones }
        ∧ ∀ z, u.gripper.zones.get z =
          if f.get z then ⟨.off, false, true⟩ else { s.gripper.zones.get z with faulted := false }))
  ∧ (∀ (s : State) (tag : Byte) (k : Byte), s.link.Ready →
    (8 ≤ k.toNat → exec (.clearSlot tag [k]) s = .next (s.answered 0x27 tag [k] (.code .range)))
    ∧ ∀ i : Fin 8, k.toNat = i.val →
      (∀ m, s.slots[i] = .empty m → exec (.clearSlot tag [k]) s = .next (s.answered 0x27 tag [k] (.code .ok)))
      ∧ ((∃ r n m, s.slots[i] = .held r n m) ∨ s.slots[i] = .blocked ∧ s.inputs.slotPresence[i] = true →
        exec (.clearSlot tag [k]) s = .next (s.answered 0x27 tag [k] (.code .state)))
      ∧ (s.slots[i] = .blocked → s.inputs.slotPresence[i] = false → exec (.clearSlot tag [k]) s =
        .next ((({ s with
          slots := s.slots.set i (.empty false)
          evalDue := true
          awaitDue := true } : State).report (.slot i .empty .cleared none)).replied 0x27 tag [k] (.code .ok)).settle))

/-- STATION_HOLD and STATION_RESUME (R58, R101, R102, R156, R158): a BUILDING station becomes HELD by HOST, a HELD one stays as
it is. A job bound to the station is cancelled before the grip: a BUSY gantry ramps its axes to rest, or is IDLE at once, and a
STOPPED one is IDLE (R99, R123). After it the job becomes a PUTAWAY with a chosen destination, or waits in AWAIT_PUTAWAY: in
PICK_UP the rise goes on, and in TRAVEL and SET_DOWN the axes ramp to rest and the job is in TRAVEL (R123,
State.TakesDestination; the phase is log 15's choice, the old turn of T log 56's, and the ramp of a Z that still rises is read
by log 38). A station held by HOST or DEBRIS returns to BUILDING, its sweep starts over every candidate, one that runs anew at
once (log 13), or waits for the outstanding reservation, and with nothing queued it goes on; plan, stack entries and surface map
stay. Every other state gives STATE. That a release has begun as soon as the job is in the RELEASE phase is log 54's reading. -/
def Obligations.StationsAreHeldAndResumed : Prop :=
  ∀ (s : State) (tag k : Byte) (st : StationId), s.link.Ready → station? k.toNat = some st →
    ((s.stn.get st).mode = .plain .building →
      ∃ u : State, exec (.stationHold tag [k]) s = .next (u.replied 0x28 tag [k] (.code .ok)).settle
        ∧ (u.stn.get st).mode = .plain (.held .host) ∧ u.fixed = s.fixed
        ∧ ((∀ j, s.job = some j → j.gripped = false ∨ j.releaseBegun = false) → u.boundTo st = false)
        ∧ (∀ j, s.job = some j → j.station = some st → j.gripped = false →
            u.job = none ∧ u.gantry = s.gantry.cancelled)
        ∧ (∀ j item, s.job = some j → j.station = some st → j.gripped = true → j.releaseBegun = false →
            j.carried = some item → s.gantry.state = .busy → s.TakesDestination u { j with
              kind := .putaway, dest := u.chooseDest item, turn := .t0, reservation := none, spillK := none })
        ∧ (s.boundTo st = false → u = { s with
            stn := u.stn, stall := u.stall, link := u.link, evalDue := true, awaitDue := false }
          ∧ ∀ st', st' ≠ st → u.stn.get st' = s.stn.get st')
        ∧ (∀ j item, s.job = some j → j.station = some st → j.gripped = true → j.phase = .pickUp →
            j.carried = some item → s.gantry.state = .busy → s.inputs.limitHigh.z = false →
            u.job = some { j with
              kind := .putaway, dest := u.chooseDest item, turn := .t0, reservation := none, spillK := none
              phase := if u.chooseDest item = none then .travel else .pickUp }
            ∧ u.gantry.state = (if u.chooseDest item = none then .awaitPutaway else .busy)))
    ∧ (∀ h, (s.stn.get st).mode = .plain (.held h) →
      exec (.stationHold tag [k]) s = .next (s.answered 0x28 tag [k] (.code .ok)))
    ∧ ((s.stn.get st).mode ≠ .plain .building → (∀ h, (s.stn.get st).mode ≠ .plain (.held h)) →
      exec (.stationHold tag [k]) s = .next (s.answered 0x28 tag [k] (.code .state)))
    ∧ ((s.stn.get st).mode = .plain (.held .sheetsOut) ∨ (∀ h, (s.stn.get st).mode ≠ .plain (.held h)) →
      exec (.stationResume tag [k]) s = .next (s.answered 0x29 tag [k] (.code .state)))
    ∧ ((s.stn.get st).mode = .plain (.held .host) ∨ (s.stn.get st).mode = .plain (.held .debris) →
      ∃ u : State, exec (.stationResume tag [k]) s = .next (u.replied 0x29 tag [k] (.code .ok)).settle
        ∧ u = { s with
            plan := u.plan, stack := u.stack, stn := u.stn, stall := u.stall, link := u.link, evalDue := true
            awaitDue := false }
        ∧ (u.stn.get st).mode = (if (s.plan.get st).queue = [] ∧ s.boundTo st = false
          then .plain (if (s.plan.get st).closed then .complete else .idle) else .plain .building)
        ∧ (u.plan.get st).closed = (s.plan.get st).closed
        ∧ (u.plan.get st).queue.map Layer.unswept = (s.plan.get st).queue.map Layer.unswept
        ∧ u.stack.get st = { s.stack.get st with
            sweep := (u.stack.get st).sweep, sheetVerdict := (u.stack.get st).sheetVerdict }
        ∧ (s.outstanding st ≠ none → (u.stack.get st).sweep = ⟨.waiting, []⟩)
        ∧ (s.outstanding st = none → (u.stack.get st).sweep = (match (s.plan.get st).candidates with
              | [] => ⟨.idle, []⟩
              | cs => ⟨.running, cs⟩)
            ∧ ((s.plan.get st).sheetDue = true → (u.stack.get st).sheetVerdict = .unswept)
            ∧ ∀ p ∈ (u.plan.get st).eligiblePending, p.verdict = .unswept)
        ∧ ∀ st', st' ≠ st → u.stn.get st' = s.stn.get st' ∧ u.plan.get st' = s.plan.get st'
            ∧ u.stack.get st' = s.stack.get st' ∧ u.stall.get st' = s.stall.get st')

/-- PURGE_LANE (R72, R73, R75): RANGE for another lane; nothing in PURGE; otherwise every record is marked, a front case that no
job claims is released with the reason PURGE, and LANE is reported; the reply carries the records in the FIFO. A front case that
a job claims is released so too, once the job is cancelled, the gantry ramping to rest or IDLE at once (R123; its LANE report is
said where no report waits and the job is no SHEET job and its plan not abandoned, so that none is displaced). That the LANE
report of a return to RUN carries the lane alone is the model's choice (log 53). -/
def Obligations.PurgeLaneMarksTheRecords : Prop :=
  ∀ (s : State) (tag k : Byte), s.link.Ready →
    (lane? k.toNat = none → exec (.purgeLane tag [k]) s = .next (s.answered 0x2A tag [k] (.code .range)))
    ∧ ∀ l, lane? k.toNat = some l →
      ((s.lanes.get l).purging = true → exec (.purgeLane tag [k]) s =
        .next (s.answered 0x2A tag [k] (.laneRecords (s.lanes.get l).fifo.length)))
      ∧ ((s.lanes.get l).purging = false → (s.lanes.get l).pick ≠ .front →
        ((s.lanes.get l).fifo ≠ [] ∨ s.inputs.laneEmpty.get l = false
          ∨ ∃ h why, (s.lanes.get l).pick = .releasing h why) → exec (.purgeLane tag [k]) s =
          .next ((({ s with lanes := s.lanes.set l { s.lanes.get l with
              purging := true
              fifo := (s.lanes.get l).fifo.map (fun r => { r with purge := true }) } } : State).report
            (.lanePurge l .host (s.lanes.get l).fifo.length)).answered 0x2A tag [k]
              (.laneRecords (s.lanes.get l).fifo.length)))
      ∧ ((s.lanes.get l).purging = false → (s.lanes.get l).pick = .empty ∨ (s.lanes.get l).pick = .picking →
        (s.lanes.get l).fifo = [] → s.inputs.laneEmpty.get l = true → exec (.purgeLane tag [k]) s =
          .next (((s.report (.lanePurge l .host 0)).report (.laneRun l)).answered 0x2A tag [k] (.laneRecords 0)))
      ∧ (∀ r rest, (s.lanes.get l).purging = false → (s.lanes.get l).pick = .front → s.laneBound l = false →
        (s.lanes.get l).fifo = r :: rest → exec (.purgeLane tag [k]) s =
          .next ((({ s with lanes := s.lanes.set l { s.lanes.get l with
              purging := true
              pick := .releasing true .purge
              wait := 0
              fifo := { r with purge := true, disp := .runOff .purge } ::
                rest.map (fun r => { r with purge := true }) } } : State).report
            (.lanePurge l .host (rest.length + 1))).answered 0x2A tag [k] (.laneRecords (rest.length + 1))))
      ∧ ((s.lanes.get l).purging = false → (s.lanes.get l).pick = .front → s.laneBound l = true →
        ∃ u : State, exec (.purgeLane tag [k]) s =
            .next (u.replied 0x2A tag [k] (.laneRecords (s.lanes.get l).fifo.length)).settle
          ∧ u.job = none ∧ u.gantry = s.gantry.cancelled ∧ u.fixed = s.fixed ∧ (u.lanes.get l).purging = true
          ∧ (u.lanes.get l).pick = .releasing true .purge
          ∧ (∀ r rest, (s.lanes.get l).fifo = r :: rest → u.lanes = s.lanes.set l { s.lanes.get l with
              purging := true
              pick := .releasing true .purge
              wait := 0
              fifo := { r with purge := true, disp := .runOff .purge } ::
                rest.map (fun r => { r with purge := true }) })
          ∧ (s.link.reports = [] → (∀ j, s.job = some j → j.kind ≠ .sheet ∧ j.abandoned = false) →
              (u.link.reports.map Report.body).filter (fun r => match r with | .lanePurge .. => true | _ => false) =
                [.lanePurge l .host (s.lanes.get l).fifo.length]))

/-! ### Infeed, shelf and spill table -/

/-- The arrival checks of a record (R67, R68, R69), in their order, on the bytes of a scanner frame: every reason, and the
orientation 0 or 90. The code of a frame whose check matches is decoded, and looked up, whatever the status byte says (R186); the
record holds code and type where the status is OK, and neither at another status (R67). That R67 decides so for the record is
read by log 44. -/
def Obligations.ArrivalChecksGiveTheDisposition : Prop :=
  ∀ (s : State) (l : LaneId) (f : List Byte) (r : ArrivalRec), r = s.arrivalRec l f →
    r.lane = l ∧ r.seq = (s.lanes.get l).seq ∧ r.purge = (s.lanes.get l).purging
    ∧ (crc8 ((f.drop 1).take 16) ≠ u8 f 17 → r.status = .badCheck ∧ r.code = none ∧ r.type = none ∧ r.meas = none
      ∧ r.orient = none ∧ r.disp = .runOff .badCheck)
    ∧ (crc8 ((f.drop 1).take 16) = u8 f 17 →
      r.meas = some ⟨u16 f 9, u16 f 11, u16 f 13, min (u16 f 15) 800⟩
      ∧ r.type = r.code.bind s.dir.lookup
      ∧ (scanBody f).code = packed? f 2 7 ∧ s.dir.lookupScan (scanBody f) = (packed? f 2 7).bind s.dir.lookup
      ∧ (packed? f 2 7 = none → r.code = none ∧ r.type = none)
      ∧ (u8 f 1 ≠ 0 → r.code = none ∧ r.type = none)
      ∧ (u8 f 1 = 1 → r.status = .noRead ∧ r.orient = none ∧ r.disp = .runOff .noRead)
      ∧ (2 ≤ u8 f 1 → r.status = .multiLabel ∧ r.orient = none ∧ r.disp = .runOff .multiLabel)
      ∧ (u8 f 1 = 0 → r.status = .ok ∧ r.code = packed? f 2 7
        ∧ (r.type.bind s.dir.typeAt = none → r.disp = .runOff .unknownArticle)
        ∧ ∀ t, r.type.bind s.dir.typeAt = some t → ∀ len wid hei wei,
          len = u16 f 9 → wid = u16 f 11 → hei = u16 f 13 → wei = min (u16 f 15) 800 →
          (r.disp = .accepted ↔
            ((near len t.len t.dtol && near wid t.wid t.dtol) || (near len t.wid t.dtol && near wid t.len t.dtol)) = true
            ∧ near hei t.hei t.dtol = true ∧ wei * 100 ≤ t.wn * (100 + t.wtol) ∧ t.wn * (100 - t.wtol) ≤ wei * 100)
          ∧ (((near len t.len t.dtol && near wid t.wid t.dtol) || (near len t.wid t.dtol && near wid t.len t.dtol)) = false
              ∨ near hei t.hei t.dtol = false → r.disp = .runOff .size)
          ∧ (((near len t.len t.dtol && near wid t.wid t.dtol) || (near len t.wid t.dtol && near wid t.len t.dtol)) = true →
            near hei t.hei t.dtol = true →
              (t.wn * (100 + t.wtol) < wei * 100 → r.disp = .runOff .overweight)
              ∧ (wei * 100 ≤ t.wn * (100 + t.wtol) → wei * 100 < t.wn * (100 - t.wtol) → r.disp = .runOff .underweight))
          ∧ (r.orient = some .t90 ↔ (near len t.len t.dtol && near wid t.wid t.dtol) = false
              ∧ near len t.wid t.dtol = true ∧ near wid t.len t.dtol = true ∧ near hei t.hei t.dtol = true)
          ∧ (r.orient = some .t0 ↔ near len t.len t.dtol = true ∧ near wid t.wid t.dtol = true
              ∧ near hei t.hei t.dtol = true)))

/-- ARRIVAL (R65, R66, R67, R70, R71) at a receiver that is HUNTING: the sequence number counts on, a record is stored while the
FIFO holds fewer than 8 and reported, and an overrun of a lane in RUN purges it: the record is not stored, ARRIVAL and LANE are
reported, every record is marked, and a front case is released, a job that claims it being cancelled first, its gantry ramping
to rest or IDLE at once (R72, R123; its reports are said where no report waits and the job is no SHEET job and its plan not
abandoned, so that none is displaced). A frame that is cut short by a gap or a stop-bit error changes nothing. -/
def Obligations.ArrivalsAreStoredOrOverrun : Prop :=
  (∀ (s : State) (l : LaneId) (f : List Byte), (s.lanes.get l).rx = .hunting → f.length = 18 → f.head? = some 0x3C →
    ((s.lanes.get l).fifo.length < 8 → exec (.arrival l f) s = .next (({ s with
        lanes := s.lanes.set l { s.lanes.get l with
          seq := ((s.lanes.get l).seq + 1) % 256
          fifo := (s.lanes.get l).fifo ++ [s.arrivalRec l f] } } : State).report
        (.arrival (s.arrivalRec l f) true ((s.lanes.get l).fifo.length + 1))).ended)
    ∧ (8 ≤ (s.lanes.get l).fifo.length → (s.lanes.get l).purging = true → exec (.arrival l f) s = .next (({ s with
        lanes := s.lanes.set l { s.lanes.get l with seq := ((s.lanes.get l).seq + 1) % 256 } } : State).report
        (.arrival (s.arrivalRec l f) false (s.lanes.get l).fifo.length)).ended)
    ∧ (8 ≤ (s.lanes.get l).fifo.length → (s.lanes.get l).purging = false → (s.lanes.get l).pick ≠ .front →
      exec (.arrival l f) s = .next ((({ s with
        lanes := s.lanes.set l { s.lanes.get l with
          seq := ((s.lanes.get l).seq + 1) % 256
          purging := true
          fifo := (s.lanes.get l).fifo.map (fun r => { r with purge := true }) } } : State).report
        (.arrival (s.arrivalRec l f) false (s.lanes.get l).fifo.length)).report
          (.lanePurge l .overrun (s.lanes.get l).fifo.length)).ended)
    ∧ (∀ r rest, 8 ≤ (s.lanes.get l).fifo.length → (s.lanes.get l).purging = false → (s.lanes.get l).pick = .front →
      (s.lanes.get l).fifo = r :: rest →
      (s.laneBound l = false → exec (.arrival l f) s = .next ((({ s with
        lanes := s.lanes.set l { s.lanes.get l with
          seq := ((s.lanes.get l).seq + 1) % 256
          purging := true
          pick := .releasing true .purge
          wait := 0
          fifo := { r with purge := true, disp := .runOff .purge } ::
            rest.map (fun r => { r with purge := true }) } } : State).report
        (.arrival (s.arrivalRec l f) false (rest.length + 1))).report (.lanePurge l .overrun (rest.length + 1))).ended)
      ∧ (s.laneBound l = true → ∃ u : State, exec (.arrival l f) s = .next u.settle ∧ u.job = none ∧ u.fixed = s.fixed
          ∧ u.gantry = s.gantry.cancelled
          ∧ u.lanes = s.lanes.set l { s.lanes.get l with
              seq := ((s.lanes.get l).seq + 1) % 256
              purging := true
              pick := .releasing true .purge
              wait := 0
              fifo := { r with purge := true, disp := .runOff .purge } ::
                rest.map (fun r => { r with purge := true }) }
          ∧ (s.link.reports = [] → (∀ j, s.job = some j → j.kind ≠ .sheet ∧ j.abandoned = false) →
              (u.link.reports.map Report.body).filter
                  (fun r => match r with | .arrival .. => true | .lanePurge .. => true | _ => false) =
                [.arrival (s.arrivalRec l f) false (rest.length + 1), .lanePurge l .overrun (rest.length + 1)]))))
  ∧ (∀ (s : State) (l : LaneId) (before : List Byte), (s.lanes.get l).rx = .hunting → before.length < 18 →
      before.head? = some 0x3C →
      exec (.scannerGapTimeout l before) s = .next s.ended ∧ exec (.scannerStopBitError l before) s = .next s.ended)

/-- The pick point (R1, R73 to R77). A case that arrives at an EMPTY one without a record, purge-marked or refused is released
with its reason, and an accepted one becomes the front case with a dispatch event. A case that leaves ends a release with its
RUN_OFF report, which in a purging lane with no record left and no case takes the lane back to RUN, ends a pick, or is a front
case taken by hand, which runs off as LOST_AT_PICK and cancels a job that claims it, its gantry ramping to rest or IDLE at once
(R123; its report is said there where no report waits and the job is no SHEET job and its plan not abandoned). At a pick point
that is not EMPTY no case arrives (R77); that the sensor then only changes its level is the model's (log 4), and so is the same
at an EMPTY one that a case leaves, and what LANE and the RUN_OFF of a case taken by hand carry (log 53). The changes have stood
for 2 ms (R1). -/
def Obligations.CasesArriveAtAndLeaveThePickPoint : Prop :=
  (∀ (s : State) (l : LaneId),
      (s.inputs.casePresent.get l = true → s.inputs.changing (.casePresent l) = none →
        exec (.casePresentOn l) s = .next s.ended)
      ∧ (s.inputs.casePresent.get l = false → s.inputs.missing (.casePresent l) = 0 →
        ∀ i, i = { s.inputs.noteEvent (.casePresent l) with casePresent := s.inputs.casePresent.set l true } →
        ((s.lanes.get l).pick ≠ .empty → exec (.casePresentOn l) s = .next ({ s with inputs := i } : State).ended)
        ∧ ((s.lanes.get l).pick = .empty →
          ((s.lanes.get l).fifo = [] → exec (.casePresentOn l) s = .next ({ s with
            inputs := i
            lanes := s.lanes.set l { s.lanes.get l with
              pick := .releasing false (if (s.lanes.get l).purging then .purge else .untracked), wait := 0 } }
            : State).ended)
          ∧ ∀ r rest, (s.lanes.get l).fifo = r :: rest →
            (∀ why, (r.disp = .runOff why ∨ r.disp = .accepted ∧ r.purge = true ∧ why = .purge) →
              exec (.casePresentOn l) s = .next ({ s with
                inputs := i
                lanes := s.lanes.set l { s.lanes.get l with
                  fifo := { r with disp := .runOff why } :: rest, pick := .releasing true why, wait := 0 } } : State).ended)
            ∧ (r.disp = .accepted → r.purge = false → exec (.casePresentOn l) s = .next ({ s with
                inputs := i
                lanes := s.lanes.set l { s.lanes.get l with pick := .front, wait := 0 }
                evalDue := true
                awaitDue := false } : State).settle))))
  ∧ (∀ (s : State) (l : LaneId),
      (s.inputs.casePresent.get l = false → s.inputs.changing (.casePresent l) = none →
        exec (.casePresentOff l) s = .next s.ended)
      ∧ (s.inputs.casePresent.get l = true → s.inputs.missing (.casePresent l) = 0 →
        ∀ i, i = { s.inputs.noteEvent (.casePresent l) with casePresent := s.inputs.casePresent.set l false } →
        ((s.lanes.get l).pick = .empty → exec (.casePresentOff l) s = .next ({ s with inputs := i } : State).ended)
        ∧ ((s.lanes.get l).pick = .picking → exec (.casePresentOff l) s = .next ({ s with
            inputs := i
            lanes := s.lanes.set l { s.lanes.get l with pick := .empty } } : State).ended)
        ∧ (∀ why, (s.lanes.get l).pick = .releasing false why → (s.lanes.get l).purging = true →
          (s.lanes.get l).fifo = [] → s.inputs.laneEmpty.get l = true →
          exec (.casePresentOff l) s = .next ((({ s with
            inputs := i
            lanes := s.lanes.set l { s.lanes.get l with pick := .empty, purging := false } } : State).report
              (.runOff l why none none none)).report (.laneRun l)).ended)
        ∧ (∀ why, (s.lanes.get l).pick = .releasing false why →
          ((s.lanes.get l).purging = false ∨ (s.lanes.get l).fifo ≠ [] ∨ s.inputs.laneEmpty.get l = false) →
          exec (.casePresentOff l) s = .next (({ s with
            inputs := i
            lanes := s.lanes.set l { s.lanes.get l with pick := .empty } } : State).report
              (.runOff l why none none none)).ended)
        ∧ (∀ why r rest, (s.lanes.get l).pick = .releasing true why → (s.lanes.get l).fifo = r :: rest →
          ((s.lanes.get l).purging = false ∨ rest ≠ [] ∨ s.inputs.laneEmpty.get l = false) →
          exec (.casePresentOff l) s = .next (({ s with
            inputs := i
            lanes := s.lanes.set l { s.lanes.get l with pick := .empty, fifo := rest } } : State).report
              (.runOff l why (some r.seq) r.code r.type)).ended)
        ∧ (∀ r why, (s.lanes.get l).pick = .releasing true why → (s.lanes.get l).fifo = [r] →
          (s.lanes.get l).purging = true → s.inputs.laneEmpty.get l = true →
          exec (.casePresentOff l) s = .next ((({ s with
            inputs := i
            lanes := s.lanes.set l { s.lanes.get l with pick := .empty, fifo := [], purging := false } } : State).report
              (.runOff l why (some r.seq) r.code r.type)).report (.laneRun l)).ended)
        ∧ (∀ r rest, (s.lanes.get l).pick = .front → (s.lanes.get l).fifo = r :: rest → (s.lanes.get l).purging = false →
          (s.laneBound l = false → exec (.casePresentOff l) s = .next (({ s with
            inputs := i
            lanes := s.lanes.set l { s.lanes.get l with pick := .empty, fifo := rest, wait := 0 } } : State).report
              (.runOff l .lostAtPick (some r.seq) r.code r.type)).ended)
          ∧ (s.laneBound l = true → ∃ u : State, exec (.casePresentOff l) s = .next u.settle ∧ u.job = none
            ∧ u.gantry = s.gantry.cancelled ∧ u.inputs = i ∧ u.lanes = s.lanes.set l { s.lanes.get l with pick := .empty, fifo := rest, wait := 0 }
            ∧ (s.link.reports = [] → (∀ j, s.job = some j → j.kind ≠ .sheet ∧ j.abandoned = false) →
              (u.link.reports.map Report.body).filter (fun r => match r with | .runOff .. => true | _ => false) =
                [.runOff l .lostAtPick (some r.seq) r.code r.type])))))

/-- ACCUMULATION_EMPTY (R73): a purging lane with no record, turning empty outside a release, returns to RUN. WAIT_EXPIRY
(R78, R79): a front case whose wait counts and stands at or above the wait limit is released as NOT_IN_PLAN or BUFFER_FULL;
one whose wait does not count, or has not reached the limit, stays, since its wait cannot expire (log 4). That the LANE report of
the return carries the lane alone is the model's choice (log 53). -/
def Obligations.LanesEndPurgesAndWaits : Prop :=
  (∀ (s : State) (l : LaneId) (e : Bool),
    (s.inputs.laneEmpty.get l = e → s.inputs.changing (.laneEmpty l) = none →
      exec (.accumulationEmpty l e) s = .next s.ended)
    ∧ (s.inputs.laneEmpty.get l ≠ e → s.inputs.missing (.laneEmpty l) = 0 →
      ∀ i, i = { s.inputs.noteEvent (.laneEmpty l) with laneEmpty := s.inputs.laneEmpty.set l e } →
      (e = false ∨ (s.lanes.get l).purging = false ∨ (s.lanes.get l).fifo ≠ []
          ∨ (∃ h why, (s.lanes.get l).pick = .releasing h why) →
        exec (.accumulationEmpty l e) s = .next ({ s with inputs := i } : State).ended)
      ∧ (e = true → (s.lanes.get l).purging = true → (s.lanes.get l).fifo = [] →
        (∀ h why, (s.lanes.get l).pick ≠ .releasing h why) → exec (.accumulationEmpty l e) s =
          .next (({ s with
            inputs := i
            lanes := s.lanes.set l { s.lanes.get l with purging := false } } : State).report (.laneRun l)).ended)))
  ∧ (∀ (s : State) (l : LaneId),
    (s.waitCounts l = false ∨ (s.lanes.get l).wait < 1000 * s.gantry.waitLimit →
      exec (.waitExpiry l) s = .next s.ended)
    ∧ (∀ r rest, s.waitCounts l = true → 1000 * s.gantry.waitLimit ≤ (s.lanes.get l).wait →
      (s.lanes.get l).fifo = r :: rest → ∀ why,
      why = (if s.wantedRec r then .bufferFull else .notInPlan) → exec (.waitExpiry l) s = .next ({ s with
        lanes := s.lanes.set l { s.lanes.get l with
          fifo := { r with disp := .runOff why } :: rest, pick := .releasing true why, wait := 0 } } : State).ended))

/-- SLOT_PRESENCE (R81, R82, R83, R99, R103) and SPILL_TABLE_CLEARED (R85): presence on an EMPTY slot makes it BLOCKED, presence
leaving a HELD slot empties it, each with its SLOT report and a dispatch event. A job that had the slot for its destination and
one that claims the HELD case are cancelled before the grip, the gantry ramping to rest or IDLE at once (R123). A job that
carries its case to the slot chooses a destination again: in PICK_UP the rise goes on, and in TRAVEL the axes ramp to rest
(State.TakesDestination; that a job which then waits has the phase TRAVEL is log 15's choice, the ramp is log 38's reading, and
the old turn of T log 56's choice). In SET_DOWN and RELEASE on the slot itself the presence changes no state (R83,
settingDownOn), so that no destination is lost there. The spill input turning active sets the count to 0. What the SLOT reports
carry beyond slot and cause is the model's choice where R83 does not name it (log 53). -/
def Obligations.ShelfAndSpillInputsChangeTheirStores : Prop :=
  (∀ (s : State) (i : SlotId) (on : Bool),
    (s.inputs.slotPresence[i] = on → s.inputs.changing (.slot i) = none → exec (.slotPresence i on) s = .next s.ended)
    ∧ (s.inputs.slotPresence[i] ≠ on → s.inputs.missing (.slot i) = 0 →
      ∀ p, p = { s.inputs.noteEvent (.slot i) with slotPresence := s.inputs.slotPresence.set i on } →
      (on = true → (s.slots[i] = .blocked ∨ (∃ r n m, s.slots[i] = .held r n m)
          ∨ (∃ m, s.slots[i] = .empty m) ∧ s.settingDownOn i = true) →
        exec (.slotPresence i on) s = .next ({ s with inputs := p } : State).ended)
      ∧ (on = true → (∀ j, s.job = some j → j.dest ≠ some (.slot i)) → ∀ m, s.slots[i] = .empty m → exec (.slotPresence i on) s = .next
        (({ s with
          inputs := p
          slots := s.slots.set i .blocked
          evalDue := true
          awaitDue := true } : State).report (.slot i .blocked .presence none)).settle)
      ∧ (on = false → s.slots[i] = .blocked → exec (.slotPresence i on) s = .next ({ s with inputs := p } : State).ended)
      ∧ (on = false → ∀ m, s.slots[i] = .empty m → exec (.slotPresence i on) s =
        .next ({ s with inputs := p, slots := s.slots.set i (.empty false) } : State).ended)
      ∧ (on = false → s.slotBound i = false → ∀ r n m, s.slots[i] = .held r n m → exec (.slotPresence i on) s = .next
        (({ s with
          inputs := p
          slots := s.slots.set i (.empty false)
          evalDue := true
          awaitDue := true } : State).report (.slot i .empty .removed (some ⟨r.lane, r.seq, r.type⟩))).settle)
      ∧ (on = false → s.slotBound i = true → ∀ r n m, s.slots[i] = .held r n m → ∃ u : State,
        exec (.slotPresence i on) s = .next u.settle ∧ u.job = none ∧ u.slots[i] = .empty false ∧ u.inputs = p
          ∧ u.gantry = s.gantry.cancelled)
      ∧ ∀ j m, on = true → s.slots[i] = .empty m → s.job = some j → j.dest = some (.slot i) →
        (j.gripped = false → s.settingDownOn i = false → ∃ u : State, exec (.slotPresence i on) s = .next u.settle
          ∧ u.job = none ∧ u.slots[i] = .blocked ∧ u.inputs = p ∧ u.gantry = s.gantry.cancelled)
        ∧ (∀ item, j.gripped = true → j.releaseBegun = false → s.settingDownOn i = false → j.carried = some item →
            s.gantry.state = .busy → ∃ u : State, exec (.slotPresence i on) s = .next u.settle
          ∧ u.slots[i] = .blocked ∧ u.inputs = p
          ∧ s.TakesDestination u { j with
              kind := (match j.kind, u.chooseDest item with
                | .put, some (.slot _) => .put
                | _, _ => .putaway)
              dest := u.chooseDest item, spillK := none })
        ∧ (∀ item, j.gripped = true → j.phase = .pickUp → j.carried = some item → s.gantry.state = .busy →
            s.inputs.limitHigh.z = false → ∃ u : State, exec (.slotPresence i on) s = .next u.settle
          ∧ u.slots[i] = .blocked ∧ u.inputs = p
          ∧ u.job = some { j with
              kind := (match j.kind, u.chooseDest item with
                | .put, some (.slot _) => .put
                | _, _ => .putaway)
              dest := u.chooseDest item, spillK := none
              phase := if u.chooseDest item = none then .travel else .pickUp }
          ∧ u.gantry.state = (if u.chooseDest item = none then .awaitPutaway else .busy))))
  ∧ (∀ (s : State) (active : Bool),
    (s.inputs.spillCleared = active → s.inputs.changing .spillCleared = none →
      exec (.spillTableCleared active) s = .next s.ended)
    ∧ (s.inputs.spillCleared = true → active = false → s.inputs.missing .spillCleared = 0 →
      exec (.spillTableCleared active) s =
        .next ({ s with inputs := { s.inputs.noteEvent .spillCleared with spillCleared := false } } : State).ended)
    ∧ (s.inputs.spillCleared = false → active = true → s.inputs.missing .spillCleared = 0 →
      exec (.spillTableCleared active) s = .next ({ s with
      inputs := { s.inputs.noteEvent .spillCleared with spillCleared := true }
      spill := 0
      evalDue := true
      awaitDue := true } : State).settle))
/-! ### Sweeps and the admission walk -/

/-- WALK_END (R59, R60): the verdict of the walk is cached, unless its candidate is no longer PENDING or its sheet no longer
due; the next walk starts, or the sweep ends with a dispatch event and the stall test (R105), which sets or clears the stall
mark and reports STALL where it is set anew. That a stall needs a refusing verdict is read from R105 by log 23. Without a
running sweep nothing changes (log 4). -/
def Obligations.WalkEndCachesTheVerdictAndGoesOn : Prop :=
  ∀ (s : State) (st : StationId),
    ((s.stack.get st).sweep.state ≠ .running → exec (.walkEnd st) s = .next s.ended)
    ∧ (∀ id, s.walkOf st (.placement id) =
        match (s.plan.get st).find? id with
        | some q => if q.state = .pending then
            (s.dir.placementLoad q).map (fun c => (s.stack.get st).walk c (s.reservedWeight st)) else none
        | none => none)
    ∧ (s.walkOf st .sheet = if (s.plan.get st).sheetDue then
        some ((s.stack.get st).walk (sheetLoad (s.stack.get st).limits.foot) (s.reservedWeight st)) else none)
    ∧ ∀ (c : Cand) (rest : List Cand) (w : State), (s.stack.get st).sweep = ⟨.running, c :: rest⟩ →
      w = (match s.walkOf st c, c with
        | none, _ => s
        | some v, .sheet => { s with stack := s.stack.set st { s.stack.get st with sheetVerdict := v } }
        | some v, .placement id => { s with
            plan := s.plan.set st ((s.plan.get st).modify id (fun q => { q with verdict := v })) }) →
      (rest ≠ [] → exec (.walkEnd st) s = .next
        ({ w with stack := w.stack.set st { w.stack.get st with sweep := ⟨.running, rest⟩ } } : State).ended)
      ∧ (rest = [] → ∃ u : State, exec (.walkEnd st) s = .next u.settle
        ∧ u = { w with
            stack := w.stack.set st { w.stack.get st with sweep := ⟨.idle, []⟩ }
            stall := u.stall, link := u.link, evalDue := true, awaitDue := false }
        ∧ u.stall = s.stall.set st (u.stalled st)
        ∧ (u.stalled st = true ↔ (s.stn.get st).mode = .plain .building ∧ s.boundTo st = false
            ∧ (if (w.plan.get st).sheetDue then (w.stack.get st).sheetVerdict.refusing = true
              else (∀ q ∈ (w.plan.get st).eligiblePending, q.verdict.admits = false)
                ∧ ∃ q ∈ (w.plan.get st).eligiblePending, q.verdict.refusing = true))
        ∧ (u.stalled st = false ∨ s.stall.get st = true → u.link = s.link)
        ∧ (∀ d v l ls, u.stalled st = true → s.stall.get st = false → u.firstRefusing st = some (d, v) →
            (w.plan.get st).queue = l :: ls →
            u.link = (s.report (.stall st l.tag d v (w.plan.get st).eligiblePending.length)).link))

/-- The stages of the admission walk in their order (R43, R45, R46, R47, R48, R51), the base and bearing cells as R44 has
them: the base is the largest height over the cells, a footprint with a cell has a bearing cell, and where the base is no higher
than the tolerance every cell bears. The support list is the one of R48, the distinct top references with their shares, DECK first
and the entries by rising index, the shares adding up to the bearing count; that every reference of the map names an entry of the
table is a law of the stack (StackLawsAreKeptByEveryStep). The reserved weight is that of the outstanding reservation, and 0
without one (R47). The top that a commit will record is base and height (R46). -/
def Obligations.WalkStagesFailInOrder : Prop :=
  (∀ (k : Stack) (c : Load) (reserved : Nat), 160 ≤ k.table.length → k.walk c reserved = .tableFull)
  ∧ (∀ (k : Stack) (c : Load) (reserved : Nat) (cells bear : List Cell) (b : Nat), k.table.length < 160 →
    cells = k.cellsOf c.i0 c.j0 c.mi c.mj → b = (cells.map Cell.h).foldl max 0 →
    bear = cells.filter (fun x => decide (b ≤ x.h + k.limits.tol)) →
    (∀ x ∈ cells, x.h ≤ b) ∧ (cells ≠ [] → (∃ x ∈ cells, x.h = b) ∧ 1 ≤ bear.length)
    ∧ (b ≤ k.limits.tol → bear = cells)
    ∧ (100 * bear.length < c.smin * (c.mi * c.mj) → k.walk c reserved = .overhang)
    ∧ (c.smin * (c.mi * c.mj) ≤ 100 * bear.length →
      (k.limits.hMax < b + c.hei → k.walk c reserved = .height)
      ∧ (b + c.hei ≤ k.limits.hMax →
        (k.limits.gMax < k.gross + c.wd + reserved → k.walk c reserved = .gross)
        ∧ (k.gross + c.wd + reserved ≤ k.limits.gMax → (∀ x ∈ bear, ∀ i, x.ref = .entry i → i < k.table.length) →
          ∃ sup : List (Ref × Nat), SupportsFor bear sup ∧ (sup.map Prod.snd).sum = bear.length
            ∧ (48 < sup.length → k.walk c reserved = .spread)
            ∧ (sup.length ≤ 48 → (∃ e n, k.walk c reserved = .crush e n)
              ∨ ∃ loads, k.walk c reserved = .admitted ⟨loads, b, bear.length, sup, c.wd⟩)))))
  ∧ (∀ (s : State) (st : StationId), s.reservedWeight st = (match s.outstanding st with | none => 0 | some r => r.wd))
  ∧ (∀ (p : Placement) (t : CaseType) (r : WalkResult) (m : Nat), (caseEntry p t r m).top = r.base + t.hei)
  ∧ (∀ (f : Footprint) (r : WalkResult), (sheetEntry f r).top = r.base + 2)

/-- The first-level loads and the walk-down (R49, R50, R51). On a stack whose supports lie below what they carry, `load i` is
all the load that reaches entry i, by every path: the share of the candidate, and what each entry hands on of its own whole
load. Where every load is within its allowance the verdict is ADMIT, with the entries that took load, in the order of descending
base and rising index, and the support list of R48; otherwise it is CRUSH, with the first entry of that order that fails and its
shortfall. That supports lie below what they carry, and that the map refers to entries of the table, are laws of the stack
(StackLawsAreKeptByEveryStep). -/
def Obligations.WalkDownSumsTheLoadsAndNamesTheFirstFailure : Prop :=
  ∀ (k : Stack) (c : Load) (reserved : Nat) (cells bear : List Cell) (b : Nat) (load : Nat → Nat),
    k.table.length < 160 → cells = k.cellsOf c.i0 c.j0 c.mi c.mj → b = (cells.map Cell.h).foldl max 0 →
    bear = cells.filter (fun x => decide (b ≤ x.h + k.limits.tol)) → c.smin * (c.mi * c.mj) ≤ 100 * bear.length →
    b + c.hei ≤ k.limits.hMax → k.gross + c.wd + reserved ≤ k.limits.gMax →
    (∀ x ∈ bear, ∀ i, x.ref = .entry i → i < k.table.length) →
    ∀ sup : List (Ref × Nat), SupportsFor bear sup → sup.length ≤ 48 →
    (∀ e ∈ k.table, ∀ x ∈ e.supports, ∀ i, x.1 = .entry i → ∃ y, k.table[i]? = some y ∧ y.base < e.base) →
    k.Loads bear (ceilDiv c.wd bear.length) load →
    ((∀ i e, k.table[i]? = some e → load i ≤ e.allow) → ∃ loads : List (Nat × Nat),
      k.walk c reserved = .admitted ⟨loads, b, bear.length, sup, c.wd⟩
      ∧ (∀ i n, (i, n) ∈ loads ↔ i < k.table.length ∧ n = load i ∧ 0 < n)
      ∧ loads.Pairwise (fun x y => k.TakenBefore x.1 y.1))
    ∧ ∀ i e, k.table[i]? = some e → e.allow < load i →
      (∀ j f, k.table[j]? = some f → k.TakenBefore j i → load j ≤ f.allow) →
      k.walk c reserved = .crush i (load i - e.allow)

/-- The laws of a commit (R36, R38, R40, R41, R46, R47, R50, R52): what an admitted walk reserved is committed within the height
limit, the gross limit, the 160 entries of the table and every allowance, each entry losing exactly the load the reservation
names. The map is set to the new top over the new entry's footprint and kept elsewhere, so that its heights stay within the height
limit, and the highest top takes in the new one. -/
def Obligations.AdmittedCommitStaysWithinLimits : Prop :=
  ∀ (k : Stack) (c : Load) (reserved measured : Nat) (r : WalkResult) (e : Entry), k.walk c reserved = .admitted r →
    e.weight = min (max measured 1) r.wd →
    r.wd = c.wd ∧ r.base + c.hei ≤ k.limits.hMax
    ∧ (k.commit r e).map.length = k.map.length ∧ (k.commit r e).highest = max k.highest e.top
    ∧ (∀ n x, k.map[n]? = some x →
      (e.Covers k.limits.foot n → (k.commit r e).map[n]? = some ⟨e.top, .entry k.table.length⟩)
      ∧ (¬e.Covers k.limits.foot n → (k.commit r e).map[n]? = some x))
    ∧ (e.top = r.base + c.hei → (∀ x ∈ k.map, x.h ≤ k.limits.hMax) → ∀ x ∈ (k.commit r e).map, x.h ≤ k.limits.hMax)
    ∧ (k.commit r e).gross = k.gross + e.weight ∧ (k.commit r e).gross ≤ k.limits.gMax
    ∧ (k.commit r e).table.length = k.table.length + 1 ∧ (k.commit r e).table.length ≤ 160
    ∧ (∀ q ∈ r.loads, 0 < q.2 ∧ ∃ x, k.table[q.1]? = some x ∧ q.2 ≤ x.allow)
    ∧ ∀ i x, k.table[i]? = some x → ∃ y, (k.commit r e).table[i]? = some y
        ∧ y = { x with allow := y.allow }
        ∧ x.allow = y.allow + ((r.loads.filter (fun q => q.1 == i)).map Prod.snd).sum

/-! ### Gantry events -/

/-- The plan of a move (R113, R114, R115, R128): start speed, peak and ramps of a LINEAR move under the top speed of its axis
and, where the warning field is active, the cap, triangular where the distance is short; an S_CURVE move is planned, and brought
to rest, as the LINEAR one with the same fields; a TABLE move runs the steps below its top speed and, where it is short, has the
speed of the first step whose sum reaches half the distance; a descent is a profile move over what lies beyond the set-down
distance and a creep over that at the set-down speed. A move starts with that plan where nothing stands in its way, and over no
distance there is none. -/
def Obligations.MovesArePlannedFromDistanceAndProfile : Prop :=
  (∀ (cap : Bool) (a : LinAxis) (p : Profile) (x y : Int) (v0 vt pr top full d : Nat) (m : Move),
    (p = .linear v0 vt pr ∨ p = .sCurve v0 vt pr) → v0 < vt → vt ≤ 1500 → 0 < pr →
    top = min vt (min (if a = .Z then 1000 else 1500) (if cap then 250 else 1500)) → d = distance x y →
    m = newMove cap a p x y →
    m.target = y ∧ m.goal = y ∧ m.plan.start = min v0 top ∧ m.plan.creepDist = 0
    ∧ (top < v0 → m.plan.peak = top ∧ m.plan.ramp = m.base)
    ∧ (v0 ≤ top → (top * top - v0 * v0) * pr ≤ full * (vt * vt - v0 * v0) →
      full * (vt * vt - v0 * v0) < (top * top - v0 * v0) * pr + (vt * vt - v0 * v0) →
      m.base = 0 ∧ (top = vt → full = pr) ∧ (2 * full ≤ d → m.plan.peak = top ∧ m.plan.ramp = full)
      ∧ (d < 2 * full → ∃ q, m.plan.peak = min top q
          ∧ q * q * (2 * pr) ≤ v0 * v0 * (2 * pr) + (vt * vt - v0 * v0) * d
          ∧ v0 * v0 * (2 * pr) + (vt * vt - v0 * v0) * d < (q + 1) * (q + 1) * (2 * pr))))
  ∧ (∀ (v0 vt pr : Nat),
    (∀ (cap : Bool) (a : LinAxis) (x y : Int), newMove cap a (.sCurve v0 vt pr) x y =
      { newMove cap a (.linear v0 vt pr) x y with profile := .sCurve v0 vt pr })
    ∧ ∀ (m : Move) (pos : Int), m.profile = .sCurve v0 vt pr →
      m.rest pos = ({ m with profile := .linear v0 vt pr } : Move).rest pos
      ∧ m.final pos = ({ m with profile := .linear v0 vt pr } : Move).final pos)
  ∧ (∀ (cap : Bool) (a : LinAxis) (steps kept : List (Nat × Nat)) (x y : Int) (last : Nat × Nat) (top full d : Nat) (m : Move),
    steps.Pairwise (fun p q => p.1 < q.1) → steps.getLast? = some last →
    top = min (if a = .Z then 1000 else 1500) (if cap then 250 else 1500) →
    kept = (if last.1 ≤ top then steps else steps.filter (fun q => decide (q.1 < top))) →
    full = (kept.map Prod.snd).sum → d = distance x y → m = newMove cap a (.table steps) x y →
    m.target = y ∧ m.goal = y ∧ m.plan.creepDist = 0
    ∧ m.plan.start = (match kept with | [] => top | q :: _ => q.1)
    ∧ (2 * full ≤ d → m.plan.peak = min last.1 top ∧ m.plan.ramp = full)
    ∧ ∀ before q after, kept = before ++ q :: after → d < 2 * full →
      2 * (before.map Prod.snd).sum < d → d ≤ 2 * ((before.map Prod.snd).sum + q.2) → m.plan.peak = q.1)
  ∧ (∀ (cap : Bool) (p : Profile) (speed sd : Nat) (x x' y : Int), distance x' y = distance x y - min sd (distance x y) →
    (newDescent cap p speed sd x y).target = y
    ∧ (newDescent cap p speed sd x y).plan = { (newMove cap .Z p x' y).plan with
        creepDist := min sd (distance x y), creepSpeed := if cap then min speed 250 else speed })
  ∧ (∀ (s : State) (a : LinAxis) (p : Profile) (y : Int), (∀ side, s.inputs.limit a side = false) →
    (a = .X → ∀ st, s.inputs.curtain.get st = false) →
    ((s.gantry.axes.get a).at = y → s.startMove a p y = (s, true))
    ∧ ((s.gantry.axes.get a).at ≠ y → s.startMove a p y = ({ s with gantry := { s.gantry with
        axes := s.gantry.axes.set a { s.gantry.axes.get a with
          move := some (newMove s.inputs.warning a p (s.gantry.axes.get a).at y) } } }, true)))

/-- MOVE_END (R113, R115, R119 to R122, R138): the axis stands at its target, or where a ramp to rest ends its move; while
another axis moves nothing follows; a wrist whose switch disagrees is a fault STUCK. When the last axis is at rest the next
phase begins: the rise of APPROACH ends in the XY travel to the source, that travel in the descent to the source, PICK_DOWN in
the grip, the rise of PICK_UP and that of TRAVEL in the XY travel to the destination with Z at rest, TRAVEL in the descent to
the destination, SET_DOWN in the release, and CLEAR in the end of the job with the gantry IDLE, which is the end of the queue of
a BUILDING station with no layer left (R29; what the end of a job whose grip failed does beside is said by
FailedGripsGiveUpTheirSource). The places are those of the table of R119, and the moves those of
MovesArePlannedFromDistanceAndProfile. What a ramp to rest ends in is said by RampsToRestEndAsTheirCauseSays. A MOVE_END names
one axis (log 12), and of an axis at rest it cannot arise (log 4); where a ramp to rest ends is log 9's reading. That T stays at
the position it left while it turns, and stands at the target of its move at the end, also with the fault STUCK, is log 37's
choice. That PICK_DOWN ends in GRIPPING with try 1 whatever the used zones read already is log 41's choice, and that the k of
the spill table stands from the start of the first travel toward it is log 19's reading. -/
def Obligations.MoveEndPutsTheAxisAtItsTarget : Prop :=
  (∀ (s : State) (a : LinAxis), (s.gantry.axes.get a).move = none → exec (.moveEnd (.lin a)) s = .next s.ended)
  ∧ (∀ s : State, s.gantry.t.move = none → exec (.moveEnd .T) s = .next s.ended)
  ∧ (∀ (s : State) (a : LinAxis) (m : Move) (g : Gantry), (s.gantry.axes.get a).move = some m →
      g = { s.gantry with axes := s.gantry.axes.set a { s.gantry.axes.get a with
        counter := some m.goal, move := none } } →
      (g.moving = true → exec (.moveEnd (.lin a)) s = .next ({ s with gantry := g } : State).ended)
      ∧ (∃ u : State, exec (.moveEnd (.lin a)) s = .next u.settle
        ∧ (u.gantry.axes.get a).counter = some m.goal ∧ u.fixed = s.fixed)
      ∧ (∀ j, g.moving = false → g.motion = .descent → s.job = some j → j.phase = .pickDown →
        s.gripper.state = .idle → (s.gripNeeds (s.sourceCase j)).2 ≤
          zoneCount (s.gripper.usable (s.gripNeeds (s.sourceCase j)).1) →
        ∃ u : State, exec (.moveEnd (.lin a)) s = .next u.settle
          ∧ u = { s with
              gantry := { g with motion := .none }
              gripper := u.gripper
              job := some { j with phase := .grip }
              evalDue := false
              awaitDue := false }
          ∧ u.gripper.state = .gripping ∧ u.gripper.attempt = 1 ∧ u.gripper.timer = some s.gripper.set.gripMs
          ∧ u.gripper.used = s.gripper.usable (s.gripNeeds (s.sourceCase j)).1
          ∧ u.gripper.counter = s.gripper.counter ∧ u.gripper.set = s.gripper.set)
      ∧ (∀ j, g.moving = false → s.job = some j → (∀ b side, s.inputs.limit b side = false) →
        (∀ z : Int, g.axes.z.at ≠ z →
          (g.motion = .travel ∧ j.phase = .approach ∧ z = s.sourceZ j
            ∨ g.motion = .travel ∧ j.phase = .travel ∧ ∃ d, j.dest = some d ∧ z = s.destZ j d) →
          ∃ (u : State) (d : Move), exec (.moveEnd (.lin a)) s = .next u.settle
            ∧ u = { s with
                gantry := { g with motion := .descent, axes := { g.axes with z := { g.axes.z with move := some d } } }
                job := some { j with phase := if j.phase = .approach then .pickDown else .setDown }
                evalDue := false
                awaitDue := false }
            ∧ d.target = z ∧ d.goal = z ∧ d.plan.creepDist = min j.dist (distance g.axes.z.at z)
            ∧ d = newDescent s.inputs.warning (s.gantry.profileOf j.laden) j.speed j.dist g.axes.z.at z)
        ∧ (∀ xy, g.motion = .rise → j.phase = .approach → (∀ st, s.inputs.curtain.get st = false) →
          xy = s.sourceXY j → g.axes.x.at ≠ xy.1 →
          ∃ u : State, exec (.moveEnd (.lin a)) s = .next u.settle
            ∧ u = { s with gantry := u.gantry, evalDue := false, awaitDue := false }
            ∧ u.gantry.motion = .travel ∧ u.gantry.axes.z = g.axes.z
            ∧ u.gantry.axes.x = { g.axes.x with
                move := some (newMove s.inputs.warning .X (s.gantry.profileOf j.unladen) g.axes.x.at xy.1) }
            ∧ (g.axes.y.at = xy.2 → u.gantry.axes.y = g.axes.y)
            ∧ (g.axes.y.at ≠ xy.2 → u.gantry.axes.y = { g.axes.y with
                move := some (newMove s.inputs.warning .Y (s.gantry.profileOf j.unladen) g.axes.y.at xy.2) })
            ∧ u.gantry.t = (if g.t.pos = some .t0 then g.t else { g.t with move := some .t0 }))
        ∧ (∀ d j' xy, g.motion = .rise → (j.phase = .pickUp ∨ j.phase = .travel ∧ s.gantry.state = .busy) →
          j.dest = some d →
          (∀ st, s.inputs.curtain.get st = false) →
          j' = { j with
            phase := .travel
            spillK := if d = .spill ∧ j.spillK = none then some s.spill else j.spillK } →
          xy = s.destXY j' d → g.axes.x.at ≠ xy.1 →
          ∃ u : State, exec (.moveEnd (.lin a)) s = .next u.settle
            ∧ u = { s with gantry := u.gantry, job := some j', evalDue := false, awaitDue := false }
            ∧ u.gantry.motion = .travel ∧ u.gantry.axes.z = g.axes.z
            ∧ (∃ mx, u.gantry.axes.x = { g.axes.x with move := some mx } ∧ mx.target = xy.1 ∧ mx.goal = xy.1
                ∧ mx = newMove s.inputs.warning .X (s.gantry.profileOf j.laden) g.axes.x.at xy.1)
            ∧ (g.axes.y.at = xy.2 → u.gantry.axes.y = g.axes.y)
            ∧ (g.axes.y.at ≠ xy.2 →
                ∃ my, u.gantry.axes.y = { g.axes.y with move := some my } ∧ my.target = xy.2
                  ∧ my.goal = xy.2 ∧ my = newMove s.inputs.warning .Y (s.gantry.profileOf j.laden) g.axes.y.at xy.2)
            ∧ u.gantry.t = (if g.t.pos = some j.turn then g.t else { g.t with move := some j.turn }))
        ∧ (g.motion = .descent → j.phase = .setDown → s.gripper.state = .holding →
          ∃ u : State, exec (.moveEnd (.lin a)) s = .next u.settle
            ∧ u = { s with
                gantry := { g with motion := .none }
                gripper := u.gripper
                job := some { j with phase := .release }
                evalDue := false
                awaitDue := false }
            ∧ u.gripper.state = .releasing ∧ u.gripper.attempt = 1 ∧ u.gripper.timer = some s.gripper.set.releaseMs
            ∧ ∀ z, u.gripper.zones.get z = if s.gripper.used.get z && !(s.gripper.zones.get z).faulted
                then ⟨.off, true, false⟩ else s.gripper.zones.get z)
        ∧ (g.motion = .rise → j.phase = .clear →
          ∃ u : State, exec (.moveEnd (.lin a)) s = .next u.settle ∧ u.job = none ∧ u.gantry.state = .idle
            ∧ u.gantry.moving = false ∧ u.evalDue = true
            ∧ ∀ st, j.station = some st → (j.gripFailed = false ∨ j.gripped = true) → (u.stn.get st).mode =
              if (s.stn.get st).mode = .plain .building ∧ (u.plan.get st).queue = []
                then .plain (if (s.plan.get st).closed then .complete else .idle) else (s.stn.get st).mode)))
  ∧ (∀ s : State, s.travelHeight = min 3200 (max (max s.stack.a.highest s.stack.b.highest) s.gantry.geometry.fixture
      + s.gantry.clearance + s.carriedHeight))
  ∧ (∀ (s : State) (j : Job) (g : Geometry) (c : ArrivalRec) (m : Measured), g = s.gantry.geometry → c.meas = some m →
      (j.gripped = false → j.carried = none →
        (∀ l rest, j.source = .lane l → (s.lanes.get l).fifo = c :: rest →
          s.sourceXY j = (((g.pick.get l).x : Int) - ((m.len / 2 : Nat) : Int), ((g.pick.get l).y : Int))
          ∧ s.sourceZ j = ((g.pick.get l).h : Int) + m.hei)
        ∧ (∀ i n k, j.source = .slot i → s.slots[i] = .held c n k →
          s.sourceXY j = ((g.slots[i].x : Int), (g.slots[i].y : Int)) ∧ s.sourceZ j = (g.slots[i].h : Int) + m.hei))
      ∧ (j.source = .magazine → s.sourceXY j = ((g.magazine.x : Int), (g.magazine.y : Int))
          ∧ s.sourceZ j = (g.magazine.h : Int) + 2 * s.magazine)
      ∧ (j.carried = some (.case c) →
        (∀ st id p r, (s.plan.get st).find? id = some p → j.reservation = some r →
          s.destXY j (.placement st id) =
            ((g.originX.get st : Int) + 50 * p.i0 + 25 * p.cx, (g.originY.get st : Int) + 50 * p.j0 + 25 * p.cy)
          ∧ s.destZ j (.placement st id) = (r.base : Int) + m.hei)
        ∧ (∀ i, s.destXY j (.slot i) = ((g.slots[i].x : Int), (g.slots[i].y : Int))
          ∧ s.destZ j (.slot i) = (g.slots[i].h : Int) + m.hei)
        ∧ (∀ k, j.spillK = some k → s.destXY j .spill = ((g.spill.x : Int) + 400 * k, (g.spill.y : Int)))
        ∧ s.destZ j .spill = (g.spill.h : Int) + m.hei)
      ∧ (j.carried = some .sheet → s.destZ j .spill = (g.spill.h : Int) + 2
        ∧ ∀ st r, j.reservation = some r → s.destZ j (.sheet st) = (r.base : Int) + 2
          ∧ s.destXY j (.sheet st) = (match (s.stack.get st).limits.foot with
            | .full => ((g.originX.get st : Int) + 600, (g.originY.get st : Int) + 400)
            | .half => ((g.originX.get st : Int) + 400, (g.originY.get st : Int) + 300))))
  ∧ (∀ (s : State) (t : Turn) (g : Gantry), s.gantry.t.move = some t →
      g = { s.gantry with t := { s.gantry.t with pos := some t, move := none } } →
      (s.inputs.homeT = decide (t = .t0) → g.moving = true →
        exec (.moveEnd .T) s = .next ({ s with gantry := g } : State).ended)
      ∧ (s.inputs.homeT ≠ decide (t = .t0) → ∃ u : State, exec (.moveEnd .T) s = .next u.settle
        ∧ u = { s with gantry := u.gantry, link := u.link, evalDue := false, awaitDue := false }
        ∧ u.gantry.state = .faulted .stuck ∧ u.gantry.moving = false ∧ u.gantry.counters = s.gantry.counters))

/-- The end of a ramp to rest (R123, R125, R126), of a linear axis or of T, once no axis moves. After a cancel the BUSY gantry
becomes IDLE. After a ramped stop it becomes STOPPED with the job retained, at the start of the next phase where the motion
ended its phase; a CLEAR that ends so ends the job; a change of destination that came meanwhile is taken then (log 17), and the
phase of a job that is left without one is TRAVEL (log 15); without a job the gantry is IDLE at once (log 49). A job that is
planned again, after a change of its destination or by a RESUME taken in STOPPING, has the travel height computed afresh and
rises to it where Z stands below (log 38), and goes on in XY to its destination where not; that this waits for the old turn of T
after a change of the destination, or its loss, is log 56's choice. A gantry without a destination waits
on in AWAIT_PUTAWAY, and rises while the cell runs; so it does where a RESUME came while a ramped stop brought its rise to rest,
with no STOPPED between (log 50). -/
def Obligations.RampsToRestEndAsTheirCauseSays : Prop :=
  ∀ (s : State) (x : Axis) (g : Gantry),
    ((∃ a m, x = .lin a ∧ (s.gantry.axes.get a).move = some m ∧ g = { s.gantry with
        axes := s.gantry.axes.set a { s.gantry.axes.get a with counter := some m.goal, move := none } })
      ∨ ∃ t, x = .T ∧ s.gantry.t.move = some t ∧ s.inputs.homeT = decide (t = .t0) ∧ g = { s.gantry with
        t := { s.gantry.t with pos := some t, move := none } }) →
    g.moving = false →
    (g.motion = .toRest .cancel → s.gantry.state = .busy → ∃ u : State, exec (.moveEnd x) s = .next u.settle
      ∧ u = { s with
          gantry := { g with motion := .none, state := .idle }, link := u.link, evalDue := true, awaitDue := false })
    ∧ (∀ d, g.motion = .toRest (.stop d) → s.job = none → s.gantry.state = .stopping →
      ∃ u : State, exec (.moveEnd x) s = .next u.settle
        ∧ u = { s with
            gantry := { g with motion := .none, heldChange := false, state := .idle }
            link := u.link, evalDue := true, awaitDue := false })
    ∧ (∀ j d phase, g.motion = .toRest (.stop d) → s.job = some j → s.cell.run.going = false →
      (s.gantry.state = .stopping ∨ s.gantry.state = .awaitPutaway) →
      (d = false ∧ phase = j.phase ∨ d = true ∧ (j.phase = .approach ∧ phase = .pickDown
        ∨ j.phase = .pickDown ∧ phase = .grip ∨ j.phase = .pickUp ∧ phase = .travel
        ∨ j.phase = .travel ∧ phase = .setDown ∨ j.phase = .setDown ∧ phase = .release)) →
      (s.gantry.heldChange = false → ∃ u : State, exec (.moveEnd x) s = .next u.settle
        ∧ u = { s with
            gantry := { g with motion := .none, state := .stopped }
            job := some { j with phase := phase }
            link := u.link, evalDue := false, awaitDue := false })
      ∧ (s.gantry.heldChange = true → s.lossZone? = none → ∃ u : State, exec (.moveEnd x) s = .next u.settle
        ∧ u = { s with
            gantry := { g with
              motion := .none, heldChange := false, state := if j.dest = none then .awaitPutaway else .stopped }
            job := some { j with phase := if j.dest = none ∨ phase = .setDown ∨ phase = .release then .travel else phase }
            link := u.link, evalDue := false, awaitDue := false }))
    ∧ (∀ j, g.motion = .toRest (.stop true) → s.job = some j → j.phase = .clear → s.gantry.state = .stopping →
      ∃ u : State, exec (.moveEnd x) s = .next u.settle ∧ u.job = none ∧ u.gantry.state = .idle
        ∧ u.gantry.moving = false ∧ u.evalDue = true)
    ∧ (∀ j dest, s.job = some j → j.dest = some dest → (∀ b side, s.inputs.limit b side = false) →
      (g.motion = .toRest .replan ∧ s.gantry.state = .busy
        ∨ g.motion = .toRest (.stop false) ∧ s.gantry.state = .stopping ∧ s.cell.run.going = true
          ∧ s.gantry.heldChange = false ∧ j.phase = .travel ∧ s.lossZone? = none) →
      (g.axes.z.at < (s.travelHeight : Int) → ∃ (u : State) (r : Move), exec (.moveEnd x) s = .next u.settle
        ∧ u = { s with
            gantry := { g with
              state := .busy, motion := .rise, lastTravel := s.travelHeight
              axes := { g.axes with z := { g.axes.z with move := some r } } }
            job := some { j with phase := .travel }
            link := u.link, evalDue := false, awaitDue := false }
        ∧ r = newMove s.inputs.warning .Z (s.gantry.profileOf j.laden) g.axes.z.at s.travelHeight)
      ∧ (∀ j' xy, (s.travelHeight : Int) ≤ g.axes.z.at → (∀ st, s.inputs.curtain.get st = false) →
        j' = { j with
          phase := .travel
          spillK := if dest = .spill ∧ j.spillK = none then some s.spill else j.spillK } →
        xy = s.destXY j' dest → g.axes.x.at ≠ xy.1 →
        ∃ u : State, exec (.moveEnd x) s = .next u.settle
          ∧ u = { s with gantry := u.gantry, job := some j', link := u.link, evalDue := false, awaitDue := false }
          ∧ u.gantry.state = .busy ∧ u.gantry.motion = .travel ∧ u.gantry.lastTravel = s.travelHeight
          ∧ u.gantry.axes.z = g.axes.z
          ∧ u.gantry.axes.x = { g.axes.x with
              move := some (newMove s.inputs.warning .X (s.gantry.profileOf j.laden) g.axes.x.at xy.1) }
          ∧ u.gantry.t = (if g.t.pos = some j.turn then g.t else { g.t with move := some j.turn })))
    ∧ (∀ j, g.motion = .toRest (.stop false) → s.job = some j → j.dest = none → s.cell.run.going = true →
      (s.gantry.state = .stopping ∨ s.gantry.state = .awaitPutaway) → s.gantry.heldChange = false → s.lossZone? = none →
      ∃ u : State, exec (.moveEnd x) s = .next u.settle
        ∧ u = { s with gantry := u.gantry, job := some { j with phase := .travel }, link := u.link, evalDue := false, awaitDue := false }
        ∧ ((s.travelHeight : Int) ≤ g.axes.z.at →
          u.gantry = { g with motion := .none, state := .awaitPutaway, lastTravel := s.travelHeight })
        ∧ (g.axes.z.at < (s.travelHeight : Int) → s.inputs.limitHigh.z = false → u.gantry = { g with
            motion := .rise, state := .awaitPutaway, lastTravel := s.travelHeight
            axes := { g.axes with z := { g.axes.z with
              move := some (newMove s.inputs.warning .Z (s.gantry.profileOf j.laden) g.axes.z.at s.travelHeight) } } }))
    ∧ (∀ j, g.motion = .toRest .await → s.job = some j → s.gantry.state = .awaitPutaway →
      (s.cell.run.going = false → exec (.moveEnd x) s = .next ({ s with gantry := { g with motion := .none } } : State).ended)
      ∧ (s.cell.run.going = true →
        ((s.travelHeight : Int) ≤ g.axes.z.at → exec (.moveEnd x) s =
          .next ({ s with gantry := { g with motion := .none, lastTravel := s.travelHeight } } : State).ended)
        ∧ (g.axes.z.at < (s.travelHeight : Int) → s.inputs.limitHigh.z = false → exec (.moveEnd x) s =
          .next ({ s with gantry := { g with
            motion := .rise, lastTravel := s.travelHeight
            axes := { g.axes with z := { g.axes.z with
              move := some (newMove s.inputs.warning .Z (s.gantry.profileOf j.laden) g.axes.z.at s.travelHeight) } } }
            } : State).ended)))

/-- HOME_SWITCH and HOME_SWITCH_NOT_FOUND (R117, R118): Z, then T, then X and Y find their switches, and without a job the
gantry becomes IDLE. As a part starts, an axis whose switch stands active is home at once, and the next part starts; a low end
limit that stands active as X and Y start, without the switch of its axis, is the fault LIMIT (State.HomingTStarts,
State.HomingXYStarts, State.HomingEnds; log 14). A retained job that carries nothing is cancelled; one that carries its item
becomes a PUTAWAY with a chosen destination, or waits in AWAIT_PUTAWAY; that its phase is TRAVEL while it waits is log 15's
choice. A switch not found is the fault HOME, with every mark cleared and the counters kept. An axis that does not search has no
such event (log 4). -/
def Obligations.HomingRunsZThenTThenXY : Prop :=
  (∀ (s : State) (a : Axis) (v : Bool),
    (s.inputs.home a = v → s.inputs.changing (.home a) = none → exec (.homeSwitch a v) s = .next s.ended)
    ∧ (s.inputs.home a ≠ v → s.inputs.missing (.home a) = 0 → (v = false ∨ s.gantry.searching a = false) →
      exec (.homeSwitch a v) s =
        .next ({ s with inputs := (s.inputs.noteEvent (.home a)).setHome a v } : State).ended))
  ∧ (∀ s : State, s.gantry.state = .homing → s.gantry.homing = 1 → s.inputs.homeZ = false → s.inputs.homeT = false →
      s.inputs.missing (.home (.lin .Z)) = 0 →
      exec (.homeSwitch (.lin .Z) true) s = .next ({ s with
        inputs := { s.inputs.noteEvent (.home (.lin .Z)) with homeZ := true }
        gantry := { s.gantry with
          axes := { s.gantry.axes with z := ⟨some 3200, true, none⟩ }
          homing := 2 } } : State).ended)
  ∧ (∀ s : State, s.gantry.state = .homing → s.gantry.homing = 2 → s.inputs.homeT = false → s.inputs.homeX = false →
      s.inputs.homeY = false → s.inputs.limitLow.x = false → s.inputs.limitLow.y = false →
      s.gantry.axes.x.homed = false → s.gantry.axes.y.homed = false → s.inputs.missing (.home .T) = 0 →
      exec (.homeSwitch .T true) s = .next ({ s with
        inputs := { s.inputs.noteEvent (.home .T) with homeT := true }
        gantry := { s.gantry with t := ⟨some .t0, true, none⟩, homing := 3 } } : State).ended)
  ∧ (∀ s : State, s.gantry.state = .homing →
      (s.gantry.homing = 1 → s.inputs.homeZ = false → s.inputs.missing (.home (.lin .Z)) = 0 → ∃ u : State,
        exec (.homeSwitch (.lin .Z) true) s = .next u.settle
        ∧ u.inputs = { s.inputs.noteEvent (.home (.lin .Z)) with homeZ := true }
        ∧ s.HomingTStarts u { s.gantry with axes := { s.gantry.axes with z := ⟨some 3200, true, none⟩ } }
        ∧ (s.job = none → u = { s with
            inputs := u.inputs, gantry := u.gantry, link := u.link, evalDue := u.evalDue, awaitDue := false }))
      ∧ (s.gantry.homing = 2 → s.inputs.homeT = false → s.inputs.missing (.home .T) = 0 → ∃ u : State,
        exec (.homeSwitch .T true) s = .next u.settle
        ∧ u.inputs = { s.inputs.noteEvent (.home .T) with homeT := true }
        ∧ s.HomingXYStarts u { s.gantry with t := ⟨some .t0, true, none⟩ }
        ∧ (s.job = none → u = { s with
            inputs := u.inputs, gantry := u.gantry, link := u.link, evalDue := u.evalDue, awaitDue := false }))
      ∧ ∀ a : LinAxis, s.gantry.homing = 3 → (a = .X ∧ s.gantry.axes.y.homed = true ∨ a = .Y ∧ s.gantry.axes.x.homed = true) →
        (s.gantry.axes.get a).homed = false → s.inputs.home (.lin a) = false → s.inputs.missing (.home (.lin a)) = 0 →
        ∃ u : State, exec (.homeSwitch (.lin a) true) s = .next u.settle
          ∧ u.inputs = (s.inputs.noteEvent (.home (.lin a))).setHome (.lin a) true
          ∧ s.HomingEnds u { s.gantry with axes := s.gantry.axes.set a ⟨some 0, true, none⟩ })
  ∧ (∀ s : State, s.gantry.state = .homing → s.gantry.homing = 3 → s.inputs.homeX = false →
      s.gantry.axes.x.homed = false → s.inputs.missing (.home (.lin .X)) = 0 →
      (s.gantry.axes.y.homed = false → exec (.homeSwitch (.lin .X) true) s = .next ({ s with
        inputs := { s.inputs.noteEvent (.home (.lin .X)) with homeX := true }
        gantry := { s.gantry with axes := { s.gantry.axes with x := ⟨some 0, true, none⟩ } } } : State).ended)
      ∧ (s.gantry.axes.y.homed = true → s.job = none → ∃ u : State,
        exec (.homeSwitch (.lin .X) true) s = .next u.settle
        ∧ u = { s with
            inputs := { s.inputs.noteEvent (.home (.lin .X)) with homeX := true }
            gantry := { s.gantry with
              state := .idle, kept := none, axes := { s.gantry.axes with x := ⟨some 0, true, none⟩ } }
            link := u.link, evalDue := true, awaitDue := false }))
  ∧ (∀ s : State, s.gantry.state = .homing → s.gantry.homing = 3 → s.inputs.homeY = false →
      s.gantry.axes.y.homed = false → s.inputs.missing (.home (.lin .Y)) = 0 →
      (s.gantry.axes.x.homed = false → exec (.homeSwitch (.lin .Y) true) s = .next ({ s with
        inputs := { s.inputs.noteEvent (.home (.lin .Y)) with homeY := true }
        gantry := { s.gantry with axes := { s.gantry.axes with y := ⟨some 0, true, none⟩ } } } : State).ended)
      ∧ (s.gantry.axes.x.homed = true → s.job = none → ∃ u : State,
        exec (.homeSwitch (.lin .Y) true) s = .next u.settle
        ∧ u = { s with
            inputs := { s.inputs.noteEvent (.home (.lin .Y)) with homeY := true }
            gantry := { s.gantry with
              state := .idle, kept := none, axes := { s.gantry.axes with y := ⟨some 0, true, none⟩ } }
            link := u.link, evalDue := true, awaitDue := false }))
  ∧ (∀ (s : State) (a : LinAxis) (j : Job), s.gantry.state = .homing → s.gantry.homing = 3 →
      (a = .X ∧ s.gantry.axes.y.homed = true ∨ a = .Y ∧ s.gantry.axes.x.homed = true) →
      (s.gantry.axes.get a).homed = false → s.inputs.home (.lin a) = false → s.inputs.missing (.home (.lin a)) = 0 →
      s.job = some j →
      (j.carried = none → ∃ u : State, exec (.homeSwitch (.lin a) true) s = .next u.settle ∧ u.job = none
        ∧ u.gantry.state = .idle ∧ u.gantry.kept = none ∧ u.gantry.axes.get a = ⟨some 0, true, none⟩)
      ∧ (∀ item, j.carried = some item → s.lossZone? = none →
        (s.cell.run.going = false → ∃ u : State, exec (.homeSwitch (.lin a) true) s = .next u.settle
          ∧ u.job = some { j with
              kind := .putaway, dest := u.chooseDest item, turn := .t0, reservation := none, spillK := none
              phase := .travel }
          ∧ u.gantry.state = (if u.chooseDest item = none then .awaitPutaway else .stopped)
          ∧ u.gantry.kept = none ∧ u.gantry.axes.get a = ⟨some 0, true, none⟩)
        ∧ (s.cell.run.going = true → (∀ b side, s.inputs.limit b side = false) →
          (∀ st, s.inputs.curtain.get st = false) → ∃ (u : State) (j' : Job),
          exec (.homeSwitch (.lin a) true) s = .next u.settle ∧ u.job = some j' ∧ j'.kind = .putaway
          ∧ j'.dest = u.chooseDest item ∧ j'.turn = .t0 ∧ j'.reservation = none ∧ j'.carried = some item
          ∧ u.gantry.state = (if u.chooseDest item = none then .awaitPutaway else .busy) ∧ u.gantry.kept = none)))
  ∧ (∀ (s : State) (a : Axis),
    (s.gantry.searching a = false → exec (.homeSwitchNotFound a) s = .next s.ended)
    ∧ (s.gantry.searching a = true → ∃ u : State, exec (.homeSwitchNotFound a) s = .next u.settle
      ∧ u = { s with gantry := u.gantry, link := u.link, evalDue := false, awaitDue := false }
      ∧ u.gantry.state = .faulted .home ∧ u.gantry.moving = false ∧ u.gantry.counters = s.gantry.counters
      ∧ u.gantry.t.homed = false ∧ ∀ b, (u.gantry.axes.get b).homed = false))

/-- The limit fault (R1, R115, R118, R127): taken when an end limit turns active while its axis moves, or when a move starts
toward an active limit; it halts every axis and makes the gantry FAULTED with cause LIMIT. On an axis at rest an end limit
changes nothing, and an axis that searches its home switch takes it as R118 lays down. T has no end limits; its fault is STUCK.
That a level shown again changes nothing is the model's (log 4). -/
def Obligations.EndLimitIsTakenByAMovingAxis : Prop :=
  (∀ (s : State) (a : LinAxis) (side : AxisEnd) (v : Bool),
    (s.inputs.limit a side = v → s.inputs.changing (.limit a side) = none → exec (.endLimit a side v) s = .next s.ended)
    ∧ (s.inputs.limit a side ≠ v → s.inputs.missing (.limit a side) = 0 →
      ∀ i, i = (s.inputs.noteEvent (.limit a side)).setLimit a side v →
      (v = false ∨ s.gantry.searching (.lin a) = false ∧ (s.gantry.axes.get a).move = none →
        exec (.endLimit a side v) s = .next ({ s with inputs := i } : State).ended)
      ∧ (v = true → s.gantry.searching (.lin a) = false → (s.gantry.axes.get a).move ≠ none →
        ∃ u : State, exec (.endLimit a side v) s = .next u.settle
          ∧ u = { s with inputs := i, gantry := u.gantry, link := u.link, evalDue := false, awaitDue := false }
          ∧ u.gantry.state = .faulted .limit ∧ u.gantry.moving = false ∧ u.gantry.counters = s.gantry.counters)
      ∧ (v = true → s.gantry.searching (.lin a) = true →
        ∃ u : State, exec (.endLimit a side v) s = .next u.settle
          ∧ u = { s with inputs := i, gantry := u.gantry, link := u.link, evalDue := false, awaitDue := false }
          ∧ u.gantry.state = .faulted .limit ∧ u.gantry.moving = false
          ∧ ∀ b, (u.gantry.axes.get b).homed = false)))
  ∧ (∀ (s : State) (a : LinAxis) (m : Move), m.target ≠ (s.gantry.axes.get a).at →
      (a = .X → s.zoneHit? m.target = none) →
      ((s.gantry.axes.get a).at < m.target ∧ s.inputs.limit a .high = true
        ∨ m.target < (s.gantry.axes.get a).at ∧ s.inputs.limit a .low = true) →
      ∃ u : State, s.startLin a m = (u, false) ∧ u.gantry.state = .faulted .limit ∧ u.gantry.moving = false
        ∧ u.gantry.counters = s.gantry.counters ∧ u.job = s.job)
  ∧ (∀ (s : State) (t : Turn), s.gantry.t.move = some t → s.inputs.homeT ≠ decide (t = .t0) →
      ∃ u : State, exec (.moveEnd .T) s = .next u.settle ∧ u.gantry.state = .faulted .stuck ∧ u.gantry.moving = false)

/-! ### Guard and station events -/

/-- DOOR (R118, R151, R154, R155): an opening door stops a cell that runs or is PAUSED, adds its cause to a cell that is
GUARD_STOPPED, leaves OFF as it is and ends homing; a closing door takes its cause away, and under AUTO the last cause gone
returns the cell, and a retained job goes on as State.ReturnedTo says (R126). Beside cell and gantry the stop changes nothing,
but where it takes a held change of a job whose carry is lost (R123, R141, log 17). The alarm output is asserted exactly while
one of the conditions of R177 holds. -/
def Obligations.DoorStopsAndReturnsTheCell : Prop :=
  ∀ (s : State) (i : Inputs),
    (s.alarm = true ↔ (∃ m c, s.cell.run = .guardStopped m c) ∨ (∃ c, s.gantry.state = .faulted c)
      ∨ s.gantry.state = .awaitPutaway ∨ s.gripper.state = .lockedOut ∨ (∃ l, (s.lanes.get l).purging = true)
      ∨ ∃ st, (s.stn.get st).mode = .plain (.held .sheetsOut) ∨ (s.stn.get st).mode = .plain (.held .debris)
          ∨ (s.stn.get st).mode = .plain .unverified)
    ∧ (∀ v, s.inputs.door = v → s.inputs.changing .door = none → exec (.door v) s = .next s.ended)
    ∧ (s.inputs.door = false → s.inputs.missing .door = 0 → i = { s.inputs.noteEvent .door with door := true } →
      (s.cell.run = .off → s.gantry.state ≠ .homing → exec (.door true) s = .next
        (({ s with inputs := i } : State).report (.guard .door true .off false none none)).ended)
      ∧ (s.cell.run = .off → s.gantry.state = .homing → ∃ u : State, exec (.door true) s = .next u.settle
        ∧ u = { s with inputs := i, gantry := u.gantry, link := u.link, evalDue := false, awaitDue := false }
        ∧ u.gantry.moving = false
        ∧ u.gantry.state = (match s.gantry.kept with | none => .unhomed | some c => .faulted c))
      ∧ (∀ m c, s.cell.run = .guardStopped m c → s.gantry.state ≠ .homing → exec (.door true) s = .next
        (({ s with
          inputs := i
          cell := ⟨.guardStopped m { c with door := true }, s.cell.auto⟩ } : State).report
            (.guard .door true (.guardStopped m { c with door := true }) false none none)).ended)
      ∧ (∀ m, (s.cell.run = .run ∧ m = .ret .run ∨ s.cell.run = .finishing ∧ m = .ret .finishing
            ∨ ∃ r, s.cell.run = .paused r ∧ m = .paused r) →
        ∃ u : State, exec (.door true) s = .next u.settle
          ∧ (s.gantry.heldChange = false → u = { s with
              inputs := i
              cell := ⟨.guardStopped m ⟨true, false, false⟩, s.cell.auto⟩
              gantry := u.gantry, link := u.link, evalDue := u.evalDue, awaitDue := false })
          ∧ (s.lossZone? = none → u = { s with
              inputs := i
              cell := ⟨.guardStopped m ⟨true, false, false⟩, s.cell.auto⟩
              gantry := u.gantry, job := u.job, link := u.link, evalDue := u.evalDue, awaitDue := false })
          ∧ s.QuickStopped u
          ∧ u.cell = ⟨.guardStopped m ⟨true, false, false⟩, s.cell.auto⟩ ∧ u.inputs = i ∧ u.alarm = true
          ∧ u.gantry.moving = false ∧ u.gantry.state.active = false ∧ u.gantry.counters = s.gantry.counters))
    ∧ (s.inputs.door = true → s.inputs.missing .door = 0 → i = { s.inputs.noteEvent .door with door := false } →
      ((∀ m c, s.cell.run ≠ .guardStopped m c) → exec (.door false) s = .next
        (({ s with inputs := i } : State).report (.guard .door false s.cell.run false none none)).ended)
      ∧ ∀ m c, s.cell.run = .guardStopped m c →
        (s.cell.auto = false ∨ c.curtainA = true ∨ c.curtainB = true → exec (.door false) s = .next
          (({ s with
            inputs := i
            cell := ⟨.guardStopped m { c with door := false }, s.cell.auto⟩ } : State).report
              (.guard .door false (.guardStopped m { c with door := false }) false none none)).ended)
        ∧ (s.cell.auto = true → c.curtainA = false → c.curtainB = false → s.job = none →
          ∀ next : CellRun, next = (match m with
            | .ret .run => .run
            | .ret .finishing => .off
            | .paused r => .paused r) →
          exec (.door false) s = .next (({ s with
            inputs := i
            cell := ⟨next, s.cell.auto⟩
            evalDue := decide (next = .run)
            awaitDue := false } : State).report (.guard .door false next false none none)).settle)
        ∧ (s.cell.auto = true → c.curtainA = false → c.curtainB = false → s.job ≠ none →
          (∀ r, m = .paused r → exec (.door false) s = .next (({ s with
            inputs := i
            cell := ⟨.paused r, true⟩ } : State).report (.guard .door false (.paused r) false none none)).ended)
          ∧ ∀ r, m = .ret r →
            ∃ u : State, exec (.door false) s = .next u.settle ∧ u.inputs = i ∧ s.ReturnedTo u r true))

/-- Curtains and pallet sensors (R126, R151, R159, R160, R161): a break puts the station in EXCHANGE and, where the gantry is in
the zone, stops a cell that runs or is PAUSED, adds its cause in GUARD_STOPPED, and leaves OFF but for an end of homing. A
restore returns the station, BUILDING with a new sweep and IDLE with plan-closed set on to COMPLETE, or clears it where the
pallet was seen to leave. A job bound to a station that is cleared is cancelled before the grip, becomes a PUTAWAY after it,
its gantry taking the change as R123 lays down (logs 15, 17, 38 and 56), and keeps a release that has begun (log 54), its
reservation gone (R101). A restore takes its cause from a GUARD_STOPPED cell, and
with no cause left the cell returns under AUTO, a retained job going on as State.ReturnedTo says. Each change enqueues one GUARD
report with the curtain, its level, the cell's run state after the change, the quick stop, the station's state after it and
whether the gantry was in the zone (R155); it is said where no report waits, and the zone is read as the event comes (log 47). A
presence change with the curtain intact makes the station UNVERIFIED. A sweep that runs begins anew at once (log 13). -/
def Obligations.CurtainsAndPalletsExchangeStations : Prop :=
  ∀ (s : State) (st : StationId),
    (s.inputs.curtain.get st = true → s.inputs.changing (.curtain st) = none →
      exec (.curtainBreak st) s = .next s.ended)
    ∧ (∀ m, s.inputs.curtain.get st = false → s.inputs.missing (.curtain st) = 0 → (s.stn.get st).mode = .plain m →
      (s.gantryInZone st = false → ∃ u : State, exec (.curtainBreak st) s = .next u.settle
        ∧ u = { s with
            inputs := { s.inputs.noteEvent (.curtain st) with curtain := s.inputs.curtain.set st true }
            stn := u.stn, stall := u.stall, link := u.link, evalDue := true, awaitDue := false }
        ∧ (u.stn.get st).mode = .exchange m ∧ (u.stn.get st).absentSeen = !s.inputs.pallet.get st
        ∧ (s.link.reports = [] →
          u.guards = [.guard (.curtain st) true s.cell.run false (some (.exchange m)) (some false)])
        ∧ ∀ st', st' ≠ st → u.stn.get st' = s.stn.get st')
      ∧ (s.gantryInZone st = true → ∀ r : GuardMem,
        (s.cell.run = .run ∧ r = .ret .run ∨ s.cell.run = .finishing ∧ r = .ret .finishing
          ∨ ∃ q, s.cell.run = .paused q ∧ r = .paused q) →
        ∃ u : State, exec (.curtainBreak st) s = .next u.settle
          ∧ u.cell.run = .guardStopped r (GuardInput.curtain st).cause ∧ (u.stn.get st).mode = .exchange m
          ∧ u.gantry.moving = false ∧ u.gantry.state.active = false
          ∧ (u.stn.get st).absentSeen = !s.inputs.pallet.get st ∧ s.QuickStopped u
          ∧ (s.link.reports = [] → s.gantry.heldChange = false → u.guards = [.guard (.curtain st) true
              (.guardStopped r (GuardInput.curtain st).cause) true (some (.exchange m)) (some true)])
          ∧ (s.gantry.heldChange = false → u = { s with
              inputs := { s.inputs.noteEvent (.curtain st) with curtain := s.inputs.curtain.set st true }
              cell := ⟨.guardStopped r (GuardInput.curtain st).cause, s.cell.auto⟩
              gantry := u.gantry, stn := u.stn, stall := u.stall, link := u.link, evalDue := true, awaitDue := false }
            ∧ ∀ st', st' ≠ st → u.stn.get st' = s.stn.get st')
          ∧ (s.lossZone? = none → u = { s with
              inputs := { s.inputs.noteEvent (.curtain st) with curtain := s.inputs.curtain.set st true }
              cell := ⟨.guardStopped r (GuardInput.curtain st).cause, s.cell.auto⟩
              gantry := u.gantry, job := u.job, stn := u.stn, stall := u.stall, link := u.link, evalDue := true
              awaitDue := false }))
      ∧ (s.gantryInZone st = true → ∀ next : CellRun,
        (s.cell.run = .off ∧ next = .off
          ∨ ∃ q c, s.cell.run = .guardStopped q c ∧ next = .guardStopped q (match st with
              | .A => { c with curtainA := true }
              | .B => { c with curtainB := true })) →
        ∃ u : State, exec (.curtainBreak st) s = .next u.settle
          ∧ u = { s with
              inputs := { s.inputs.noteEvent (.curtain st) with curtain := s.inputs.curtain.set st true }
              cell := ⟨next, s.cell.auto⟩
              gantry := u.gantry, stn := u.stn, stall := u.stall, link := u.link, evalDue := true, awaitDue := false }
          ∧ (u.stn.get st).mode = .exchange m ∧ (u.stn.get st).absentSeen = !s.inputs.pallet.get st
          ∧ (s.link.reports = [] →
            u.guards = [.guard (.curtain st) true next false (some (.exchange m)) (some true)])
          ∧ (∀ st', st' ≠ st → u.stn.get st' = s.stn.get st')
          ∧ (s.gantry.state ≠ .homing → u.gantry = s.gantry)
          ∧ (s.gantry.state = .homing → u.gantry.moving = false
              ∧ u.gantry.state = (match s.gantry.kept with | none => .unhomed | some c => .faulted c))))
    ∧ (s.inputs.curtain.get st = false → s.inputs.changing (.curtain st) = none →
      exec (.curtainRestore st) s = .next s.ended)
    ∧ (∀ m, s.inputs.curtain.get st = true → s.inputs.missing (.curtain st) = 0 → (s.stn.get st).mode = .exchange m →
      (s.inputs.pallet.get st = true → (s.stn.get st).absentSeen = false → m ≠ .idle → m ≠ .building →
        (s.job = none ∨ ∀ q c, s.cell.run ≠ .guardStopped q c) →
        ∃ u : State, exec (.curtainRestore st) s = .next u.settle
          ∧ (u.stn.get st).mode = .plain m ∧ u.plan = s.plan ∧ u.stack = s.stack ∧ u.gantry = s.gantry ∧ u.job = s.job
          ∧ ((∀ q c, s.cell.run ≠ .guardStopped q c) → u.cell = s.cell)
          ∧ (s.link.reports = [] → u.guards = [.guard (.curtain st) false u.cell.run false
              (some (u.stn.get st).mode) (some (s.gantryInZone st))]))
      ∧ (s.inputs.pallet.get st = true → (s.stn.get st).absentSeen = false → m = .idle ∨ m = .building →
        (s.job = none ∨ ∀ q c, s.cell.run ≠ .guardStopped q c) →
        ∃ u : State, exec (.curtainRestore st) s = .next u.settle
          ∧ (u.stn.get st).mode = .plain (
              if m = .building ∧ ((s.plan.get st).queue ≠ [] ∨ s.boundTo st = true) then .building
              else if (s.plan.get st).closed then .complete else .idle)
          ∧ (u.plan.get st).closed = (s.plan.get st).closed
          ∧ (u.plan.get st).queue.map Layer.unswept = (s.plan.get st).queue.map Layer.unswept
          ∧ (u.stack.get st).table = (s.stack.get st).table ∧ (u.stack.get st).map = (s.stack.get st).map
          ∧ (m = .idle → u.plan = s.plan ∧ u.stack = s.stack)
          ∧ (m = .building → s.outstanding st ≠ none → (u.stack.get st).sweep = ⟨.waiting, []⟩)
          ∧ (m = .building → s.outstanding st = none →
              (u.stack.get st).sweep = (match (s.plan.get st).candidates with
                | [] => ⟨.idle, []⟩
                | cs => ⟨.running, cs⟩)
              ∧ ∀ p ∈ (u.plan.get st).eligiblePending, p.verdict = .unswept)
          ∧ u.gantry = s.gantry ∧ u.job = s.job
          ∧ (s.link.reports = [] → u.guards = [.guard (.curtain st) false u.cell.run false
              (some (u.stn.get st).mode) (some (s.gantryInZone st))]))
      ∧ (s.inputs.pallet.get st = false ∨ (s.stn.get st).absentSeen = true →
        (s.boundTo st = false → (s.job = none ∨ ∀ q c, s.cell.run ≠ .guardStopped q c) →
          ∃ u : State, exec (.curtainRestore st) s = .next u.settle
            ∧ (u.stn.get st).mode = .plain (if s.inputs.pallet.get st then .idle else .noPallet)
            ∧ u.plan.get st = ⟨[], false⟩ ∧ u.stack.get st = .bare (s.stack.get st).limits
            ∧ (u.stn.get st).departure = .unset ∧ u.stall.get st = false ∧ u.gantry = s.gantry ∧ u.job = s.job
            ∧ (s.link.reports = [] → u.guards = [.guard (.curtain st) false u.cell.run false
                (some (u.stn.get st).mode) (some (s.gantryInZone st))]))
        ∧ (∀ j, s.job = some j → j.station = some st → j.gripped = false →
          ∃ u : State, exec (.curtainRestore st) s = .next u.settle ∧ u.job = none
            ∧ ((∀ q c, s.cell.run ≠ .guardStopped q c) → u.gantry = s.gantry.cancelled))
        ∧ (∀ j, s.job = some j → j.station = some st → j.gripped = true →
          (∀ q c, s.cell.run = .guardStopped q c → s.cell.auto = false ∨ c.door = true ∨ (match st with
            | .A => c.curtainB
            | .B => c.curtainA) = true) →
          ∃ u : State, exec (.curtainRestore st) s = .next u.settle
            ∧ (u.stn.get st).mode = .plain (if s.inputs.pallet.get st then .idle else .noPallet)
            ∧ u.plan.get st = ⟨[], false⟩ ∧ u.stack.get st = .bare (s.stack.get st).limits
            ∧ (j.releaseBegun = true → u.job = some { j with reservation := none } ∧ u.gantry = s.gantry)
            ∧ ∀ item k, j.releaseBegun = false → j.carried = some item → k = { j with
                kind := .putaway, dest := u.chooseDest item, turn := .t0, reservation := none, spillK := none } →
              (s.gantry.state = .busy → s.TakesDestination u k)
              ∧ (s.gantry.state = .stopping → u.job = some k ∧ u.gantry = { s.gantry with heldChange := true })
              ∧ (s.gantry.state = .stopped → s.lossZone? = none →
                u.job = some { k with phase :=
                  if k.dest = none ∨ j.phase = .setDown ∨ j.phase = .release then .travel else j.phase }
                ∧ u.gantry = { s.gantry with state := if k.dest = none then .awaitPutaway else .stopped }))))
    ∧ (∀ q c c', s.inputs.curtain.get st = true → s.inputs.missing (.curtain st) = 0 →
      s.cell.run = .guardStopped q c →
      c' = (match st with | .A => { c with curtainA := false } | .B => { c with curtainB := false }) →
      (s.boundTo st = false ∨ s.inputs.pallet.get st = true ∧ (s.stn.get st).absentSeen = false) →
      (s.cell.auto = false ∨ c' ≠ ⟨false, false, false⟩ →
        ∃ u : State, exec (.curtainRestore st) s = .next u.settle ∧ u.cell = ⟨.guardStopped q c', s.cell.auto⟩
          ∧ u.gantry = s.gantry ∧ u.job = s.job
          ∧ (s.link.reports = [] → u.guards = [.guard (.curtain st) false u.cell.run false
              (some (u.stn.get st).mode) (some (s.gantryInZone st))]))
      ∧ (s.cell.auto = true → c' = ⟨false, false, false⟩ →
        (∀ r, q = .paused r → ∃ u : State, exec (.curtainRestore st) s = .next u.settle ∧ u.cell = ⟨.paused r, true⟩
          ∧ u.gantry = s.gantry ∧ u.job = s.job
          ∧ (s.link.reports = [] → u.guards = [.guard (.curtain st) false u.cell.run false
              (some (u.stn.get st).mode) (some (s.gantryInZone st))]))
        ∧ (∀ r, q = .ret r → s.job = none → ∃ u : State, exec (.curtainRestore st) s = .next u.settle
          ∧ u.cell = ⟨match r with | .run => .run | .finishing => .off, true⟩ ∧ u.gantry = s.gantry
          ∧ (s.link.reports = [] → u.guards = [.guard (.curtain st) false u.cell.run false
              (some (u.stn.get st).mode) (some (s.gantryInZone st))]))
        ∧ ∀ r, q = .ret r → s.job ≠ none → ∃ u : State, exec (.curtainRestore st) s = .next u.settle
          ∧ u.inputs = { s.inputs.noteEvent (.curtain st) with curtain := s.inputs.curtain.set st false }
          ∧ s.ReturnedTo u r true
          ∧ (s.link.reports = [] → ∃ mode, u.guards.head? = some (.guard (.curtain st) false
              (match r with | .run => .run | .finishing => .finishing) false (some mode) (some (s.gantryInZone st))))))
    ∧ (∀ v, s.inputs.pallet.get st = v → s.inputs.changing (.pallet st) = none →
      exec (.palletPresent st v) s = .next s.ended)
    ∧ (∀ v i, s.inputs.pallet.get st ≠ v → s.inputs.missing (.pallet st) = 0 →
      i = { s.inputs.noteEvent (.pallet st) with pallet := s.inputs.pallet.set st v } →
      (∀ m, (s.stn.get st).mode = .exchange m → exec (.palletPresent st v) s = .next ({ s with
          inputs := i
          stn := s.stn.set st { s.stn.get st with absentSeen := (s.stn.get st).absentSeen || !v } } : State).ended)
      ∧ ((s.stn.get st).mode = .plain .unverified →
        exec (.palletPresent st v) s = .next ({ s with inputs := i } : State).ended)
      ∧ (∀ m, (s.stn.get st).mode = .plain m → m ≠ .unverified → ∃ u : State,
        exec (.palletPresent st v) s = .next u.settle
        ∧ u = { s with
            inputs := i, stn := u.stn, stall := u.stall, link := u.link, evalDue := true, awaitDue := false }
        ∧ (u.stn.get st).mode = .plain .unverified ∧ ∀ st', st' ≠ st → u.stn.get st' = s.stn.get st'))

/-- WARNING_FIELD (R128, R155): GUARD is reported and no run state changes; axes at rest or ramping to rest are left alone, and
at an activation a moving axis on a LINEAR or S_CURVE profile that is not in its final ramp-down takes the cap. At the clearing
such an axis rises again toward the top speed of its move, from where it stands on its ramp, or halfway where the way is too
short for that; an axis in its final ramp-down finishes as planned. That the plan is made anew there, at an activation with a
peak and a start speed within the cap, is the form log 11 gives R128. -/
def Obligations.WarningFieldSetsTheSpeedCap : Prop :=
  ∀ (s : State) (v : Bool),
    (s.inputs.warning = v → s.inputs.changing .warning = none → exec (.warningField v) s = .next s.ended)
    ∧ (s.inputs.warning ≠ v → s.inputs.missing .warning = 0 →
      ((∀ a, (s.gantry.axes.get a).move = none) ∨ (∃ w, s.gantry.motion = .toRest w) →
        exec (.warningField v) s = .next (({ s with inputs := { s.inputs.noteEvent .warning with warning := v } } : State).report
          (.guard .warning v s.cell.run false none none)).ended)
      ∧ ∃ u : State, exec (.warningField v) s = .next u.settle
        ∧ u = { s with
            inputs := { s.inputs.noteEvent .warning with warning := v }
            gantry := { s.gantry with axes := u.gantry.axes }
            link := u.link, evalDue := false, awaitDue := false }
        ∧ ∀ a, match (s.gantry.axes.get a).move with
          | none => u.gantry.axes.get a = s.gantry.axes.get a
          | some m => ∃ m' : Move, u.gantry.axes.get a = { s.gantry.axes.get a with move := some m' }
              ∧ m'.target = m.target ∧ m'.profile = m.profile ∧ m'.limit = m.limit
              ∧ (v = true → (∀ w, s.gantry.motion ≠ .toRest w) → m.final (s.gantry.axes.get a).at = false →
                  (∀ t, m.profile ≠ .table t) → m'.plan.peak ≤ 250 ∧ m'.plan.start ≤ 250)
              ∧ ((∃ w, s.gantry.motion = .toRest w) → m' = m)
              ∧ (m.final (s.gantry.axes.get a).at = true → m.plan.creepDist = 0 → m' = m)
              ∧ (v = false → (∀ w, s.gantry.motion ≠ .toRest w) → m.final (s.gantry.axes.get a).at = false →
                  m'.origin = (s.gantry.axes.get a).at ∧ m'.coord = m.place (s.gantry.axes.get a).at ∧ m'.base = m.base
                  ∧ m'.plan.creepDist = m.plan.creepDist
                  ∧ ∀ (v0 vt pr top full : Nat) (way : Int),
                    (m.profile = .linear v0 vt pr ∨ m.profile = .sCurve v0 vt pr) → v0 < vt → top = min vt m.limit →
                    v0 ≤ top → (top * top - v0 * v0) * pr ≤ full * (vt * vt - v0 * v0) →
                    full * (vt * vt - v0 * v0) < (top * top - v0 * v0) * pr + (vt * vt - v0 * v0) →
                    way = m.place (s.gantry.axes.get a).at + m.base + m.profileLeft (s.gantry.axes.get a).at →
                    (2 * (full : Int) ≤ way → m'.plan.peak = top ∧ m'.plan.ramp = full)
                    ∧ (way < 2 * (full : Int) → m.base < full → m'.plan.peak ≤ top ∧ m'.plan.ramp = way / 2)))

/-! ### Gripper events -/

/-- Readings and the grip timer (R134, R138 to R142, R147): a reading alone is only noted, and so is one in a carry that leaves
every used zone at or above the loss threshold; the last used zone reaching the grip threshold ends the grip, the job takes its
item, and the valves of the used zones hold: driven continuously for the pull-in time and then at the duty of the item. A used
zone below the loss threshold during the watch drops it; the timer brings the second try and then GRIP_FAIL. The end of a timer
that does not run changes nothing (log 4). -/
def Obligations.ReadingsAndGripTimerEndGripsAndCarries : Prop :=
  (∀ (s : State) (z : Zone) (v : Nat) (i : Inputs), i = { s.inputs with reading := s.inputs.reading.set z v } →
    (s.gripper.state ≠ .gripping → s.gripper.state ≠ .holding →
      exec (.vacuumReading z v) s = .next ({ s with inputs := i } : State).ended)
    ∧ (s.gripper.state = .gripping → (∃ y, s.gripper.used.get y = true ∧ i.reading.get y < s.gripper.set.g) →
      exec (.vacuumReading z v) s = .next ({ s with inputs := i } : State).ended)
    ∧ (∀ j, s.gripper.state = .gripping → s.job = some j → j.gripped = false → s.gripper.set.lo ≤ s.gripper.set.g →
      (∀ y, s.gripper.used.get y = true → s.gripper.set.g ≤ i.reading.get y ∧ (s.gripper.zones.get y).faulted = false) →
      ∃ (u : State) (j' : Job), exec (.vacuumReading z v) s = .next u.settle ∧ u.job = some j' ∧ j'.gripped = true
        ∧ (u.gripper.state = .holding ∨ u.gripper.state = .releasing ∧ j'.phase = .release)
        ∧ (u.gripper.state = .holding → ∀ y, s.gripper.used.get y = true → (u.gripper.zones.get y).valve = .hold 0)
        ∧ u.gripper.set = s.gripper.set
        ∧ (∀ c t, s.sourceCase j = some c → c.type.bind s.dir.typeAt = some t → j.source ≠ .magazine →
            u.gripper.duty = t.duty)
        ∧ (j.source = .magazine → u.gripper.duty = 64)
        ∧ (j.source = .magazine → j'.carried = some .sheet)
        ∧ (∀ l r rest, j.source = .lane l → (s.lanes.get l).fifo = r :: rest →
            j'.carried = some (.case r) ∧ (u.lanes.get l).pick = .picking ∧ (u.lanes.get l).fifo = rest)
        ∧ (∀ k r n m, j.source = .slot k → s.slots[k] = .held r n m →
            j'.carried = some (.case r) ∧ u.slots[k] = .empty true))
    ∧ (s.gripper.state = .holding → (s.watched = false ∨ ∀ y, s.gripper.used.get y = true →
        s.gripper.set.lo ≤ i.reading.get y ∧ (s.gripper.zones.get y).faulted = false) →
      exec (.vacuumReading z v) s = .next ({ s with inputs := i } : State).ended)
    ∧ (s.watched = true → s.gripper.used.get z = true → v < s.gripper.set.lo →
      ∃ u : State, exec (.vacuumReading z v) s = .next u.settle ∧ u.job = none ∧ u.gripper.dropMark = true
        ∧ u.gripper.counter = min (s.gripper.counter + 1) 6
        ∧ u.gripper.state = (if u.gripper.counter = 6 then .lockedOut else .idle)
        ∧ u.gantry.state = .faulted .drop ∧ u.gantry.moving = false ∧ u.gantry.counters = s.gantry.counters))
  ∧ (∀ (g : Gripper) (z : Zone),
    ((g.zones.get z).valve = .off → g.drive z = .off) ∧ ((g.zones.get z).valve = .full → g.drive z = .continuous)
    ∧ ∀ ms, (g.zones.get z).valve = .hold ms →
      (ms < g.set.pullIn → g.drive z = .continuous)
      ∧ (g.set.pullIn ≤ ms → g.duty = 0 → g.drive z = .off)
      ∧ (g.set.pullIn ≤ ms → 1 ≤ g.duty → g.duty < 127 → g.drive z = .pulsed g.duty g.set.freq)
      ∧ (g.set.pullIn ≤ ms → 127 ≤ g.duty → g.drive z = .continuous))
  ∧ (∀ s : State,
    (s.gripper.state ≠ .gripping → exec .gripTimerExpiry s = .next s.ended)
    ∧ (s.gripper.state = .gripping → s.gripper.attempt = 1 → exec .gripTimerExpiry s = .next
      ({ s with gripper := { s.gripper with attempt := 2, timer := some s.gripper.set.gripMs } } : State).ended)
    ∧ (s.gripper.state = .gripping → s.gripper.attempt ≠ 1 →
      ∃ u : State, exec .gripTimerExpiry s = .next u.settle
        ∧ u.gripper.counter = min (s.gripper.counter + 1) 6
        ∧ u.gripper.state = (if u.gripper.counter = 6 then .lockedOut else .idle) ∧ u.gripper.timer = none
        ∧ (∀ z, s.gripper.used.get z = true → (s.gripper.zones.get z).faulted = false →
            (u.gripper.zones.get z).valve = .off)))

/-- The end of a grip that failed (R24, R27, R29, R96, R100, R122, R124, R140). GRIP_FAIL starts CLEAR with nothing carried, or
is recorded where the gantry is not BUSY. At the end of that CLEAR the job ends: its placement is PENDING again with its verdict
kept, or VOID where the plan was abandoned; its reservation is gone, and a sweep that waited for it starts; its source is given
up, a front case to run off and a slot BLOCKED with UNGRIPPABLE, a BUILDING station HELD with SHEETS_OUT, once (log 36); the
magazine keeps its count; and the gantry is IDLE with a dispatch event. The SLOT report is said where none waits and the job is
no SHEET job and its plan not abandoned, so that none is displaced. -/
def Obligations.FailedGripsGiveUpTheirSource : Prop :=
  (∀ (s : State) (j : Job), s.gripper.state = .gripping → s.gripper.attempt ≠ 1 → s.job = some j →
    (s.gantry.state = .busy → s.inputs.limitHigh.z = false → s.gantry.axes.z.at < ((s.travelHeight : Nat) : Int) →
      ∃ u : State, exec .gripTimerExpiry s = .next u.settle ∧ u.job = some { j with gripFailed := true, phase := .clear }
        ∧ u.gantry = { s.gantry with
            motion := .rise, lastTravel := s.travelHeight
            axes := { s.gantry.axes with z := { s.gantry.axes.z with
              move := some (newMove s.inputs.warning .Z (s.gantry.profileOf j.laden) s.gantry.axes.z.at s.travelHeight) } } })
    ∧ (s.gantry.state ≠ .busy → ∃ u : State, exec .gripTimerExpiry s = .next u.settle ∧ u.gantry = s.gantry
        ∧ u.job = some { j with gripFailed := true }))
  ∧ ∀ (s : State) (a : LinAxis) (m : Move) (g : Gantry) (j : Job), (s.gantry.axes.get a).move = some m →
    g = { s.gantry with axes := s.gantry.axes.set a { s.gantry.axes.get a with counter := some m.goal, move := none } } →
    g.moving = false → g.motion = .rise → s.job = some j → j.phase = .clear → j.gripFailed = true → j.gripped = false →
    ∃ u : State, exec (.moveEnd (.lin a)) s = .next u.settle
      ∧ u = { s with
          gantry := { g with motion := .none, state := .idle }
          job := none
          cell := ⟨if s.cell.run = .finishing then .off else s.cell.run, s.cell.auto⟩
          plan := u.plan, stack := u.stack, stn := u.stn, stall := u.stall, lanes := u.lanes, slots := u.slots
          link := u.link, evalDue := true, awaitDue := u.awaitDue }
      ∧ (∀ l r rest, j.source = .lane l → (s.lanes.get l).pick = .front → (s.lanes.get l).fifo = r :: rest →
          u.lanes = s.lanes.set l { s.lanes.get l with
            pick := .releasing true .ungrippable, wait := 0, fifo := { r with disp := .runOff .ungrippable } :: rest })
      ∧ ((∀ l, j.source ≠ .lane l) → u.lanes = s.lanes)
      ∧ (∀ i r n k, j.source = .slot i → s.slots[i] = .held r n k → u.slots[i] = .blocked
          ∧ (s.link.reports = [] → j.kind ≠ .sheet → j.abandoned = false →
            ReportBody.slot i .blocked .ungrippable (some ⟨r.lane, r.seq, r.type⟩) ∈ u.link.reports.map Report.body))
      ∧ (∀ i : SlotId, j.source ≠ .slot i → u.slots[i] = s.slots[i]
          ∨ ∃ r n k k', s.slots[i] = .held r n k ∧ u.slots[i] = .held r n k')
      ∧ (∀ st id q, j.kind = .place → j.dest = some (.placement st id) → (s.plan.get st).find? id = some q →
          q.state = .bound →
          (∀ p ∈ (u.plan.get st).placements, p.id = id → p.state = if j.abandoned then .void else .pending)
          ∧ ∀ p : Plan, j.abandoned = false → p = { s.plan.get st with
              queue := (s.plan.get st).queue.map (fun l => { l with placements := l.placements.map (fun p =>
                if p.id = id then { p with state := .pending } else p) }) } →
            ((s.stack.get st).sweep.state ≠ .waiting → u.plan.get st = p ∧ u.stack.get st = s.stack.get st)
            ∧ ((s.stack.get st).sweep.state = .waiting →
              (u.plan.get st).queue.map Layer.unswept = p.queue.map Layer.unswept
              ∧ (u.stack.get st).sweep = (match p.candidates with
                | [] => ⟨.idle, []⟩
                | cs => ⟨.running, cs⟩)
              ∧ ∀ q ∈ (u.plan.get st).eligiblePending, q.verdict = .unswept))
      ∧ (∀ st, j.station = some st →
          (u.stn.get st).mode = (if (s.stn.get st).mode = .plain .building then
              if j.source = .magazine then .plain (.held .sheetsOut)
              else if (u.plan.get st).queue = [] then .plain (if (s.plan.get st).closed then .complete else .idle)
              else .plain .building
            else (s.stn.get st).mode)
          ∧ (j.kind = .sheet → ∀ l ∈ (u.plan.get st).queue, l.sheetJob = false))
      ∧ ∀ st, j.station ≠ some st → u.plan.get st = s.plan.get st ∧ u.stack.get st = s.stack.get st
          ∧ u.stn.get st = s.stn.get st ∧ u.stall.get st = s.stall.get st

/-- Release timer, pull-in time, fault inputs and decay (R134, R143 to R147): a release ends, takes its second blow or is STUCK;
a valve in HOLD goes to pulse drive; an OK zone becomes FAULTED, and as a used zone leaves the grip or drops the item; the
grip-fault counter falls by one, and the decay runs anew while it is at least 1, once 600 s have gone by, and not before (log
2). The release completion of a job gives its item to the destination (R98): a case or a sheet is committed (R25, R52, R53), its
placement PLACED with the PLACED report or its sheet no longer due, and a layer this completes leaves, with LAYER_DONE where its
report flag is set (R28; the reports are said where none waits, so that none is displaced). A BUILDING station whose queue is
empty becomes COMPLETE or IDLE once no job is bound to it (R29). The magazine count falls (R90); a slot becomes HELD (R81); the
spill count grows (R85); and CLEAR reads the travel height with the new top (R120). The end of a timer that does not run changes
nothing (log 4). -/
def Obligations.ReleasePullInFaultAndDecayAreTaken : Prop :=
  (∀ s : State,
    (s.gripper.state ≠ .releasing → exec .releaseTimerExpiry s = .next s.ended)
    ∧ (s.gripper.state = .releasing → (∃ z, s.gripper.used.get z = true ∧ 10 < s.inputs.reading.get z) →
      (s.gripper.attempt = 1 → ∃ u : State, exec .releaseTimerExpiry s = .next u.ended
        ∧ u = { s with gripper := { s.gripper with
            attempt := 2, timer := some s.gripper.set.releaseMs, zones := u.gripper.zones } }
        ∧ ∀ z, u.gripper.zones.get z = if s.gripper.used.get z && !(s.gripper.zones.get z).faulted
            then ⟨.off, true, false⟩ else s.gripper.zones.get z)
      ∧ (s.gripper.attempt ≠ 1 → ∃ u : State, exec .releaseTimerExpiry s = .next u.settle
        ∧ u = { s with
            gripper := u.gripper, gantry := u.gantry, link := u.link, evalDue := false, awaitDue := false }
        ∧ u.gripper.state = .holding ∧ u.gripper.timer = none ∧ u.gripper.counter = s.gripper.counter
        ∧ u.gantry.state = .faulted .release ∧ u.gantry.moving = false
        ∧ ∀ z, u.gripper.zones.get z = if s.gripper.used.get z && !(s.gripper.zones.get z).faulted
            then ⟨.hold 0, false, false⟩ else s.gripper.zones.get z))
    ∧ (s.gripper.state = .releasing → (∀ z, s.gripper.used.get z = true → s.inputs.reading.get z ≤ 10) →
      ∃ u : State, exec .releaseTimerExpiry s = .next u.settle ∧ u.gripper.state = .idle ∧ u.gripper.timer = none
        ∧ u.gripper.counter = s.gripper.counter ∧ u.fixed = s.fixed
        ∧ (∀ z, s.gripper.used.get z = true → (s.gripper.zones.get z).faulted = false →
            (u.gripper.zones.get z).blow = false)
        ∧ ∀ j, s.job = some j → j.gripped = true →
          (s.gantry.state = .busy → u.gantry.lastTravel = u.travelHeight)
          ∧ (∀ j', u.job = some j' → j'.released = true ∧ j'.carried = none
            ∧ ∀ c, j.kind = .put ∨ j.kind = .putaway → j.carried = some (.case c) → j'.delivered = c.type)
          ∧ (∀ st, j.station = some st → (u.stn.get st).mode =
              (if (s.stn.get st).mode = .plain .building ∧ (u.plan.get st).queue = [] ∧ u.boundTo st = false
                then .plain (if (s.plan.get st).closed then .complete else .idle) else (s.stn.get st).mode))
          ∧ (∀ st id c r p t e, j.kind = .place → j.dest = some (.placement st id) → j.carried = some (.case c) →
            j.reservation = some r → (s.plan.get st).find? id = some p → s.dir.typeAt p.type = some t →
            e = caseEntry p t r ((c.meas.map Measured.wei).getD 0) →
            (u.stack.get st).table = ((s.stack.get st).commit r e).table
            ∧ (u.stack.get st).map = ((s.stack.get st).commit r e).map
            ∧ (u.stack.get st).gross = (s.stack.get st).gross + e.weight
            ∧ (u.stack.get st).highest = max (s.stack.get st).highest (r.base + t.hei)
            ∧ u.outstanding st = none
            ∧ (∀ q ∈ (u.plan.get st).placements, q.id = id → q.state = .placed)
            ∧ (∀ (before : List Layer) (l : Layer) (after : List Layer) (l' : Layer), s.link.reports = [] →
              (s.plan.get st).queue = before ++ l :: after →
              (∃ q ∈ l.placements, q.id = id) →
              (∀ x ∈ before ++ after, (∀ q ∈ x.placements, q.id ≠ id) ∧ x.settle.complete = false) →
              l' = { l with placements := l.placements.map (fun q : Placement =>
                if q.id = id then { q with state := .placed } else q) } →
              (u.link.reports.map Report.body).filter
                  (fun r => match r with | .placed .. => true | .layerDone .. => true | _ => false) =
                .placed st id l.tag p.aisle (s.stack.get st).table.length e.weight p.order ::
                  if l'.settle.complete = true ∧ l.report = true then
                    [.layerDone st l.tag (l'.placements.countP (fun q => q.state == .placed))
                      (l'.placements.countP (fun q => q.state == .void)) l.sheetDone]
                  else [])
            ∧ ∀ before l after l', (s.plan.get st).queue = before ++ l :: after → (∃ q ∈ l.placements, q.id = id) →
              (∀ x ∈ before ++ after, (∀ q ∈ x.placements, q.id ≠ id) ∧ x.settle.complete = false) →
              l' = { l with placements := l.placements.map (fun q : Placement =>
                if q.id = id then { q with state := .placed } else q) } →
              (u.plan.get st).queue.map Layer.unswept =
                (if l'.settle.complete then before ++ after else before ++ l' :: after).map Layer.unswept)
          ∧ (∀ st r e, j.kind = .sheet → j.dest = some (.sheet st) → j.carried = some .sheet →
            j.reservation = some r → e = sheetEntry (s.stack.get st).limits.foot r →
            (u.stack.get st).table = ((s.stack.get st).commit r e).table
            ∧ (u.stack.get st).map = ((s.stack.get st).commit r e).map
            ∧ (u.stack.get st).gross = (s.stack.get st).gross + 3
            ∧ u.magazine = s.magazine - 1 ∧ u.outstanding st = none
            ∧ ∀ w rest, (s.plan.get st).queue = w :: rest →
              (∀ x ∈ rest, x.sheetJob = false ∧ x.settle.complete = false) →
              (s.link.reports = [] → (u.link.reports.map Report.body).filter
                  (fun r => match r with | .placed .. => true | .layerDone .. => true | _ => false) =
                if w.over = true ∧ w.report = true then
                  [.layerDone st w.tag (w.placements.countP (fun q => q.state == .placed))
                    (w.placements.countP (fun q => q.state == .void)) true]
                else [])
              ∧ (u.plan.get st).queue.map Layer.tag = (if w.over then rest else w :: rest).map Layer.tag
              ∧ (w.over = false → (u.plan.get st).sheetDue = false))
          ∧ (∀ i c, j.dest = some (.slot i) → j.carried = some (.case c) → s.slots[i] = .empty false →
            u.slots[i] = .held c s.clock (!s.wantedRec c))
          ∧ (j.dest = some .spill → u.spill = min (s.spill + 1) 6)))
  ∧ (∀ (s : State) (z : Zone),
    ((∀ ms, (s.gripper.zones.get z).valve ≠ .hold ms) → exec (.pullInExpiry z) s = .next s.ended)
    ∧ (∀ ms, (s.gripper.zones.get z).valve = .hold ms → exec (.pullInExpiry z) s = .next ({ s with
      gripper := { s.gripper with zones := s.gripper.zones.set z { s.gripper.zones.get z with
        valve := .hold (max ms s.gripper.set.pullIn) } } } : State).ended))
  ∧ (∀ (s : State) (z : Zone) (k : FaultKind) (v : Bool),
    (s.inputs.fault z k = v → s.inputs.changing (.fault z k) = none → exec (.faultInput z k v) s = .next s.ended)
    ∧ (s.inputs.fault z k ≠ v → s.inputs.missing (.fault z k) = 0 →
      ∀ (i : Inputs) (f : Gripper), i = (s.inputs.noteEvent (.fault z k)).setFault z k v →
      f = { s.gripper with zones := s.gripper.zones.set z ⟨.off, false, true⟩ } →
      (v = false ∨ (s.gripper.zones.get z).faulted = true →
        exec (.faultInput z k v) s = .next ({ s with inputs := i } : State).ended)
      ∧ (v = true → (s.gripper.zones.get z).faulted = false →
        (s.gripper.used.get z = false ∨ s.gripper.state ≠ .gripping ∧ s.watched = false →
          ∃ u : State, exec (.faultInput z k v) s = .next u.ended
            ∧ u = { s with inputs := i, gripper := f, link := u.link })
        ∧ (s.gripper.used.get z = true → s.watched = true →
          ∃ u : State, exec (.faultInput z k v) s = .next u.settle ∧ u.job = none ∧ u.gripper.dropMark = true
            ∧ u.gripper.counter = min (s.gripper.counter + 1) 6 ∧ u.gantry.state = .faulted .drop
            ∧ u.gantry.moving = false ∧ u.gantry.counters = s.gantry.counters)
        ∧ ∀ j left, s.gripper.used.get z = true → s.gripper.state = .gripping → s.job = some j →
          left = s.gripper.used.set z false →
          (zoneCount left < (s.gripNeeds (s.sourceCase j)).2 →
            ∃ u : State, exec (.faultInput z k v) s = .next u.settle
              ∧ u.gripper.counter = min (s.gripper.counter + 1) 6
              ∧ u.gripper.state = (if u.gripper.counter = 6 then .lockedOut else .idle) ∧ u.gripper.timer = none
              ∧ u.gripper.zones.get z = ⟨.off, false, true⟩)
          ∧ ((s.gripNeeds (s.sourceCase j)).2 ≤ zoneCount left →
            (∃ y, left.get y = true ∧ s.inputs.reading.get y < s.gripper.set.g) →
            ∃ u : State, exec (.faultInput z k v) s = .next u.ended
              ∧ u = { s with inputs := i, gripper := { f with used := left }, link := u.link })
          ∧ ((s.gripNeeds (s.sourceCase j)).2 ≤ zoneCount left → j.gripped = false →
            s.gripper.set.lo ≤ s.gripper.set.g → (∀ y, left.get y = true →
              s.gripper.set.g ≤ s.inputs.reading.get y ∧ (s.gripper.zones.get y).faulted = false) →
            ∃ (u : State) (j' : Job), exec (.faultInput z k v) s = .next u.settle ∧ u.job = some j'
              ∧ j'.gripped = true))))
  ∧ (∀ s : State,
    (s.gripper.decay = none → exec .decayExpiry s = .next s.ended)
    ∧ (∀ n, s.gripper.decay = some n → n < 600000 → exec .decayExpiry s = .next s.ended)
    ∧ (∀ n, s.gripper.decay = some n → 600000 ≤ n → exec .decayExpiry s = .next ({ s with
      gripper := { s.gripper with
        counter := s.gripper.counter - 1
        decay := if s.gripper.counter ≤ 1 then none else some 0 } } : State).ended))

/-! ### Laws that every step keeps -/

/-- The bounds of the stores (R9, R15, R65, R85, R90, R168, R173) are kept by every step, from every state that meets
them. -/
def Obligations.BoundsAreKeptByEveryStep : Prop :=
  ∀ s t : State, s.Bounded → step s = .next t → t.Bounded

/-- The law of bindings (R18, R23, R89) is kept by every step: no id stands twice in a station's pool, and a BOUND placement,
of either station, is the target of the one job, which holds its reservation. -/
def Obligations.BindingLawIsKeptByEveryStep : Prop :=
  ∀ s t : State, s.BindingLaw → step s = .next t → t.BindingLaw

/-- The laws of the stacks (R38 to R41, R50, R54, R55) are kept by every step: the map shows the entries, entries that share a
cell stand one above the other, at most 160 of them, no id in two, each with a height and with a support list of 1 to 48 pairs
whose shares are at least 1 and add up to its bearing count and whose entries have a lower base, no allowance above its rating,
the gross weight as the sum of theirs and within its limit, a placement PLACED exactly when an entry carries its id, and an
outstanding reservation, with every verdict that could become one, fitting the stack as it stands. -/
def Obligations.StackLawsAreKeptByEveryStep : Prop :=
  ∀ s t : State, s.BindingLaw → s.StackLaw → step s = .next t → t.StackLaw

/-- The lockout law of the grip-fault counter (R147) is kept by every step. -/
def Obligations.LockoutLawIsKeptByEveryStep : Prop :=
  ∀ s t : State, s.gripper.LockoutLaw → step s = .next t → t.gripper.LockoutLaw

/-- The law of the guard (R151) is kept by every step: no axis moves while the cell is GUARD_STOPPED. -/
def Obligations.NoAxisMovesWhileGuardStopped : Prop :=
  ∀ s t : State, s.GuardLaw → step s = .next t → t.GuardLaw

/-- While the settings lock is set, no command but POWER_ON changes a locked setting or clears the lock (R172). -/
def Obligations.LockedSettingsStayUntilPowerOn : Prop :=
  ∀ (c : Instr) (s t : State), s.link.lock = true → c ≠ .powerOn → exec c s = .next t →
    t.lockedSettings = s.lockedSettings
end

