-- ==== Sys2Proof/Laws/State.lean ====
section
/-! SUPPORT. One lemma per field per update of the state, each true by `rfl`, and the laws of the values kept per station,
lane, zone and axis. -/

namespace Sys2Proof.Machine

@[simp] theorem PerStation.get_set_same {α : Type} (p : PerStation α) (i : StationId) (v : α) : (p.set i v).get i = v := by
  cases i <;> rfl

theorem PerStation.get_set_ne {α : Type} (p : PerStation α) {i j : StationId} (v : α) (h : j ≠ i) : (p.set i v).get j = p.get j := by
  cases i <;> cases j <;> first | rfl | exact absurd rfl h

@[simp] theorem PerStation.set_get {α : Type} (p : PerStation α) (i : StationId) : p.set i (p.get i) = p := by
  cases i <;> rfl

@[simp] theorem PerLane.get_set_same {α : Type} (p : PerLane α) (i : LaneId) (v : α) : (p.set i v).get i = v := by
  cases i <;> rfl

theorem PerLane.get_set_ne {α : Type} (p : PerLane α) {i j : LaneId} (v : α) (h : j ≠ i) : (p.set i v).get j = p.get j := by
  cases i <;> cases j <;> first | rfl | exact absurd rfl h

@[simp] theorem PerLane.set_get {α : Type} (p : PerLane α) (i : LaneId) : p.set i (p.get i) = p := by
  cases i <;> rfl

@[simp] theorem PerZone.get_set_same {α : Type} (p : PerZone α) (i : Zone) (v : α) : (p.set i v).get i = v := by
  cases i <;> rfl

theorem PerZone.get_set_ne {α : Type} (p : PerZone α) {i j : Zone} (v : α) (h : j ≠ i) : (p.set i v).get j = p.get j := by
  cases i <;> cases j <;> first | rfl | exact absurd rfl h

@[simp] theorem PerZone.set_get {α : Type} (p : PerZone α) (i : Zone) : p.set i (p.get i) = p := by
  cases i <;> rfl

@[simp] theorem PerAxis.get_set_same {α : Type} (p : PerAxis α) (i : LinAxis) (v : α) : (p.set i v).get i = v := by
  cases i <;> rfl

theorem PerAxis.get_set_ne {α : Type} (p : PerAxis α) {i j : LinAxis} (v : α) (h : j ≠ i) : (p.set i v).get j = p.get j := by
  cases i <;> cases j <;> first | rfl | exact absurd rfl h

@[simp] theorem PerAxis.set_get {α : Type} (p : PerAxis α) (i : LinAxis) : p.set i (p.get i) = p := by
  cases i <;> rfl

@[simp] theorem PerZone.get_tab {α : Type} (f : Zone → α) (z : Zone) : (PerZone.tab f).get z = f z := by
  cases z <;> rfl

@[simp] theorem PerZone.get_map {α β : Type} (f : α → β) (p : PerZone α) (z : Zone) : (p.map f).get z = f (p.get z) := by
  cases z <;> rfl

@[simp] theorem PerAxis.get_map {α β : Type} (f : α → β) (p : PerAxis α) (i : LinAxis) : (p.map f).get i = f (p.get i) := by
  cases i <;> rfl

/-! ### setPlan -/

@[simp] theorem State.setPlan_pending (s : State) (st : StationId) (p : Plan) : (s.setPlan st p).pending = s.pending := rfl
@[simp] theorem State.setPlan_clock (s : State) (st : StationId) (p : Plan) : (s.setPlan st p).clock = s.clock := rfl
@[simp] theorem State.setPlan_inputs (s : State) (st : StationId) (p : Plan) : (s.setPlan st p).inputs = s.inputs := rfl
@[simp] theorem State.setPlan_dir (s : State) (st : StationId) (p : Plan) : (s.setPlan st p).dir = s.dir := rfl
@[simp] theorem State.setPlan_plan (s : State) (st : StationId) (p : Plan) : (s.setPlan st p).plan = s.plan.set st p := rfl
@[simp] theorem State.setPlan_stack (s : State) (st : StationId) (p : Plan) : (s.setPlan st p).stack = s.stack := rfl
@[simp] theorem State.setPlan_lanes (s : State) (st : StationId) (p : Plan) : (s.setPlan st p).lanes = s.lanes := rfl
@[simp] theorem State.setPlan_slots (s : State) (st : StationId) (p : Plan) : (s.setPlan st p).slots = s.slots := rfl
@[simp] theorem State.setPlan_spill (s : State) (st : StationId) (p : Plan) : (s.setPlan st p).spill = s.spill := rfl
@[simp] theorem State.setPlan_job (s : State) (st : StationId) (p : Plan) : (s.setPlan st p).job = s.job := rfl
@[simp] theorem State.setPlan_magazine (s : State) (st : StationId) (p : Plan) : (s.setPlan st p).magazine = s.magazine := rfl
@[simp] theorem State.setPlan_stall (s : State) (st : StationId) (p : Plan) : (s.setPlan st p).stall = s.stall := rfl
@[simp] theorem State.setPlan_gantry (s : State) (st : StationId) (p : Plan) : (s.setPlan st p).gantry = s.gantry := rfl
@[simp] theorem State.setPlan_gripper (s : State) (st : StationId) (p : Plan) : (s.setPlan st p).gripper = s.gripper := rfl
@[simp] theorem State.setPlan_cell (s : State) (st : StationId) (p : Plan) : (s.setPlan st p).cell = s.cell := rfl
@[simp] theorem State.setPlan_stn (s : State) (st : StationId) (p : Plan) : (s.setPlan st p).stn = s.stn := rfl
@[simp] theorem State.setPlan_link (s : State) (st : StationId) (p : Plan) : (s.setPlan st p).link = s.link := rfl
@[simp] theorem State.setPlan_evalDue (s : State) (st : StationId) (p : Plan) : (s.setPlan st p).evalDue = s.evalDue := rfl
@[simp] theorem State.setPlan_awaitDue (s : State) (st : StationId) (p : Plan) : (s.setPlan st p).awaitDue = s.awaitDue := rfl
@[simp] theorem State.setPlan_draws (s : State) (st : StationId) (p : Plan) : (s.setPlan st p).draws = s.draws := rfl

/-! ### setStack -/

@[simp] theorem State.setStack_pending (s : State) (st : StationId) (k : Stack) : (s.setStack st k).pending = s.pending := rfl
@[simp] theorem State.setStack_clock (s : State) (st : StationId) (k : Stack) : (s.setStack st k).clock = s.clock := rfl
@[simp] theorem State.setStack_inputs (s : State) (st : StationId) (k : Stack) : (s.setStack st k).inputs = s.inputs := rfl
@[simp] theorem State.setStack_dir (s : State) (st : StationId) (k : Stack) : (s.setStack st k).dir = s.dir := rfl
@[simp] theorem State.setStack_plan (s : State) (st : StationId) (k : Stack) : (s.setStack st k).plan = s.plan := rfl
@[simp] theorem State.setStack_stack (s : State) (st : StationId) (k : Stack) : (s.setStack st k).stack = s.stack.set st k := rfl
@[simp] theorem State.setStack_lanes (s : State) (st : StationId) (k : Stack) : (s.setStack st k).lanes = s.lanes := rfl
@[simp] theorem State.setStack_slots (s : State) (st : StationId) (k : Stack) : (s.setStack st k).slots = s.slots := rfl
@[simp] theorem State.setStack_spill (s : State) (st : StationId) (k : Stack) : (s.setStack st k).spill = s.spill := rfl
@[simp] theorem State.setStack_job (s : State) (st : StationId) (k : Stack) : (s.setStack st k).job = s.job := rfl
@[simp] theorem State.setStack_magazine (s : State) (st : StationId) (k : Stack) : (s.setStack st k).magazine = s.magazine := rfl
@[simp] theorem State.setStack_stall (s : State) (st : StationId) (k : Stack) : (s.setStack st k).stall = s.stall := rfl
@[simp] theorem State.setStack_gantry (s : State) (st : StationId) (k : Stack) : (s.setStack st k).gantry = s.gantry := rfl
@[simp] theorem State.setStack_gripper (s : State) (st : StationId) (k : Stack) : (s.setStack st k).gripper = s.gripper := rfl
@[simp] theorem State.setStack_cell (s : State) (st : StationId) (k : Stack) : (s.setStack st k).cell = s.cell := rfl
@[simp] theorem State.setStack_stn (s : State) (st : StationId) (k : Stack) : (s.setStack st k).stn = s.stn := rfl
@[simp] theorem State.setStack_link (s : State) (st : StationId) (k : Stack) : (s.setStack st k).link = s.link := rfl
@[simp] theorem State.setStack_evalDue (s : State) (st : StationId) (k : Stack) : (s.setStack st k).evalDue = s.evalDue := rfl
@[simp] theorem State.setStack_awaitDue (s : State) (st : StationId) (k : Stack) : (s.setStack st k).awaitDue = s.awaitDue := rfl
@[simp] theorem State.setStack_draws (s : State) (st : StationId) (k : Stack) : (s.setStack st k).draws = s.draws := rfl

/-! ### setStn -/

@[simp] theorem State.setStn_pending (s : State) (st : StationId) (n : Station) : (s.setStn st n).pending = s.pending := rfl
@[simp] theorem State.setStn_clock (s : State) (st : StationId) (n : Station) : (s.setStn st n).clock = s.clock := rfl
@[simp] theorem State.setStn_inputs (s : State) (st : StationId) (n : Station) : (s.setStn st n).inputs = s.inputs := rfl
@[simp] theorem State.setStn_dir (s : State) (st : StationId) (n : Station) : (s.setStn st n).dir = s.dir := rfl
@[simp] theorem State.setStn_plan (s : State) (st : StationId) (n : Station) : (s.setStn st n).plan = s.plan := rfl
@[simp] theorem State.setStn_stack (s : State) (st : StationId) (n : Station) : (s.setStn st n).stack = s.stack := rfl
@[simp] theorem State.setStn_lanes (s : State) (st : StationId) (n : Station) : (s.setStn st n).lanes = s.lanes := rfl
@[simp] theorem State.setStn_slots (s : State) (st : StationId) (n : Station) : (s.setStn st n).slots = s.slots := rfl
@[simp] theorem State.setStn_spill (s : State) (st : StationId) (n : Station) : (s.setStn st n).spill = s.spill := rfl
@[simp] theorem State.setStn_job (s : State) (st : StationId) (n : Station) : (s.setStn st n).job = s.job := rfl
@[simp] theorem State.setStn_magazine (s : State) (st : StationId) (n : Station) : (s.setStn st n).magazine = s.magazine := rfl
@[simp] theorem State.setStn_stall (s : State) (st : StationId) (n : Station) : (s.setStn st n).stall = s.stall := rfl
@[simp] theorem State.setStn_gantry (s : State) (st : StationId) (n : Station) : (s.setStn st n).gantry = s.gantry := rfl
@[simp] theorem State.setStn_gripper (s : State) (st : StationId) (n : Station) : (s.setStn st n).gripper = s.gripper := rfl
@[simp] theorem State.setStn_cell (s : State) (st : StationId) (n : Station) : (s.setStn st n).cell = s.cell := rfl
@[simp] theorem State.setStn_stn (s : State) (st : StationId) (n : Station) : (s.setStn st n).stn = s.stn.set st n := rfl
@[simp] theorem State.setStn_link (s : State) (st : StationId) (n : Station) : (s.setStn st n).link = s.link := rfl
@[simp] theorem State.setStn_evalDue (s : State) (st : StationId) (n : Station) : (s.setStn st n).evalDue = s.evalDue := rfl
@[simp] theorem State.setStn_awaitDue (s : State) (st : StationId) (n : Station) : (s.setStn st n).awaitDue = s.awaitDue := rfl
@[simp] theorem State.setStn_draws (s : State) (st : StationId) (n : Station) : (s.setStn st n).draws = s.draws := rfl

/-! ### setLane -/

@[simp] theorem State.setLane_pending (s : State) (l : LaneId) (n : Lane) : (s.setLane l n).pending = s.pending := rfl
@[simp] theorem State.setLane_clock (s : State) (l : LaneId) (n : Lane) : (s.setLane l n).clock = s.clock := rfl
@[simp] theorem State.setLane_inputs (s : State) (l : LaneId) (n : Lane) : (s.setLane l n).inputs = s.inputs := rfl
@[simp] theorem State.setLane_dir (s : State) (l : LaneId) (n : Lane) : (s.setLane l n).dir = s.dir := rfl
@[simp] theorem State.setLane_plan (s : State) (l : LaneId) (n : Lane) : (s.setLane l n).plan = s.plan := rfl
@[simp] theorem State.setLane_stack (s : State) (l : LaneId) (n : Lane) : (s.setLane l n).stack = s.stack := rfl
@[simp] theorem State.setLane_lanes (s : State) (l : LaneId) (n : Lane) : (s.setLane l n).lanes = s.lanes.set l n := rfl
@[simp] theorem State.setLane_slots (s : State) (l : LaneId) (n : Lane) : (s.setLane l n).slots = s.slots := rfl
@[simp] theorem State.setLane_spill (s : State) (l : LaneId) (n : Lane) : (s.setLane l n).spill = s.spill := rfl
@[simp] theorem State.setLane_job (s : State) (l : LaneId) (n : Lane) : (s.setLane l n).job = s.job := rfl
@[simp] theorem State.setLane_magazine (s : State) (l : LaneId) (n : Lane) : (s.setLane l n).magazine = s.magazine := rfl
@[simp] theorem State.setLane_stall (s : State) (l : LaneId) (n : Lane) : (s.setLane l n).stall = s.stall := rfl
@[simp] theorem State.setLane_gantry (s : State) (l : LaneId) (n : Lane) : (s.setLane l n).gantry = s.gantry := rfl
@[simp] theorem State.setLane_gripper (s : State) (l : LaneId) (n : Lane) : (s.setLane l n).gripper = s.gripper := rfl
@[simp] theorem State.setLane_cell (s : State) (l : LaneId) (n : Lane) : (s.setLane l n).cell = s.cell := rfl
@[simp] theorem State.setLane_stn (s : State) (l : LaneId) (n : Lane) : (s.setLane l n).stn = s.stn := rfl
@[simp] theorem State.setLane_link (s : State) (l : LaneId) (n : Lane) : (s.setLane l n).link = s.link := rfl
@[simp] theorem State.setLane_evalDue (s : State) (l : LaneId) (n : Lane) : (s.setLane l n).evalDue = s.evalDue := rfl
@[simp] theorem State.setLane_awaitDue (s : State) (l : LaneId) (n : Lane) : (s.setLane l n).awaitDue = s.awaitDue := rfl
@[simp] theorem State.setLane_draws (s : State) (l : LaneId) (n : Lane) : (s.setLane l n).draws = s.draws := rfl

/-! ### setSlot -/

@[simp] theorem State.setSlot_pending (s : State) (i : SlotId) (x : Slot) : (s.setSlot i x).pending = s.pending := rfl
@[simp] theorem State.setSlot_clock (s : State) (i : SlotId) (x : Slot) : (s.setSlot i x).clock = s.clock := rfl
@[simp] theorem State.setSlot_inputs (s : State) (i : SlotId) (x : Slot) : (s.setSlot i x).inputs = s.inputs := rfl
@[simp] theorem State.setSlot_dir (s : State) (i : SlotId) (x : Slot) : (s.setSlot i x).dir = s.dir := rfl
@[simp] theorem State.setSlot_plan (s : State) (i : SlotId) (x : Slot) : (s.setSlot i x).plan = s.plan := rfl
@[simp] theorem State.setSlot_stack (s : State) (i : SlotId) (x : Slot) : (s.setSlot i x).stack = s.stack := rfl
@[simp] theorem State.setSlot_lanes (s : State) (i : SlotId) (x : Slot) : (s.setSlot i x).lanes = s.lanes := rfl
@[simp] theorem State.setSlot_slots (s : State) (i : SlotId) (x : Slot) : (s.setSlot i x).slots = s.slots.set i x := rfl
@[simp] theorem State.setSlot_spill (s : State) (i : SlotId) (x : Slot) : (s.setSlot i x).spill = s.spill := rfl
@[simp] theorem State.setSlot_job (s : State) (i : SlotId) (x : Slot) : (s.setSlot i x).job = s.job := rfl
@[simp] theorem State.setSlot_magazine (s : State) (i : SlotId) (x : Slot) : (s.setSlot i x).magazine = s.magazine := rfl
@[simp] theorem State.setSlot_stall (s : State) (i : SlotId) (x : Slot) : (s.setSlot i x).stall = s.stall := rfl
@[simp] theorem State.setSlot_gantry (s : State) (i : SlotId) (x : Slot) : (s.setSlot i x).gantry = s.gantry := rfl
@[simp] theorem State.setSlot_gripper (s : State) (i : SlotId) (x : Slot) : (s.setSlot i x).gripper = s.gripper := rfl
@[simp] theorem State.setSlot_cell (s : State) (i : SlotId) (x : Slot) : (s.setSlot i x).cell = s.cell := rfl
@[simp] theorem State.setSlot_stn (s : State) (i : SlotId) (x : Slot) : (s.setSlot i x).stn = s.stn := rfl
@[simp] theorem State.setSlot_link (s : State) (i : SlotId) (x : Slot) : (s.setSlot i x).link = s.link := rfl
@[simp] theorem State.setSlot_evalDue (s : State) (i : SlotId) (x : Slot) : (s.setSlot i x).evalDue = s.evalDue := rfl
@[simp] theorem State.setSlot_awaitDue (s : State) (i : SlotId) (x : Slot) : (s.setSlot i x).awaitDue = s.awaitDue := rfl
@[simp] theorem State.setSlot_draws (s : State) (i : SlotId) (x : Slot) : (s.setSlot i x).draws = s.draws := rfl

/-! ### setJob -/

@[simp] theorem State.setJob_pending (s : State) (j : Option Job) : (s.setJob j).pending = s.pending := rfl
@[simp] theorem State.setJob_clock (s : State) (j : Option Job) : (s.setJob j).clock = s.clock := rfl
@[simp] theorem State.setJob_inputs (s : State) (j : Option Job) : (s.setJob j).inputs = s.inputs := rfl
@[simp] theorem State.setJob_dir (s : State) (j : Option Job) : (s.setJob j).dir = s.dir := rfl
@[simp] theorem State.setJob_plan (s : State) (j : Option Job) : (s.setJob j).plan = s.plan := rfl
@[simp] theorem State.setJob_stack (s : State) (j : Option Job) : (s.setJob j).stack = s.stack := rfl
@[simp] theorem State.setJob_lanes (s : State) (j : Option Job) : (s.setJob j).lanes = s.lanes := rfl
@[simp] theorem State.setJob_slots (s : State) (j : Option Job) : (s.setJob j).slots = s.slots := rfl
@[simp] theorem State.setJob_spill (s : State) (j : Option Job) : (s.setJob j).spill = s.spill := rfl
@[simp] theorem State.setJob_job (s : State) (j : Option Job) : (s.setJob j).job = j := rfl
@[simp] theorem State.setJob_magazine (s : State) (j : Option Job) : (s.setJob j).magazine = s.magazine := rfl
@[simp] theorem State.setJob_stall (s : State) (j : Option Job) : (s.setJob j).stall = s.stall := rfl
@[simp] theorem State.setJob_gantry (s : State) (j : Option Job) : (s.setJob j).gantry = s.gantry := rfl
@[simp] theorem State.setJob_gripper (s : State) (j : Option Job) : (s.setJob j).gripper = s.gripper := rfl
@[simp] theorem State.setJob_cell (s : State) (j : Option Job) : (s.setJob j).cell = s.cell := rfl
@[simp] theorem State.setJob_stn (s : State) (j : Option Job) : (s.setJob j).stn = s.stn := rfl
@[simp] theorem State.setJob_link (s : State) (j : Option Job) : (s.setJob j).link = s.link := rfl
@[simp] theorem State.setJob_evalDue (s : State) (j : Option Job) : (s.setJob j).evalDue = s.evalDue := rfl
@[simp] theorem State.setJob_awaitDue (s : State) (j : Option Job) : (s.setJob j).awaitDue = s.awaitDue := rfl
@[simp] theorem State.setJob_draws (s : State) (j : Option Job) : (s.setJob j).draws = s.draws := rfl

/-! ### setGantry -/

@[simp] theorem State.setGantry_pending (s : State) (g : Gantry) : (s.setGantry g).pending = s.pending := rfl
@[simp] theorem State.setGantry_clock (s : State) (g : Gantry) : (s.setGantry g).clock = s.clock := rfl
@[simp] theorem State.setGantry_inputs (s : State) (g : Gantry) : (s.setGantry g).inputs = s.inputs := rfl
@[simp] theorem State.setGantry_dir (s : State) (g : Gantry) : (s.setGantry g).dir = s.dir := rfl
@[simp] theorem State.setGantry_plan (s : State) (g : Gantry) : (s.setGantry g).plan = s.plan := rfl
@[simp] theorem State.setGantry_stack (s : State) (g : Gantry) : (s.setGantry g).stack = s.stack := rfl
@[simp] theorem State.setGantry_lanes (s : State) (g : Gantry) : (s.setGantry g).lanes = s.lanes := rfl
@[simp] theorem State.setGantry_slots (s : State) (g : Gantry) : (s.setGantry g).slots = s.slots := rfl
@[simp] theorem State.setGantry_spill (s : State) (g : Gantry) : (s.setGantry g).spill = s.spill := rfl
@[simp] theorem State.setGantry_job (s : State) (g : Gantry) : (s.setGantry g).job = s.job := rfl
@[simp] theorem State.setGantry_magazine (s : State) (g : Gantry) : (s.setGantry g).magazine = s.magazine := rfl
@[simp] theorem State.setGantry_stall (s : State) (g : Gantry) : (s.setGantry g).stall = s.stall := rfl
@[simp] theorem State.setGantry_gantry (s : State) (g : Gantry) : (s.setGantry g).gantry = g := rfl
@[simp] theorem State.setGantry_gripper (s : State) (g : Gantry) : (s.setGantry g).gripper = s.gripper := rfl
@[simp] theorem State.setGantry_cell (s : State) (g : Gantry) : (s.setGantry g).cell = s.cell := rfl
@[simp] theorem State.setGantry_stn (s : State) (g : Gantry) : (s.setGantry g).stn = s.stn := rfl
@[simp] theorem State.setGantry_link (s : State) (g : Gantry) : (s.setGantry g).link = s.link := rfl
@[simp] theorem State.setGantry_evalDue (s : State) (g : Gantry) : (s.setGantry g).evalDue = s.evalDue := rfl
@[simp] theorem State.setGantry_awaitDue (s : State) (g : Gantry) : (s.setGantry g).awaitDue = s.awaitDue := rfl
@[simp] theorem State.setGantry_draws (s : State) (g : Gantry) : (s.setGantry g).draws = s.draws := rfl

/-! ### setGripper -/

@[simp] theorem State.setGripper_pending (s : State) (g : Gripper) : (s.setGripper g).pending = s.pending := rfl
@[simp] theorem State.setGripper_clock (s : State) (g : Gripper) : (s.setGripper g).clock = s.clock := rfl
@[simp] theorem State.setGripper_inputs (s : State) (g : Gripper) : (s.setGripper g).inputs = s.inputs := rfl
@[simp] theorem State.setGripper_dir (s : State) (g : Gripper) : (s.setGripper g).dir = s.dir := rfl
@[simp] theorem State.setGripper_plan (s : State) (g : Gripper) : (s.setGripper g).plan = s.plan := rfl
@[simp] theorem State.setGripper_stack (s : State) (g : Gripper) : (s.setGripper g).stack = s.stack := rfl
@[simp] theorem State.setGripper_lanes (s : State) (g : Gripper) : (s.setGripper g).lanes = s.lanes := rfl
@[simp] theorem State.setGripper_slots (s : State) (g : Gripper) : (s.setGripper g).slots = s.slots := rfl
@[simp] theorem State.setGripper_spill (s : State) (g : Gripper) : (s.setGripper g).spill = s.spill := rfl
@[simp] theorem State.setGripper_job (s : State) (g : Gripper) : (s.setGripper g).job = s.job := rfl
@[simp] theorem State.setGripper_magazine (s : State) (g : Gripper) : (s.setGripper g).magazine = s.magazine := rfl
@[simp] theorem State.setGripper_stall (s : State) (g : Gripper) : (s.setGripper g).stall = s.stall := rfl
@[simp] theorem State.setGripper_gantry (s : State) (g : Gripper) : (s.setGripper g).gantry = s.gantry := rfl
@[simp] theorem State.setGripper_gripper (s : State) (g : Gripper) : (s.setGripper g).gripper = g := rfl
@[simp] theorem State.setGripper_cell (s : State) (g : Gripper) : (s.setGripper g).cell = s.cell := rfl
@[simp] theorem State.setGripper_stn (s : State) (g : Gripper) : (s.setGripper g).stn = s.stn := rfl
@[simp] theorem State.setGripper_link (s : State) (g : Gripper) : (s.setGripper g).link = s.link := rfl
@[simp] theorem State.setGripper_evalDue (s : State) (g : Gripper) : (s.setGripper g).evalDue = s.evalDue := rfl
@[simp] theorem State.setGripper_awaitDue (s : State) (g : Gripper) : (s.setGripper g).awaitDue = s.awaitDue := rfl
@[simp] theorem State.setGripper_draws (s : State) (g : Gripper) : (s.setGripper g).draws = s.draws := rfl

/-! ### setLink -/

@[simp] theorem State.setLink_pending (s : State) (l : Link) : (s.setLink l).pending = s.pending := rfl
@[simp] theorem State.setLink_clock (s : State) (l : Link) : (s.setLink l).clock = s.clock := rfl
@[simp] theorem State.setLink_inputs (s : State) (l : Link) : (s.setLink l).inputs = s.inputs := rfl
@[simp] theorem State.setLink_dir (s : State) (l : Link) : (s.setLink l).dir = s.dir := rfl
@[simp] theorem State.setLink_plan (s : State) (l : Link) : (s.setLink l).plan = s.plan := rfl
@[simp] theorem State.setLink_stack (s : State) (l : Link) : (s.setLink l).stack = s.stack := rfl
@[simp] theorem State.setLink_lanes (s : State) (l : Link) : (s.setLink l).lanes = s.lanes := rfl
@[simp] theorem State.setLink_slots (s : State) (l : Link) : (s.setLink l).slots = s.slots := rfl
@[simp] theorem State.setLink_spill (s : State) (l : Link) : (s.setLink l).spill = s.spill := rfl
@[simp] theorem State.setLink_job (s : State) (l : Link) : (s.setLink l).job = s.job := rfl
@[simp] theorem State.setLink_magazine (s : State) (l : Link) : (s.setLink l).magazine = s.magazine := rfl
@[simp] theorem State.setLink_stall (s : State) (l : Link) : (s.setLink l).stall = s.stall := rfl
@[simp] theorem State.setLink_gantry (s : State) (l : Link) : (s.setLink l).gantry = s.gantry := rfl
@[simp] theorem State.setLink_gripper (s : State) (l : Link) : (s.setLink l).gripper = s.gripper := rfl
@[simp] theorem State.setLink_cell (s : State) (l : Link) : (s.setLink l).cell = s.cell := rfl
@[simp] theorem State.setLink_stn (s : State) (l : Link) : (s.setLink l).stn = s.stn := rfl
@[simp] theorem State.setLink_link (s : State) (l : Link) : (s.setLink l).link = l := rfl
@[simp] theorem State.setLink_evalDue (s : State) (l : Link) : (s.setLink l).evalDue = s.evalDue := rfl
@[simp] theorem State.setLink_awaitDue (s : State) (l : Link) : (s.setLink l).awaitDue = s.awaitDue := rfl
@[simp] theorem State.setLink_draws (s : State) (l : Link) : (s.setLink l).draws = s.draws := rfl

/-! ### setInputs -/

@[simp] theorem State.setInputs_pending (s : State) (i : Inputs) : (s.setInputs i).pending = s.pending := rfl
@[simp] theorem State.setInputs_clock (s : State) (i : Inputs) : (s.setInputs i).clock = s.clock := rfl
@[simp] theorem State.setInputs_inputs (s : State) (i : Inputs) : (s.setInputs i).inputs = i := rfl
@[simp] theorem State.setInputs_dir (s : State) (i : Inputs) : (s.setInputs i).dir = s.dir := rfl
@[simp] theorem State.setInputs_plan (s : State) (i : Inputs) : (s.setInputs i).plan = s.plan := rfl
@[simp] theorem State.setInputs_stack (s : State) (i : Inputs) : (s.setInputs i).stack = s.stack := rfl
@[simp] theorem State.setInputs_lanes (s : State) (i : Inputs) : (s.setInputs i).lanes = s.lanes := rfl
@[simp] theorem State.setInputs_slots (s : State) (i : Inputs) : (s.setInputs i).slots = s.slots := rfl
@[simp] theorem State.setInputs_spill (s : State) (i : Inputs) : (s.setInputs i).spill = s.spill := rfl
@[simp] theorem State.setInputs_job (s : State) (i : Inputs) : (s.setInputs i).job = s.job := rfl
@[simp] theorem State.setInputs_magazine (s : State) (i : Inputs) : (s.setInputs i).magazine = s.magazine := rfl
@[simp] theorem State.setInputs_stall (s : State) (i : Inputs) : (s.setInputs i).stall = s.stall := rfl
@[simp] theorem State.setInputs_gantry (s : State) (i : Inputs) : (s.setInputs i).gantry = s.gantry := rfl
@[simp] theorem State.setInputs_gripper (s : State) (i : Inputs) : (s.setInputs i).gripper = s.gripper := rfl
@[simp] theorem State.setInputs_cell (s : State) (i : Inputs) : (s.setInputs i).cell = s.cell := rfl
@[simp] theorem State.setInputs_stn (s : State) (i : Inputs) : (s.setInputs i).stn = s.stn := rfl
@[simp] theorem State.setInputs_link (s : State) (i : Inputs) : (s.setInputs i).link = s.link := rfl
@[simp] theorem State.setInputs_evalDue (s : State) (i : Inputs) : (s.setInputs i).evalDue = s.evalDue := rfl
@[simp] theorem State.setInputs_awaitDue (s : State) (i : Inputs) : (s.setInputs i).awaitDue = s.awaitDue := rfl
@[simp] theorem State.setInputs_draws (s : State) (i : Inputs) : (s.setInputs i).draws = s.draws := rfl

/-! ### setDir -/

@[simp] theorem State.setDir_pending (s : State) (d : Directory) : (s.setDir d).pending = s.pending := rfl
@[simp] theorem State.setDir_clock (s : State) (d : Directory) : (s.setDir d).clock = s.clock := rfl
@[simp] theorem State.setDir_inputs (s : State) (d : Directory) : (s.setDir d).inputs = s.inputs := rfl
@[simp] theorem State.setDir_dir (s : State) (d : Directory) : (s.setDir d).dir = d := rfl
@[simp] theorem State.setDir_plan (s : State) (d : Directory) : (s.setDir d).plan = s.plan := rfl
@[simp] theorem State.setDir_stack (s : State) (d : Directory) : (s.setDir d).stack = s.stack := rfl
@[simp] theorem State.setDir_lanes (s : State) (d : Directory) : (s.setDir d).lanes = s.lanes := rfl
@[simp] theorem State.setDir_slots (s : State) (d : Directory) : (s.setDir d).slots = s.slots := rfl
@[simp] theorem State.setDir_spill (s : State) (d : Directory) : (s.setDir d).spill = s.spill := rfl
@[simp] theorem State.setDir_job (s : State) (d : Directory) : (s.setDir d).job = s.job := rfl
@[simp] theorem State.setDir_magazine (s : State) (d : Directory) : (s.setDir d).magazine = s.magazine := rfl
@[simp] theorem State.setDir_stall (s : State) (d : Directory) : (s.setDir d).stall = s.stall := rfl
@[simp] theorem State.setDir_gantry (s : State) (d : Directory) : (s.setDir d).gantry = s.gantry := rfl
@[simp] theorem State.setDir_gripper (s : State) (d : Directory) : (s.setDir d).gripper = s.gripper := rfl
@[simp] theorem State.setDir_cell (s : State) (d : Directory) : (s.setDir d).cell = s.cell := rfl
@[simp] theorem State.setDir_stn (s : State) (d : Directory) : (s.setDir d).stn = s.stn := rfl
@[simp] theorem State.setDir_link (s : State) (d : Directory) : (s.setDir d).link = s.link := rfl
@[simp] theorem State.setDir_evalDue (s : State) (d : Directory) : (s.setDir d).evalDue = s.evalDue := rfl
@[simp] theorem State.setDir_awaitDue (s : State) (d : Directory) : (s.setDir d).awaitDue = s.awaitDue := rfl
@[simp] theorem State.setDir_draws (s : State) (d : Directory) : (s.setDir d).draws = s.draws := rfl

/-! ### setSpill -/

@[simp] theorem State.setSpill_pending (s : State) (n : Nat) : (s.setSpill n).pending = s.pending := rfl
@[simp] theorem State.setSpill_clock (s : State) (n : Nat) : (s.setSpill n).clock = s.clock := rfl
@[simp] theorem State.setSpill_inputs (s : State) (n : Nat) : (s.setSpill n).inputs = s.inputs := rfl
@[simp] theorem State.setSpill_dir (s : State) (n : Nat) : (s.setSpill n).dir = s.dir := rfl
@[simp] theorem State.setSpill_plan (s : State) (n : Nat) : (s.setSpill n).plan = s.plan := rfl
@[simp] theorem State.setSpill_stack (s : State) (n : Nat) : (s.setSpill n).stack = s.stack := rfl
@[simp] theorem State.setSpill_lanes (s : State) (n : Nat) : (s.setSpill n).lanes = s.lanes := rfl
@[simp] theorem State.setSpill_slots (s : State) (n : Nat) : (s.setSpill n).slots = s.slots := rfl
@[simp] theorem State.setSpill_spill (s : State) (n : Nat) : (s.setSpill n).spill = n := rfl
@[simp] theorem State.setSpill_job (s : State) (n : Nat) : (s.setSpill n).job = s.job := rfl
@[simp] theorem State.setSpill_magazine (s : State) (n : Nat) : (s.setSpill n).magazine = s.magazine := rfl
@[simp] theorem State.setSpill_stall (s : State) (n : Nat) : (s.setSpill n).stall = s.stall := rfl
@[simp] theorem State.setSpill_gantry (s : State) (n : Nat) : (s.setSpill n).gantry = s.gantry := rfl
@[simp] theorem State.setSpill_gripper (s : State) (n : Nat) : (s.setSpill n).gripper = s.gripper := rfl
@[simp] theorem State.setSpill_cell (s : State) (n : Nat) : (s.setSpill n).cell = s.cell := rfl
@[simp] theorem State.setSpill_stn (s : State) (n : Nat) : (s.setSpill n).stn = s.stn := rfl
@[simp] theorem State.setSpill_link (s : State) (n : Nat) : (s.setSpill n).link = s.link := rfl
@[simp] theorem State.setSpill_evalDue (s : State) (n : Nat) : (s.setSpill n).evalDue = s.evalDue := rfl
@[simp] theorem State.setSpill_awaitDue (s : State) (n : Nat) : (s.setSpill n).awaitDue = s.awaitDue := rfl
@[simp] theorem State.setSpill_draws (s : State) (n : Nat) : (s.setSpill n).draws = s.draws := rfl

/-! ### setMagazine -/

@[simp] theorem State.setMagazine_pending (s : State) (n : Nat) : (s.setMagazine n).pending = s.pending := rfl
@[simp] theorem State.setMagazine_clock (s : State) (n : Nat) : (s.setMagazine n).clock = s.clock := rfl
@[simp] theorem State.setMagazine_inputs (s : State) (n : Nat) : (s.setMagazine n).inputs = s.inputs := rfl
@[simp] theorem State.setMagazine_dir (s : State) (n : Nat) : (s.setMagazine n).dir = s.dir := rfl
@[simp] theorem State.setMagazine_plan (s : State) (n : Nat) : (s.setMagazine n).plan = s.plan := rfl
@[simp] theorem State.setMagazine_stack (s : State) (n : Nat) : (s.setMagazine n).stack = s.stack := rfl
@[simp] theorem State.setMagazine_lanes (s : State) (n : Nat) : (s.setMagazine n).lanes = s.lanes := rfl
@[simp] theorem State.setMagazine_slots (s : State) (n : Nat) : (s.setMagazine n).slots = s.slots := rfl
@[simp] theorem State.setMagazine_spill (s : State) (n : Nat) : (s.setMagazine n).spill = s.spill := rfl
@[simp] theorem State.setMagazine_job (s : State) (n : Nat) : (s.setMagazine n).job = s.job := rfl
@[simp] theorem State.setMagazine_magazine (s : State) (n : Nat) : (s.setMagazine n).magazine = n := rfl
@[simp] theorem State.setMagazine_stall (s : State) (n : Nat) : (s.setMagazine n).stall = s.stall := rfl
@[simp] theorem State.setMagazine_gantry (s : State) (n : Nat) : (s.setMagazine n).gantry = s.gantry := rfl
@[simp] theorem State.setMagazine_gripper (s : State) (n : Nat) : (s.setMagazine n).gripper = s.gripper := rfl
@[simp] theorem State.setMagazine_cell (s : State) (n : Nat) : (s.setMagazine n).cell = s.cell := rfl
@[simp] theorem State.setMagazine_stn (s : State) (n : Nat) : (s.setMagazine n).stn = s.stn := rfl
@[simp] theorem State.setMagazine_link (s : State) (n : Nat) : (s.setMagazine n).link = s.link := rfl
@[simp] theorem State.setMagazine_evalDue (s : State) (n : Nat) : (s.setMagazine n).evalDue = s.evalDue := rfl
@[simp] theorem State.setMagazine_awaitDue (s : State) (n : Nat) : (s.setMagazine n).awaitDue = s.awaitDue := rfl
@[simp] theorem State.setMagazine_draws (s : State) (n : Nat) : (s.setMagazine n).draws = s.draws := rfl

/-! ### setStall -/

@[simp] theorem State.setStall_pending (s : State) (st : StationId) (b : Bool) : (s.setStall st b).pending = s.pending := rfl
@[simp] theorem State.setStall_clock (s : State) (st : StationId) (b : Bool) : (s.setStall st b).clock = s.clock := rfl
@[simp] theorem State.setStall_inputs (s : State) (st : StationId) (b : Bool) : (s.setStall st b).inputs = s.inputs := rfl
@[simp] theorem State.setStall_dir (s : State) (st : StationId) (b : Bool) : (s.setStall st b).dir = s.dir := rfl
@[simp] theorem State.setStall_plan (s : State) (st : StationId) (b : Bool) : (s.setStall st b).plan = s.plan := rfl
@[simp] theorem State.setStall_stack (s : State) (st : StationId) (b : Bool) : (s.setStall st b).stack = s.stack := rfl
@[simp] theorem State.setStall_lanes (s : State) (st : StationId) (b : Bool) : (s.setStall st b).lanes = s.lanes := rfl
@[simp] theorem State.setStall_slots (s : State) (st : StationId) (b : Bool) : (s.setStall st b).slots = s.slots := rfl
@[simp] theorem State.setStall_spill (s : State) (st : StationId) (b : Bool) : (s.setStall st b).spill = s.spill := rfl
@[simp] theorem State.setStall_job (s : State) (st : StationId) (b : Bool) : (s.setStall st b).job = s.job := rfl
@[simp] theorem State.setStall_magazine (s : State) (st : StationId) (b : Bool) : (s.setStall st b).magazine = s.magazine := rfl
@[simp] theorem State.setStall_stall (s : State) (st : StationId) (b : Bool) : (s.setStall st b).stall = s.stall.set st b := rfl
@[simp] theorem State.setStall_gantry (s : State) (st : StationId) (b : Bool) : (s.setStall st b).gantry = s.gantry := rfl
@[simp] theorem State.setStall_gripper (s : State) (st : StationId) (b : Bool) : (s.setStall st b).gripper = s.gripper := rfl
@[simp] theorem State.setStall_cell (s : State) (st : StationId) (b : Bool) : (s.setStall st b).cell = s.cell := rfl
@[simp] theorem State.setStall_stn (s : State) (st : StationId) (b : Bool) : (s.setStall st b).stn = s.stn := rfl
@[simp] theorem State.setStall_link (s : State) (st : StationId) (b : Bool) : (s.setStall st b).link = s.link := rfl
@[simp] theorem State.setStall_evalDue (s : State) (st : StationId) (b : Bool) : (s.setStall st b).evalDue = s.evalDue := rfl
@[simp] theorem State.setStall_awaitDue (s : State) (st : StationId) (b : Bool) : (s.setStall st b).awaitDue = s.awaitDue := rfl
@[simp] theorem State.setStall_draws (s : State) (st : StationId) (b : Bool) : (s.setStall st b).draws = s.draws := rfl

/-! ### setAuto -/

@[simp] theorem State.setAuto_pending (s : State) (b : Bool) : (s.setAuto b).pending = s.pending := rfl
@[simp] theorem State.setAuto_clock (s : State) (b : Bool) : (s.setAuto b).clock = s.clock := rfl
@[simp] theorem State.setAuto_inputs (s : State) (b : Bool) : (s.setAuto b).inputs = s.inputs := rfl
@[simp] theorem State.setAuto_dir (s : State) (b : Bool) : (s.setAuto b).dir = s.dir := rfl
@[simp] theorem State.setAuto_plan (s : State) (b : Bool) : (s.setAuto b).plan = s.plan := rfl
@[simp] theorem State.setAuto_stack (s : State) (b : Bool) : (s.setAuto b).stack = s.stack := rfl
@[simp] theorem State.setAuto_lanes (s : State) (b : Bool) : (s.setAuto b).lanes = s.lanes := rfl
@[simp] theorem State.setAuto_slots (s : State) (b : Bool) : (s.setAuto b).slots = s.slots := rfl
@[simp] theorem State.setAuto_spill (s : State) (b : Bool) : (s.setAuto b).spill = s.spill := rfl
@[simp] theorem State.setAuto_job (s : State) (b : Bool) : (s.setAuto b).job = s.job := rfl
@[simp] theorem State.setAuto_magazine (s : State) (b : Bool) : (s.setAuto b).magazine = s.magazine := rfl
@[simp] theorem State.setAuto_stall (s : State) (b : Bool) : (s.setAuto b).stall = s.stall := rfl
@[simp] theorem State.setAuto_gantry (s : State) (b : Bool) : (s.setAuto b).gantry = s.gantry := rfl
@[simp] theorem State.setAuto_gripper (s : State) (b : Bool) : (s.setAuto b).gripper = s.gripper := rfl
@[simp] theorem State.setAuto_cell (s : State) (b : Bool) : (s.setAuto b).cell = ⟨s.cell.run, b⟩ := rfl
@[simp] theorem State.setAuto_stn (s : State) (b : Bool) : (s.setAuto b).stn = s.stn := rfl
@[simp] theorem State.setAuto_link (s : State) (b : Bool) : (s.setAuto b).link = s.link := rfl
@[simp] theorem State.setAuto_evalDue (s : State) (b : Bool) : (s.setAuto b).evalDue = s.evalDue := rfl
@[simp] theorem State.setAuto_awaitDue (s : State) (b : Bool) : (s.setAuto b).awaitDue = s.awaitDue := rfl
@[simp] theorem State.setAuto_draws (s : State) (b : Bool) : (s.setAuto b).draws = s.draws := rfl

/-! ### setCellRun -/

@[simp] theorem State.setCellRun_pending (s : State) (r : CellRun) : (s.setCellRun r).pending = s.pending := rfl
@[simp] theorem State.setCellRun_clock (s : State) (r : CellRun) : (s.setCellRun r).clock = s.clock := rfl
@[simp] theorem State.setCellRun_inputs (s : State) (r : CellRun) : (s.setCellRun r).inputs = s.inputs := rfl
@[simp] theorem State.setCellRun_dir (s : State) (r : CellRun) : (s.setCellRun r).dir = s.dir := rfl
@[simp] theorem State.setCellRun_plan (s : State) (r : CellRun) : (s.setCellRun r).plan = s.plan := rfl
@[simp] theorem State.setCellRun_stack (s : State) (r : CellRun) : (s.setCellRun r).stack = s.stack := rfl
@[simp] theorem State.setCellRun_lanes (s : State) (r : CellRun) : (s.setCellRun r).lanes = s.lanes := rfl
@[simp] theorem State.setCellRun_slots (s : State) (r : CellRun) : (s.setCellRun r).slots = s.slots := rfl
@[simp] theorem State.setCellRun_spill (s : State) (r : CellRun) : (s.setCellRun r).spill = s.spill := rfl
@[simp] theorem State.setCellRun_job (s : State) (r : CellRun) : (s.setCellRun r).job = s.job := rfl
@[simp] theorem State.setCellRun_magazine (s : State) (r : CellRun) : (s.setCellRun r).magazine = s.magazine := rfl
@[simp] theorem State.setCellRun_stall (s : State) (r : CellRun) : (s.setCellRun r).stall = s.stall := rfl
@[simp] theorem State.setCellRun_gantry (s : State) (r : CellRun) : (s.setCellRun r).gantry = s.gantry := rfl
@[simp] theorem State.setCellRun_gripper (s : State) (r : CellRun) : (s.setCellRun r).gripper = s.gripper := rfl
@[simp] theorem State.setCellRun_cell (s : State) (r : CellRun) : (s.setCellRun r).cell = ⟨r, s.cell.auto⟩ := rfl
@[simp] theorem State.setCellRun_stn (s : State) (r : CellRun) : (s.setCellRun r).stn = s.stn := rfl
@[simp] theorem State.setCellRun_link (s : State) (r : CellRun) : (s.setCellRun r).link = s.link := rfl
@[simp] theorem State.setCellRun_evalDue (s : State) (r : CellRun) : (s.setCellRun r).evalDue = s.evalDue := rfl
@[simp] theorem State.setCellRun_awaitDue (s : State) (r : CellRun) : (s.setCellRun r).awaitDue = s.awaitDue := rfl
@[simp] theorem State.setCellRun_draws (s : State) (r : CellRun) : (s.setCellRun r).draws = s.draws := rfl

/-! ### dispatchEvent -/

@[simp] theorem State.dispatchEvent_pending (s : State) : s.dispatchEvent.pending = s.pending := rfl
@[simp] theorem State.dispatchEvent_clock (s : State) : s.dispatchEvent.clock = s.clock := rfl
@[simp] theorem State.dispatchEvent_inputs (s : State) : s.dispatchEvent.inputs = s.inputs := rfl
@[simp] theorem State.dispatchEvent_dir (s : State) : s.dispatchEvent.dir = s.dir := rfl
@[simp] theorem State.dispatchEvent_plan (s : State) : s.dispatchEvent.plan = s.plan := rfl
@[simp] theorem State.dispatchEvent_stack (s : State) : s.dispatchEvent.stack = s.stack := rfl
@[simp] theorem State.dispatchEvent_lanes (s : State) : s.dispatchEvent.lanes = s.lanes := rfl
@[simp] theorem State.dispatchEvent_slots (s : State) : s.dispatchEvent.slots = s.slots := rfl
@[simp] theorem State.dispatchEvent_spill (s : State) : s.dispatchEvent.spill = s.spill := rfl
@[simp] theorem State.dispatchEvent_job (s : State) : s.dispatchEvent.job = s.job := rfl
@[simp] theorem State.dispatchEvent_magazine (s : State) : s.dispatchEvent.magazine = s.magazine := rfl
@[simp] theorem State.dispatchEvent_stall (s : State) : s.dispatchEvent.stall = s.stall := rfl
@[simp] theorem State.dispatchEvent_gantry (s : State) : s.dispatchEvent.gantry = s.gantry := rfl
@[simp] theorem State.dispatchEvent_gripper (s : State) : s.dispatchEvent.gripper = s.gripper := rfl
@[simp] theorem State.dispatchEvent_cell (s : State) : s.dispatchEvent.cell = s.cell := rfl
@[simp] theorem State.dispatchEvent_stn (s : State) : s.dispatchEvent.stn = s.stn := rfl
@[simp] theorem State.dispatchEvent_link (s : State) : s.dispatchEvent.link = s.link := rfl
@[simp] theorem State.dispatchEvent_evalDue (s : State) : s.dispatchEvent.evalDue = true := rfl
@[simp] theorem State.dispatchEvent_awaitDue (s : State) : s.dispatchEvent.awaitDue = s.awaitDue := rfl
@[simp] theorem State.dispatchEvent_draws (s : State) : s.dispatchEvent.draws = s.draws := rfl

/-! ### destinationEvent -/

@[simp] theorem State.destinationEvent_pending (s : State) : s.destinationEvent.pending = s.pending := rfl
@[simp] theorem State.destinationEvent_clock (s : State) : s.destinationEvent.clock = s.clock := rfl
@[simp] theorem State.destinationEvent_inputs (s : State) : s.destinationEvent.inputs = s.inputs := rfl
@[simp] theorem State.destinationEvent_dir (s : State) : s.destinationEvent.dir = s.dir := rfl
@[simp] theorem State.destinationEvent_plan (s : State) : s.destinationEvent.plan = s.plan := rfl
@[simp] theorem State.destinationEvent_stack (s : State) : s.destinationEvent.stack = s.stack := rfl
@[simp] theorem State.destinationEvent_lanes (s : State) : s.destinationEvent.lanes = s.lanes := rfl
@[simp] theorem State.destinationEvent_slots (s : State) : s.destinationEvent.slots = s.slots := rfl
@[simp] theorem State.destinationEvent_spill (s : State) : s.destinationEvent.spill = s.spill := rfl
@[simp] theorem State.destinationEvent_job (s : State) : s.destinationEvent.job = s.job := rfl
@[simp] theorem State.destinationEvent_magazine (s : State) : s.destinationEvent.magazine = s.magazine := rfl
@[simp] theorem State.destinationEvent_stall (s : State) : s.destinationEvent.stall = s.stall := rfl
@[simp] theorem State.destinationEvent_gantry (s : State) : s.destinationEvent.gantry = s.gantry := rfl
@[simp] theorem State.destinationEvent_gripper (s : State) : s.destinationEvent.gripper = s.gripper := rfl
@[simp] theorem State.destinationEvent_cell (s : State) : s.destinationEvent.cell = s.cell := rfl
@[simp] theorem State.destinationEvent_stn (s : State) : s.destinationEvent.stn = s.stn := rfl
@[simp] theorem State.destinationEvent_link (s : State) : s.destinationEvent.link = s.link := rfl
@[simp] theorem State.destinationEvent_evalDue (s : State) : s.destinationEvent.evalDue = s.evalDue := rfl
@[simp] theorem State.destinationEvent_awaitDue (s : State) : s.destinationEvent.awaitDue = true := rfl
@[simp] theorem State.destinationEvent_draws (s : State) : s.destinationEvent.draws = s.draws := rfl

/-! ### report -/

@[simp] theorem State.report_pending (s : State) (b : ReportBody) : (s.report b).pending = s.pending := rfl
@[simp] theorem State.report_clock (s : State) (b : ReportBody) : (s.report b).clock = s.clock := rfl
@[simp] theorem State.report_inputs (s : State) (b : ReportBody) : (s.report b).inputs = s.inputs := rfl
@[simp] theorem State.report_dir (s : State) (b : ReportBody) : (s.report b).dir = s.dir := rfl
@[simp] theorem State.report_plan (s : State) (b : ReportBody) : (s.report b).plan = s.plan := rfl
@[simp] theorem State.report_stack (s : State) (b : ReportBody) : (s.report b).stack = s.stack := rfl
@[simp] theorem State.report_lanes (s : State) (b : ReportBody) : (s.report b).lanes = s.lanes := rfl
@[simp] theorem State.report_slots (s : State) (b : ReportBody) : (s.report b).slots = s.slots := rfl
@[simp] theorem State.report_spill (s : State) (b : ReportBody) : (s.report b).spill = s.spill := rfl
@[simp] theorem State.report_job (s : State) (b : ReportBody) : (s.report b).job = s.job := rfl
@[simp] theorem State.report_magazine (s : State) (b : ReportBody) : (s.report b).magazine = s.magazine := rfl
@[simp] theorem State.report_stall (s : State) (b : ReportBody) : (s.report b).stall = s.stall := rfl
@[simp] theorem State.report_gantry (s : State) (b : ReportBody) : (s.report b).gantry = s.gantry := rfl
@[simp] theorem State.report_gripper (s : State) (b : ReportBody) : (s.report b).gripper = s.gripper := rfl
@[simp] theorem State.report_cell (s : State) (b : ReportBody) : (s.report b).cell = s.cell := rfl
@[simp] theorem State.report_stn (s : State) (b : ReportBody) : (s.report b).stn = s.stn := rfl
@[simp] theorem State.report_link (s : State) (b : ReportBody) : (s.report b).link = s.link.enqueue ⟨b, b.cls, s.clock % 4294967296⟩ := rfl
@[simp] theorem State.report_evalDue (s : State) (b : ReportBody) : (s.report b).evalDue = s.evalDue := rfl
@[simp] theorem State.report_awaitDue (s : State) (b : ReportBody) : (s.report b).awaitDue = s.awaitDue := rfl
@[simp] theorem State.report_draws (s : State) (b : ReportBody) : (s.report b).draws = s.draws := rfl

/-! ### setMotion -/

@[simp] theorem State.setMotion_pending (s : State) (m : Motion) : (s.setMotion m).pending = s.pending := rfl
@[simp] theorem State.setMotion_clock (s : State) (m : Motion) : (s.setMotion m).clock = s.clock := rfl
@[simp] theorem State.setMotion_inputs (s : State) (m : Motion) : (s.setMotion m).inputs = s.inputs := rfl
@[simp] theorem State.setMotion_dir (s : State) (m : Motion) : (s.setMotion m).dir = s.dir := rfl
@[simp] theorem State.setMotion_plan (s : State) (m : Motion) : (s.setMotion m).plan = s.plan := rfl
@[simp] theorem State.setMotion_stack (s : State) (m : Motion) : (s.setMotion m).stack = s.stack := rfl
@[simp] theorem State.setMotion_lanes (s : State) (m : Motion) : (s.setMotion m).lanes = s.lanes := rfl
@[simp] theorem State.setMotion_slots (s : State) (m : Motion) : (s.setMotion m).slots = s.slots := rfl
@[simp] theorem State.setMotion_spill (s : State) (m : Motion) : (s.setMotion m).spill = s.spill := rfl
@[simp] theorem State.setMotion_job (s : State) (m : Motion) : (s.setMotion m).job = s.job := rfl
@[simp] theorem State.setMotion_magazine (s : State) (m : Motion) : (s.setMotion m).magazine = s.magazine := rfl
@[simp] theorem State.setMotion_stall (s : State) (m : Motion) : (s.setMotion m).stall = s.stall := rfl
@[simp] theorem State.setMotion_gantry (s : State) (m : Motion) : (s.setMotion m).gantry = { s.gantry with motion := m } := rfl
@[simp] theorem State.setMotion_gripper (s : State) (m : Motion) : (s.setMotion m).gripper = s.gripper := rfl
@[simp] theorem State.setMotion_cell (s : State) (m : Motion) : (s.setMotion m).cell = s.cell := rfl
@[simp] theorem State.setMotion_stn (s : State) (m : Motion) : (s.setMotion m).stn = s.stn := rfl
@[simp] theorem State.setMotion_link (s : State) (m : Motion) : (s.setMotion m).link = s.link := rfl
@[simp] theorem State.setMotion_evalDue (s : State) (m : Motion) : (s.setMotion m).evalDue = s.evalDue := rfl
@[simp] theorem State.setMotion_awaitDue (s : State) (m : Motion) : (s.setMotion m).awaitDue = s.awaitDue := rfl
@[simp] theorem State.setMotion_draws (s : State) (m : Motion) : (s.setMotion m).draws = s.draws := rfl

/-! ### modifyJob -/

@[simp] theorem State.modifyJob_pending (s : State) (f : Job → Job) : (s.modifyJob f).pending = s.pending := rfl
@[simp] theorem State.modifyJob_clock (s : State) (f : Job → Job) : (s.modifyJob f).clock = s.clock := rfl
@[simp] theorem State.modifyJob_inputs (s : State) (f : Job → Job) : (s.modifyJob f).inputs = s.inputs := rfl
@[simp] theorem State.modifyJob_dir (s : State) (f : Job → Job) : (s.modifyJob f).dir = s.dir := rfl
@[simp] theorem State.modifyJob_plan (s : State) (f : Job → Job) : (s.modifyJob f).plan = s.plan := rfl
@[simp] theorem State.modifyJob_stack (s : State) (f : Job → Job) : (s.modifyJob f).stack = s.stack := rfl
@[simp] theorem State.modifyJob_lanes (s : State) (f : Job → Job) : (s.modifyJob f).lanes = s.lanes := rfl
@[simp] theorem State.modifyJob_slots (s : State) (f : Job → Job) : (s.modifyJob f).slots = s.slots := rfl
@[simp] theorem State.modifyJob_spill (s : State) (f : Job → Job) : (s.modifyJob f).spill = s.spill := rfl
@[simp] theorem State.modifyJob_job (s : State) (f : Job → Job) : (s.modifyJob f).job = s.job.map f := rfl
@[simp] theorem State.modifyJob_magazine (s : State) (f : Job → Job) : (s.modifyJob f).magazine = s.magazine := rfl
@[simp] theorem State.modifyJob_stall (s : State) (f : Job → Job) : (s.modifyJob f).stall = s.stall := rfl
@[simp] theorem State.modifyJob_gantry (s : State) (f : Job → Job) : (s.modifyJob f).gantry = s.gantry := rfl
@[simp] theorem State.modifyJob_gripper (s : State) (f : Job → Job) : (s.modifyJob f).gripper = s.gripper := rfl
@[simp] theorem State.modifyJob_cell (s : State) (f : Job → Job) : (s.modifyJob f).cell = s.cell := rfl
@[simp] theorem State.modifyJob_stn (s : State) (f : Job → Job) : (s.modifyJob f).stn = s.stn := rfl
@[simp] theorem State.modifyJob_link (s : State) (f : Job → Job) : (s.modifyJob f).link = s.link := rfl
@[simp] theorem State.modifyJob_evalDue (s : State) (f : Job → Job) : (s.modifyJob f).evalDue = s.evalDue := rfl
@[simp] theorem State.modifyJob_awaitDue (s : State) (f : Job → Job) : (s.modifyJob f).awaitDue = s.awaitDue := rfl
@[simp] theorem State.modifyJob_draws (s : State) (f : Job → Job) : (s.modifyJob f).draws = s.draws := rfl

/-! ### setPhase -/

@[simp] theorem State.setPhase_pending (s : State) (p : Phase) : (s.setPhase p).pending = s.pending := rfl
@[simp] theorem State.setPhase_clock (s : State) (p : Phase) : (s.setPhase p).clock = s.clock := rfl
@[simp] theorem State.setPhase_inputs (s : State) (p : Phase) : (s.setPhase p).inputs = s.inputs := rfl
@[simp] theorem State.setPhase_dir (s : State) (p : Phase) : (s.setPhase p).dir = s.dir := rfl
@[simp] theorem State.setPhase_plan (s : State) (p : Phase) : (s.setPhase p).plan = s.plan := rfl
@[simp] theorem State.setPhase_stack (s : State) (p : Phase) : (s.setPhase p).stack = s.stack := rfl
@[simp] theorem State.setPhase_lanes (s : State) (p : Phase) : (s.setPhase p).lanes = s.lanes := rfl
@[simp] theorem State.setPhase_slots (s : State) (p : Phase) : (s.setPhase p).slots = s.slots := rfl
@[simp] theorem State.setPhase_spill (s : State) (p : Phase) : (s.setPhase p).spill = s.spill := rfl
@[simp] theorem State.setPhase_job (s : State) (p : Phase) : (s.setPhase p).job = s.job.map (fun j => { j with phase := p }) := rfl
@[simp] theorem State.setPhase_magazine (s : State) (p : Phase) : (s.setPhase p).magazine = s.magazine := rfl
@[simp] theorem State.setPhase_stall (s : State) (p : Phase) : (s.setPhase p).stall = s.stall := rfl
@[simp] theorem State.setPhase_gantry (s : State) (p : Phase) : (s.setPhase p).gantry = s.gantry := rfl
@[simp] theorem State.setPhase_gripper (s : State) (p : Phase) : (s.setPhase p).gripper = s.gripper := rfl
@[simp] theorem State.setPhase_cell (s : State) (p : Phase) : (s.setPhase p).cell = s.cell := rfl
@[simp] theorem State.setPhase_stn (s : State) (p : Phase) : (s.setPhase p).stn = s.stn := rfl
@[simp] theorem State.setPhase_link (s : State) (p : Phase) : (s.setPhase p).link = s.link := rfl
@[simp] theorem State.setPhase_evalDue (s : State) (p : Phase) : (s.setPhase p).evalDue = s.evalDue := rfl
@[simp] theorem State.setPhase_awaitDue (s : State) (p : Phase) : (s.setPhase p).awaitDue = s.awaitDue := rfl
@[simp] theorem State.setPhase_draws (s : State) (p : Phase) : (s.setPhase p).draws = s.draws := rfl

/-! ### computeTravel -/

@[simp] theorem State.computeTravel_pending (s : State) : s.computeTravel.pending = s.pending := rfl
@[simp] theorem State.computeTravel_clock (s : State) : s.computeTravel.clock = s.clock := rfl
@[simp] theorem State.computeTravel_inputs (s : State) : s.computeTravel.inputs = s.inputs := rfl
@[simp] theorem State.computeTravel_dir (s : State) : s.computeTravel.dir = s.dir := rfl
@[simp] theorem State.computeTravel_plan (s : State) : s.computeTravel.plan = s.plan := rfl
@[simp] theorem State.computeTravel_stack (s : State) : s.computeTravel.stack = s.stack := rfl
@[simp] theorem State.computeTravel_lanes (s : State) : s.computeTravel.lanes = s.lanes := rfl
@[simp] theorem State.computeTravel_slots (s : State) : s.computeTravel.slots = s.slots := rfl
@[simp] theorem State.computeTravel_spill (s : State) : s.computeTravel.spill = s.spill := rfl
@[simp] theorem State.computeTravel_job (s : State) : s.computeTravel.job = s.job := rfl
@[simp] theorem State.computeTravel_magazine (s : State) : s.computeTravel.magazine = s.magazine := rfl
@[simp] theorem State.computeTravel_stall (s : State) : s.computeTravel.stall = s.stall := rfl
@[simp] theorem State.computeTravel_gantry (s : State) : s.computeTravel.gantry = { s.gantry with lastTravel := s.travelHeight } := rfl
@[simp] theorem State.computeTravel_gripper (s : State) : s.computeTravel.gripper = s.gripper := rfl
@[simp] theorem State.computeTravel_cell (s : State) : s.computeTravel.cell = s.cell := rfl
@[simp] theorem State.computeTravel_stn (s : State) : s.computeTravel.stn = s.stn := rfl
@[simp] theorem State.computeTravel_link (s : State) : s.computeTravel.link = s.link := rfl
@[simp] theorem State.computeTravel_evalDue (s : State) : s.computeTravel.evalDue = s.evalDue := rfl
@[simp] theorem State.computeTravel_awaitDue (s : State) : s.computeTravel.awaitDue = s.awaitDue := rfl
@[simp] theorem State.computeTravel_draws (s : State) : s.computeTravel.draws = s.draws := rfl

/-! ### clearUsed -/

@[simp] theorem State.clearUsed_pending (s : State) : s.clearUsed.pending = s.pending := rfl
@[simp] theorem State.clearUsed_clock (s : State) : s.clearUsed.clock = s.clock := rfl
@[simp] theorem State.clearUsed_inputs (s : State) : s.clearUsed.inputs = s.inputs := rfl
@[simp] theorem State.clearUsed_dir (s : State) : s.clearUsed.dir = s.dir := rfl
@[simp] theorem State.clearUsed_plan (s : State) : s.clearUsed.plan = s.plan := rfl
@[simp] theorem State.clearUsed_stack (s : State) : s.clearUsed.stack = s.stack := rfl
@[simp] theorem State.clearUsed_lanes (s : State) : s.clearUsed.lanes = s.lanes := rfl
@[simp] theorem State.clearUsed_slots (s : State) : s.clearUsed.slots = s.slots := rfl
@[simp] theorem State.clearUsed_spill (s : State) : s.clearUsed.spill = s.spill := rfl
@[simp] theorem State.clearUsed_job (s : State) : s.clearUsed.job = s.job := rfl
@[simp] theorem State.clearUsed_magazine (s : State) : s.clearUsed.magazine = s.magazine := rfl
@[simp] theorem State.clearUsed_stall (s : State) : s.clearUsed.stall = s.stall := rfl
@[simp] theorem State.clearUsed_gantry (s : State) : s.clearUsed.gantry = s.gantry := rfl
@[simp] theorem State.clearUsed_gripper (s : State) : s.clearUsed.gripper = { s.gripper with used := noZones } := rfl
@[simp] theorem State.clearUsed_cell (s : State) : s.clearUsed.cell = s.cell := rfl
@[simp] theorem State.clearUsed_stn (s : State) : s.clearUsed.stn = s.stn := rfl
@[simp] theorem State.clearUsed_link (s : State) : s.clearUsed.link = s.link := rfl
@[simp] theorem State.clearUsed_evalDue (s : State) : s.clearUsed.evalDue = s.evalDue := rfl
@[simp] theorem State.clearUsed_awaitDue (s : State) : s.clearUsed.awaitDue = s.awaitDue := rfl
@[simp] theorem State.clearUsed_draws (s : State) : s.clearUsed.draws = s.draws := rfl

/-! ### fresh -/

@[simp] theorem State.fresh_pending (s : State) : s.fresh.pending = s.pending := rfl
@[simp] theorem State.fresh_clock (s : State) : s.fresh.clock = s.clock := rfl
@[simp] theorem State.fresh_inputs (s : State) : s.fresh.inputs = s.inputs := rfl
@[simp] theorem State.fresh_dir (s : State) : s.fresh.dir = s.dir := rfl
@[simp] theorem State.fresh_plan (s : State) : s.fresh.plan = s.plan := rfl
@[simp] theorem State.fresh_stack (s : State) : s.fresh.stack = s.stack := rfl
@[simp] theorem State.fresh_lanes (s : State) : s.fresh.lanes = s.lanes := rfl
@[simp] theorem State.fresh_slots (s : State) : s.fresh.slots = s.slots := rfl
@[simp] theorem State.fresh_spill (s : State) : s.fresh.spill = s.spill := rfl
@[simp] theorem State.fresh_job (s : State) : s.fresh.job = s.job := rfl
@[simp] theorem State.fresh_magazine (s : State) : s.fresh.magazine = s.magazine := rfl
@[simp] theorem State.fresh_stall (s : State) : s.fresh.stall = s.stall := rfl
@[simp] theorem State.fresh_gantry (s : State) : s.fresh.gantry = s.gantry := rfl
@[simp] theorem State.fresh_gripper (s : State) : s.fresh.gripper = s.gripper := rfl
@[simp] theorem State.fresh_cell (s : State) : s.fresh.cell = s.cell := rfl
@[simp] theorem State.fresh_stn (s : State) : s.fresh.stn = s.stn := rfl
@[simp] theorem State.fresh_link (s : State) : s.fresh.link = s.link := rfl
@[simp] theorem State.fresh_evalDue (s : State) : s.fresh.evalDue = false := rfl
@[simp] theorem State.fresh_awaitDue (s : State) : s.fresh.awaitDue = false := rfl
@[simp] theorem State.fresh_draws (s : State) : s.fresh.draws = s.draws := rfl

/-! ### ended -/

@[simp] theorem State.ended_pending (s : State) : s.ended.pending = s.pending := rfl
@[simp] theorem State.ended_clock (s : State) : s.ended.clock = s.clock := rfl
@[simp] theorem State.ended_inputs (s : State) : s.ended.inputs = s.inputs := rfl
@[simp] theorem State.ended_dir (s : State) : s.ended.dir = s.dir := rfl
@[simp] theorem State.ended_plan (s : State) : s.ended.plan = s.plan := rfl
@[simp] theorem State.ended_stack (s : State) : s.ended.stack = s.stack := rfl
@[simp] theorem State.ended_lanes (s : State) : s.ended.lanes = s.lanes := rfl
@[simp] theorem State.ended_slots (s : State) : s.ended.slots = s.slots := rfl
@[simp] theorem State.ended_spill (s : State) : s.ended.spill = s.spill := rfl
@[simp] theorem State.ended_job (s : State) : s.ended.job = s.job := rfl
@[simp] theorem State.ended_magazine (s : State) : s.ended.magazine = s.magazine := rfl
@[simp] theorem State.ended_stall (s : State) : s.ended.stall = s.stall := rfl
@[simp] theorem State.ended_gantry (s : State) : s.ended.gantry = s.gantry := rfl
@[simp] theorem State.ended_gripper (s : State) : s.ended.gripper = s.gripper := rfl
@[simp] theorem State.ended_cell (s : State) : s.ended.cell = s.cell := rfl
@[simp] theorem State.ended_stn (s : State) : s.ended.stn = s.stn := rfl
@[simp] theorem State.ended_link (s : State) : s.ended.link = s.link.choose := rfl
@[simp] theorem State.ended_evalDue (s : State) : s.ended.evalDue = false := rfl
@[simp] theorem State.ended_awaitDue (s : State) : s.ended.awaitDue = false := rfl
@[simp] theorem State.ended_draws (s : State) : s.ended.draws = s.draws := rfl

end Sys2Proof.Machine
end

