-- ==== Sys2Proof/Laws/Fixed.lean ====
section
/-! SUPPORT. One lemma per shared operation: it changes nothing of `State.fixed`, which is the queue, the clock, the
inputs, the draws, the directory, the request side of the link and the settings of the lock. -/

namespace Sys2Proof.Machine

/-! ### Updates -/

@[simp] theorem Link.enqueue_framer (l : Link) (r : Report) : (l.enqueue r).framer = l.framer := by
  unfold Link.enqueue; (repeat' split) <;> rfl
@[simp] theorem Link.enqueue_backlog (l : Link) (r : Report) : (l.enqueue r).backlog = l.backlog := by
  unfold Link.enqueue; (repeat' split) <;> rfl
@[simp] theorem Link.enqueue_busy (l : Link) (r : Report) : (l.enqueue r).busy = l.busy := by
  unfold Link.enqueue; (repeat' split) <;> rfl
@[simp] theorem Link.enqueue_tx (l : Link) (r : Report) : (l.enqueue r).tx = l.tx := by
  unfold Link.enqueue; (repeat' split) <;> rfl
@[simp] theorem Link.enqueue_lock (l : Link) (r : Report) : (l.enqueue r).lock = l.lock := by
  unfold Link.enqueue; (repeat' split) <;> rfl

@[simp] theorem State.setPlan_fixed (s : State) (st : StationId) (p : Plan) : (s.setPlan st p).fixed = s.fixed := rfl
@[simp] theorem State.setLane_fixed (s : State) (l : LaneId) (n : Lane) : (s.setLane l n).fixed = s.fixed := rfl
@[simp] theorem State.setSlot_fixed (s : State) (i : SlotId) (x : Slot) : (s.setSlot i x).fixed = s.fixed := rfl
@[simp] theorem State.setJob_fixed (s : State) (j : Option Job) : (s.setJob j).fixed = s.fixed := rfl
@[simp] theorem State.modifyJob_fixed (s : State) (f : Job → Job) : (s.modifyJob f).fixed = s.fixed := rfl
@[simp] theorem State.setPhase_fixed (s : State) (p : Phase) : (s.setPhase p).fixed = s.fixed := rfl
@[simp] theorem State.setSpill_fixed (s : State) (n : Nat) : (s.setSpill n).fixed = s.fixed := rfl
@[simp] theorem State.setMagazine_fixed (s : State) (n : Nat) : (s.setMagazine n).fixed = s.fixed := rfl
@[simp] theorem State.setStall_fixed (s : State) (st : StationId) (b : Bool) : (s.setStall st b).fixed = s.fixed := rfl
@[simp] theorem State.setCellRun_fixed (s : State) (r : CellRun) : (s.setCellRun r).fixed = s.fixed := rfl
@[simp] theorem State.dispatchEvent_fixed (s : State) : s.dispatchEvent.fixed = s.fixed := rfl
@[simp] theorem State.destinationEvent_fixed (s : State) : s.destinationEvent.fixed = s.fixed := rfl
@[simp] theorem State.fresh_fixed (s : State) : s.fresh.fixed = s.fixed := rfl
@[simp] theorem State.setMotion_fixed (s : State) (m : Motion) : (s.setMotion m).fixed = s.fixed := rfl
@[simp] theorem State.computeTravel_fixed (s : State) : s.computeTravel.fixed = s.fixed := rfl
@[simp] theorem State.clearUsed_fixed (s : State) : s.clearUsed.fixed = s.fixed := rfl

@[simp] theorem State.report_fixed (s : State) (b : ReportBody) : (s.report b).fixed = s.fixed := by
  simp [State.fixed, State.lockedSettings]

theorem State.refuse_fst (s : State) (r : Result) : (s.refuse r).1 = s := rfl
theorem State.accept_fst (s : State) : s.accept.1 = s := rfl

@[simp] theorem State.setStack_fixed (s : State) (st : StationId) (k : Stack) (h : k.limits = (s.stack.get st).limits) :
    (s.setStack st k).fixed = s.fixed := by
  cases st <;> simp_all [State.fixed, State.lockedSettings, PerStation.set, PerStation.get]

@[simp] theorem State.setStn_fixed (s : State) (st : StationId) (n : Station)
    (h : n.sheetCost = (s.stn.get st).sheetCost) (h' : n.margin = (s.stn.get st).margin) :
    (s.setStn st n).fixed = s.fixed := by
  cases st <;> simp_all [State.fixed, State.lockedSettings, PerStation.set, PerStation.get]

@[simp] theorem State.setGripper_fixed (s : State) (g : Gripper) (h : g.set = s.gripper.set) :
    (s.setGripper g).fixed = s.fixed := by
  simp [State.fixed, State.lockedSettings, h]

@[simp] theorem State.setGantry_fixed (s : State) (g : Gantry) (h1 : g.profiles = s.gantry.profiles)
    (h2 : g.geometry = s.gantry.geometry) (h3 : g.geomDefined = s.gantry.geomDefined)
    (h4 : g.clearance = s.gantry.clearance) (h5 : g.homingSpeed = s.gantry.homingSpeed)
    (h6 : g.waitLimit = s.gantry.waitLimit) : (s.setGantry g).fixed = s.fixed := by
  simp [State.fixed, State.lockedSettings, h1, h2, h3, h4, h5, h6]

@[simp] theorem Gantry.halt_profiles (g : Gantry) : g.halt.profiles = g.profiles := by
  unfold Gantry.halt; rfl
@[simp] theorem Gantry.halt_geometry (g : Gantry) : g.halt.geometry = g.geometry := by
  unfold Gantry.halt; rfl
@[simp] theorem Gantry.halt_geomDefined (g : Gantry) : g.halt.geomDefined = g.geomDefined := by
  unfold Gantry.halt; rfl
@[simp] theorem Gantry.halt_clearance (g : Gantry) : g.halt.clearance = g.clearance := by
  unfold Gantry.halt; rfl
@[simp] theorem Gantry.halt_homingSpeed (g : Gantry) : g.halt.homingSpeed = g.homingSpeed := by
  unfold Gantry.halt; rfl
@[simp] theorem Gantry.halt_waitLimit (g : Gantry) : g.halt.waitLimit = g.waitLimit := by
  unfold Gantry.halt; rfl
@[simp] theorem Gantry.clearMarks_profiles (g : Gantry) : g.clearMarks.profiles = g.profiles := by
  unfold Gantry.clearMarks; rfl
@[simp] theorem Gantry.clearMarks_geometry (g : Gantry) : g.clearMarks.geometry = g.geometry := by
  unfold Gantry.clearMarks; rfl
@[simp] theorem Gantry.clearMarks_geomDefined (g : Gantry) : g.clearMarks.geomDefined = g.geomDefined := by
  unfold Gantry.clearMarks; rfl
@[simp] theorem Gantry.clearMarks_clearance (g : Gantry) : g.clearMarks.clearance = g.clearance := by
  unfold Gantry.clearMarks; rfl
@[simp] theorem Gantry.clearMarks_homingSpeed (g : Gantry) : g.clearMarks.homingSpeed = g.homingSpeed := by
  unfold Gantry.clearMarks; rfl
@[simp] theorem Gantry.clearMarks_waitLimit (g : Gantry) : g.clearMarks.waitLimit = g.waitLimit := by
  unfold Gantry.clearMarks; rfl
@[simp] theorem Gantry.setAxis_profiles (g : Gantry) (a : LinAxis) (v : LinState) : (g.setAxis a v).profiles = g.profiles := by
  unfold Gantry.setAxis; rfl
@[simp] theorem Gantry.setAxis_geometry (g : Gantry) (a : LinAxis) (v : LinState) : (g.setAxis a v).geometry = g.geometry := by
  unfold Gantry.setAxis; rfl
@[simp] theorem Gantry.setAxis_geomDefined (g : Gantry) (a : LinAxis) (v : LinState) : (g.setAxis a v).geomDefined = g.geomDefined := by
  unfold Gantry.setAxis; rfl
@[simp] theorem Gantry.setAxis_clearance (g : Gantry) (a : LinAxis) (v : LinState) : (g.setAxis a v).clearance = g.clearance := by
  unfold Gantry.setAxis; rfl
@[simp] theorem Gantry.setAxis_homingSpeed (g : Gantry) (a : LinAxis) (v : LinState) : (g.setAxis a v).homingSpeed = g.homingSpeed := by
  unfold Gantry.setAxis; rfl
@[simp] theorem Gantry.setAxis_waitLimit (g : Gantry) (a : LinAxis) (v : LinState) : (g.setAxis a v).waitLimit = g.waitLimit := by
  unfold Gantry.setAxis; rfl
@[simp] theorem Gantry.found_profiles (g : Gantry) (a : Axis) : (g.found a).profiles = g.profiles := by
  unfold Gantry.found; split <;> rfl
@[simp] theorem Gantry.found_geometry (g : Gantry) (a : Axis) : (g.found a).geometry = g.geometry := by
  unfold Gantry.found; split <;> rfl
@[simp] theorem Gantry.found_geomDefined (g : Gantry) (a : Axis) : (g.found a).geomDefined = g.geomDefined := by
  unfold Gantry.found; split <;> rfl
@[simp] theorem Gantry.found_clearance (g : Gantry) (a : Axis) : (g.found a).clearance = g.clearance := by
  unfold Gantry.found; split <;> rfl
@[simp] theorem Gantry.found_homingSpeed (g : Gantry) (a : Axis) : (g.found a).homingSpeed = g.homingSpeed := by
  unfold Gantry.found; split <;> rfl
@[simp] theorem Gantry.found_waitLimit (g : Gantry) (a : Axis) : (g.found a).waitLimit = g.waitLimit := by
  unfold Gantry.found; split <;> rfl

@[simp] theorem Gripper.mapUsed_set (g : Gripper) (f : ZoneRec → ZoneRec) : (g.mapUsed f).set = g.set := by
  unfold Gripper.mapUsed; rfl
@[simp] theorem Gripper.growth_set (g : Gripper) : g.growth.set = g.set := by
  unfold Gripper.growth; dsimp only; split <;> rfl
@[simp] theorem Gripper.blow_set (g : Gripper) (n : Nat) : (g.blow n).set = g.set := by
  unfold Gripper.blow; rfl
@[simp] theorem Gripper.cleared_set (g : Gripper) : g.cleared.set = g.set := by
  unfold Gripper.cleared; rfl
@[simp] theorem Stack.setSheetVerdict_limits (k : Stack) (v : Verdict) : (k.setSheetVerdict v).limits = k.limits := by
  unfold Stack.setSheetVerdict; rfl
@[simp] theorem Stack.commit_limits (k : Stack) (r : WalkResult) (e : Entry) : (k.commit r e).limits = k.limits := by
  unfold Stack.commit; rfl
@[simp] theorem Stack.bare_limits (l : Limits) : (Stack.bare l).limits = l := by
  unfold Stack.bare; rfl

@[simp] theorem State.foldl_fixed {α : Type} (f : State → α → State) (h : ∀ t a, (f t a).fixed = t.fixed) (l : List α)
    (s : State) : (l.foldl f s).fixed = s.fixed := by
  induction l generalizing s with
  | nil => rfl
  | cons a l ih => simp [ih, h]

/-! ### Ops -/

@[simp] theorem State.slotEvent_fixed (s : State) :
    (s.slotEvent).fixed = s.fixed := by
  unfold State.slotEvent
  simp

/-! ### Stations -/

@[simp] theorem State.reschedule_fixed (s : State) (st : StationId) :
    (s.reschedule st).fixed = s.fixed := by
  unfold State.reschedule
  dsimp only
  (repeat' split) <;> simp

@[simp] theorem State.stallTest_fixed (s : State) (st : StationId) :
    (s.stallTest st).fixed = s.fixed := by
  unfold State.stallTest
  dsimp only
  (repeat' split) <;> simp

@[simp] theorem State.setVerdict_fixed (s : State) (st : StationId) (c : Cand) (v : Verdict) :
    (s.setVerdict st c v).fixed = s.fixed := by
  unfold State.setVerdict
  (repeat' split) <;> simp

@[simp] theorem State.setSweep_fixed (s : State) (st : StationId) (w : Sweep) :
    (s.setSweep st w).fixed = s.fixed := by
  unfold State.setSweep
  simp

@[simp] theorem State.sweepEnd_fixed (s : State) (st : StationId) :
    (s.sweepEnd st).fixed = s.fixed := by
  unfold State.sweepEnd
  simp

@[simp] theorem State.startSweep_fixed (s : State) (st : StationId) :
    (s.startSweep st).fixed = s.fixed := by
  unfold State.startSweep
  dsimp only
  (repeat' split) <;> simp

@[simp] theorem State.sweepTrigger_fixed (s : State) (st : StationId) :
    (s.sweepTrigger st).fixed = s.fixed := by
  unfold State.sweepTrigger
  (repeat' split) <;> simp

@[simp] theorem State.sweepResume_fixed (s : State) (st : StationId) :
    (s.sweepResume st).fixed = s.fixed := by
  unfold State.sweepResume
  (repeat' split) <;> simp

@[simp] theorem State.noteVoid_fixed (s : State) (st : StationId) (id : Nat) :
    (s.noteVoid st id).fixed = s.fixed := by
  unfold State.noteVoid
  (repeat' split) <;> simp

@[simp] theorem State.walkEnds_fixed (s : State) (st : StationId) :
    (s.walkEnds st).fixed = s.fixed := by
  unfold State.walkEnds
  (repeat' split) <;> simp

@[simp] theorem State.stationSet_fixed (s : State) (st : StationId) (m : Mode) (early : Bool) :
    (s.stationSet st m early).fixed = s.fixed := by
  unfold State.stationSet
  dsimp only
  (repeat' split) <;> simp

@[simp] theorem State.endOfQueue_fixed (s : State) (st : StationId) :
    (s.endOfQueue st).fixed = s.fixed := by
  unfold State.endOfQueue
  dsimp only
  (repeat' split) <;> simp

@[simp] theorem State.returnToBuilding_fixed (s : State) (st : StationId) :
    (s.returnToBuilding st).fixed = s.fixed := by
  unfold State.returnToBuilding
  simp

@[simp] theorem State.staleScanSlot_fixed (s : State) (i : SlotId) :
    (s.staleScanSlot i).fixed = s.fixed := by
  unfold State.staleScanSlot
  (repeat' split) <;> simp

@[simp] theorem State.staleScan_fixed (s : State) :
    (s.staleScan).fixed = s.fixed := by
  unfold State.staleScan
  simp

@[simp] theorem State.layerDone_fixed (s : State) (st : StationId) (l : Layer) :
    (s.layerDone st l).fixed = s.fixed := by
  unfold State.layerDone
  (repeat' split) <;> simp

@[simp] theorem State.examineLayers_fixed (s : State) (st : StationId) :
    (s.examineLayers st).fixed = s.fixed := by
  unfold State.examineLayers
  dsimp only
  (repeat' split) <;> simp -implicitDefEqProofs

@[simp] theorem State.setPState_fixed (s : State) (st : StationId) (id : Nat) (x : PState) :
    (s.setPState st id x).fixed = s.fixed := by
  unfold State.setPState
  simp

@[simp] theorem State.returnPlacement_fixed (s : State) (st : StationId) (id : Nat) (abandoned : Bool) :
    (s.returnPlacement st id abandoned).fixed = s.fixed := by
  unfold State.returnPlacement
  (repeat' split) <;> simp

@[simp] theorem State.sheetJobOver_fixed (s : State) (st : StationId) :
    (s.sheetJobOver st).fixed = s.fixed := by
  unfold State.sheetJobOver
  simp

/-! ### Gantry -/

@[simp] theorem State.gantryReport_fixed (s : State) (start : Option StartInfo) :
    (s.gantryReport start).fixed = s.fixed := by
  unfold State.gantryReport
  simp

@[simp] theorem State.gantryTo_fixed (s : State) (g : GState) :
    (s.gantryTo g).fixed = s.fixed := by
  unfold State.gantryTo
  (repeat' split) <;> simp

@[simp] theorem State.homingStop_fixed (s : State) :
    (s.homingStop).fixed = s.fixed := by
  unfold State.homingStop
  simp

@[simp] theorem State.homingFault_fixed (s : State) (c : FaultCause) :
    (s.homingFault c).fixed = s.fixed := by
  unfold State.homingFault
  simp

@[simp] theorem State.faultStop_fixed (s : State) (c : FaultCause) :
    (s.faultStop c).fixed = s.fixed := by
  unfold State.faultStop
  simp

/-! ### Infeed -/

@[simp] theorem State.startRelease_fixed (s : State) (l : LaneId) (hasRecord : Bool) (why : Reason) :
    (s.startRelease l hasRecord why).fixed = s.fixed := by
  unfold State.startRelease
  simp

@[simp] theorem State.laneTest_fixed (s : State) (l : LaneId) :
    (s.laneTest l).fixed = s.fixed := by
  unfold State.laneTest
  dsimp only
  (repeat' split) <;> simp

@[simp] theorem State.caseArrives_fixed (s : State) (l : LaneId) :
    (s.caseArrives l).fixed = s.fixed := by
  unfold State.caseArrives
  dsimp only
  (repeat' split) <;> simp

@[simp] theorem State.ungrippableLane_fixed (s : State) (l : LaneId) :
    (s.ungrippableLane l).fixed = s.fixed := by
  unfold State.ungrippableLane
  (repeat' split) <;> simp

@[simp] theorem State.ungrippableSlot_fixed (s : State) (i : SlotId) :
    (s.ungrippableSlot i).fixed = s.fixed := by
  unfold State.ungrippableSlot
  (repeat' split) <;> simp

@[simp] theorem State.sourceEnd_fixed (s : State) (src : Source) :
    (s.sourceEnd src).fixed = s.fixed := by
  unfold State.sourceEnd
  dsimp only
  (repeat' split) <;> simp

@[simp] theorem State.sourceBack_fixed (s : State) (src : Source) :
    (s.sourceBack src).fixed = s.fixed := by
  unfold State.sourceBack
  dsimp only
  (repeat' split) <;> simp

/-! ### Jobs -/

@[simp] theorem State.dropReservation_fixed (s : State) :
    (s.dropReservation).fixed = s.fixed := by
  unfold State.dropReservation
  dsimp only
  (repeat' split) <;> simp

@[simp] theorem State.handBack_fixed (s : State) :
    (s.handBack).fixed = s.fixed := by
  unfold State.handBack
  (repeat' split) <;> simp

@[simp] theorem State.finishCell_fixed (s : State) :
    (s.finishCell).fixed = s.fixed := by
  unfold State.finishCell
  (repeat' split) <;> simp

@[simp] theorem State.sheetGone_fixed (s : State) (j : Job) :
    (s.sheetGone j).fixed = s.fixed := by
  unfold State.sheetGone
  (repeat' split) <;> simp

@[simp] theorem State.jobEnd_fixed (s : State) :
    (s.jobEnd).fixed = s.fixed := by
  unfold State.jobEnd
  (repeat' split) <;> simp

@[simp] theorem State.gripReport_fixed (s : State) (e : GripEvent) (zone : Option Zone) (job : Option JobRef) (xy : Option Int × Option Int) :
    (s.gripReport e zone job xy).fixed = s.fixed := by
  unfold State.gripReport
  simp

@[simp] theorem State.lockoutReport_fixed (s : State) :
    (s.lockoutReport).fixed = s.fixed := by
  unfold State.lockoutReport
  (repeat' split) <;> simp

@[simp] theorem State.dropJob_fixed (s : State) :
    (s.dropJob).fixed = s.fixed := by
  unfold State.dropJob
  simp

@[simp] theorem State.carryLoss_fixed (s : State) (e : GripEvent) (z : Zone) :
    (s.carryLoss e z).fixed = s.fixed := by
  unfold State.carryLoss
  simp

@[simp] theorem State.carryTest_fixed (s : State) :
    (s.carryTest).fixed = s.fixed := by
  unfold State.carryTest
  (repeat' split) <;> simp

@[simp] theorem State.gripFailed_fixed (s : State) (e : GripEvent) :
    (s.gripFailed e).fixed = s.fixed := by
  unfold State.gripFailed
  simp

@[simp] theorem State.gripBegin_fixed (s : State) (j : Job) :
    (s.gripBegin j).1.fixed = s.fixed := by
  unfold State.gripBegin
  dsimp only
  (repeat' split) <;> simp

@[simp] theorem State.takeItem_fixed (s : State) (j : Job) :
    (s.takeItem j).fixed = s.fixed := by
  unfold State.takeItem
  (repeat' split) <;> simp

@[simp] theorem State.gripDone_fixed (s : State) (j : Job) :
    (s.gripDone j).fixed = s.fixed := by
  unfold State.gripDone
  simp

@[simp] theorem State.gripAbandon_fixed (s : State) :
    (s.gripAbandon).fixed = s.fixed := by
  unfold State.gripAbandon
  (repeat' split) <;> simp

@[simp] theorem State.commitCase_fixed (s : State) (st : StationId) (p : Placement) (t : CaseType) (r : WalkResult) (c : ArrivalRec) :
    (s.commitCase st p t r c).fixed = s.fixed := by
  unfold State.commitCase
  simp

@[simp] theorem State.commitSheet_fixed (s : State) (st : StationId) (r : WalkResult) :
    (s.commitSheet st r).fixed = s.fixed := by
  unfold State.commitSheet
  simp

@[simp] theorem State.deliver_fixed (s : State) (j : Job) :
    (s.deliver j).fixed = s.fixed := by
  unfold State.deliver
  (repeat' split) <;> simp

@[simp] theorem State.releaseDone_fixed (s : State) :
    (s.releaseDone).fixed = s.fixed := by
  unfold State.releaseDone
  dsimp only
  (repeat' split) <;> simp

/-! ### Stops -/

@[simp] theorem State.takeStopped_fixed (s : State) :
    (s.takeStopped).fixed = s.fixed := by
  unfold State.takeStopped
  (repeat' split) <;> simp

@[simp] theorem State.enterStopped_fixed (s : State) :
    (s.enterStopped).fixed = s.fixed := by
  unfold State.enterStopped
  dsimp only
  (repeat' split) <;> simp

@[simp] theorem State.quickStop_fixed (s : State) :
    (s.quickStop).fixed = s.fixed := by
  unfold State.quickStop
  dsimp only
  (repeat' split) <;> simp

@[simp] theorem State.rampAll_fixed (s : State) (w : RestFor) :
    (s.rampAll w).fixed = s.fixed := by
  unfold State.rampAll
  dsimp only
  (repeat' split) <;> simp

@[simp] theorem State.guardReport_fixed (s : State) (i : GuardInput) (level quick : Bool) (inZone : Option Bool) :
    (s.guardReport i level quick inZone).fixed = s.fixed := by
  unfold State.guardReport
  simp

@[simp] theorem State.guardHalt_fixed (s : State) (quick : Bool) :
    (s.guardHalt quick).fixed = s.fixed := by
  unfold State.guardHalt
  (repeat' split) <;> simp

@[simp] theorem State.guardStop_fixed (s : State) (i : GuardInput) (inZone : Option Bool) :
    (s.guardStop i inZone).fixed = s.fixed := by
  unfold State.guardStop
  simp

@[simp] theorem State.startLin_fixed (s : State) (a : LinAxis) (m : Move) :
    (s.startLin a m).1.fixed = s.fixed := by
  unfold State.startLin
  dsimp only
  (repeat' split) <;> simp

@[simp] theorem State.startMove_fixed (s : State) (a : LinAxis) (p : Profile) (target : Int) :
    (s.startMove a p target).1.fixed = s.fixed := by
  unfold State.startMove
  simp

@[simp] theorem State.startT_fixed (s : State) (t : Turn) :
    (s.startT t).fixed = s.fixed := by
  unfold State.startT
  (repeat' split) <;> simp

@[simp] theorem State.startXY_fixed (s : State) (p : Profile) (xy : Int × Int) (t : Turn) :
    (s.startXY p xy t).1.fixed = s.fixed := by
  unfold State.startXY
  have hx := s.startMove_fixed .X p xy.1
  rcases h : s.startMove .X p xy.1 with ⟨s1, b⟩
  rw [h] at hx
  cases b
  · exact hx
  · have hy := s1.startMove_fixed .Y p xy.2
    rcases h' : s1.startMove .Y p xy.2 with ⟨s2, b'⟩
    rw [h'] at hy
    cases b' <;> simp_all

/-! ### Phases -/

@[simp] theorem State.movingOr_fixed (s : State) (m : Motion) (next : State → State) (h : ∀ t, (next t).fixed = t.fixed) :
    (s.movingOr m next).fixed = s.fixed := by
  unfold State.movingOr
  (repeat' split) <;> simp [*]

@[simp] theorem State.riseOr_fixed (s : State) (j : Job) (next : State → State)
    (hn : ∀ t, (next t).fixed = t.fixed) : (s.riseOr j next).fixed = s.fixed := by
  unfold State.riseOr
  dsimp only
  split
  · have h := s.computeTravel.startMove_fixed .Z (s.computeTravel.gantry.profileOf j.laden)
      s.computeTravel.gantry.lastTravel
    rcases e : s.computeTravel.startMove .Z (s.computeTravel.gantry.profileOf j.laden)
      s.computeTravel.gantry.lastTravel with ⟨s1, b⟩
    rw [e] at h
    cases b <;> simpa using h
  · simp [hn]

@[simp] theorem State.descendOr_fixed (s : State) (j : Job) (target : Int) (next : State → State)
    (hn : ∀ t, (next t).fixed = t.fixed) : (s.descendOr j target next).fixed = s.fixed := by
  unfold State.descendOr
  dsimp only
  split <;> (rename_i s1 e; have h := congrArg (fun q => q.1.fixed) e; simp at h; simp [h, hn])

@[simp] theorem State.failedJobEnd_fixed (s : State) (j : Job) :
    (s.failedJobEnd j).fixed = s.fixed := by
  unfold State.failedJobEnd
  dsimp only
  (repeat' split) <;> simp

@[simp] theorem State.endClear_fixed (s : State) :
    (s.endClear).fixed = s.fixed := by
  unfold State.endClear
  (repeat' split) <;> simp

@[simp] theorem State.startClear_fixed (s : State) :
    (s.startClear).fixed = s.fixed := by
  unfold State.startClear
  dsimp only
  (repeat' split) <;> simp

@[simp] theorem State.startReleasePhase_fixed (s : State) :
    (s.startReleasePhase).fixed = s.fixed := by
  unfold State.startReleasePhase
  dsimp only
  (repeat' split) <;> simp -implicitDefEqProofs

@[simp] theorem State.startSetDown_fixed (s : State) :
    (s.startSetDown).fixed = s.fixed := by
  unfold State.startSetDown
  dsimp only
  (repeat' split) <;> simp

@[simp] theorem State.travelXY_fixed (s : State) : s.travelXY.fixed = s.fixed := by
  unfold State.travelXY
  try dsimp only
  (repeat' split) <;>
    first
    | rfl
    | (rename_i s1 e; have h := congrArg (fun q => q.1.fixed) e; simp at h; simp [h])

@[simp] theorem State.retravel_fixed (s : State) :
    (s.retravel).fixed = s.fixed := by
  unfold State.retravel
  dsimp only
  (repeat' split) <;> simp

@[simp] theorem State.startPickUp_fixed (s : State) :
    (s.startPickUp).fixed = s.fixed := by
  unfold State.startPickUp
  dsimp only
  (repeat' split) <;> simp

@[simp] theorem State.startGripPhase_fixed (s : State) : s.startGripPhase.fixed = s.fixed := by
  unfold State.startGripPhase
  try dsimp only
  (repeat' split) <;>
    first
    | rfl
    | (rename_i s1 e; have h := congrArg (fun q => q.1.fixed) e; simp at h; simp [h])

@[simp] theorem State.startPickDown_fixed (s : State) :
    (s.startPickDown).fixed = s.fixed := by
  unfold State.startPickDown
  dsimp only
  (repeat' split) <;> simp

@[simp] theorem State.approachXY_fixed (s : State) : s.approachXY.fixed = s.fixed := by
  unfold State.approachXY
  try dsimp only
  (repeat' split) <;>
    first
    | rfl
    | (rename_i s1 e; have h := congrArg (fun q => q.1.fixed) e; simp at h; simp [h])

@[simp] theorem State.startApproach_fixed (s : State) :
    (s.startApproach).fixed = s.fixed := by
  unfold State.startApproach
  dsimp only
  (repeat' split) <;> simp

@[simp] theorem State.gripped_fixed (s : State) :
    (s.gripped).fixed = s.fixed := by
  unfold State.gripped
  dsimp only
  (repeat' split) <;> simp

@[simp] theorem State.gripFail_fixed (s : State) (e : GripEvent) :
    (s.gripFail e).fixed = s.fixed := by
  unfold State.gripFail
  dsimp only
  (repeat' split) <;> simp

@[simp] theorem State.releaseComplete_fixed (s : State) :
    (s.releaseComplete).fixed = s.fixed := by
  unfold State.releaseComplete
  dsimp only
  (repeat' split) <;> simp

@[simp] theorem State.releaseStuck_fixed (s : State) :
    (s.releaseStuck).fixed = s.fixed := by
  unfold State.releaseStuck
  simp

@[simp] theorem State.gripTest_fixed (s : State) :
    (s.gripTest).fixed = s.fixed := by
  unfold State.gripTest
  (repeat' split) <;> simp

@[simp] theorem State.holdUp_fixed (s : State) :
    (s.holdUp).fixed = s.fixed := by
  unfold State.holdUp
  (repeat' split) <;> simp

@[simp] theorem State.replan_fixed (s : State) :
    (s.replan).fixed = s.fixed := by
  unfold State.replan
  (repeat' split) <;> simp

@[simp] theorem State.resumeGantry_fixed (s : State) :
    (s.resumeGantry).fixed = s.fixed := by
  unfold State.resumeGantry
  (repeat' split) <;> simp

@[simp] theorem State.atRest_fixed (s : State) (phaseDone : Bool) :
    (s.atRest phaseDone).fixed = s.fixed := by
  unfold State.atRest
  dsimp only
  (repeat' split) <;> simp -implicitDefEqProofs

@[simp] theorem State.motionDone_fixed (s : State) :
    (s.motionDone).fixed = s.fixed := by
  unfold State.motionDone
  dsimp only
  (repeat' split) <;> simp

@[simp] theorem State.settleMotion_fixed (s : State) :
    (s.settleMotion).fixed = s.fixed := by
  unfold State.settleMotion
  (repeat' split) <;> simp

@[simp] theorem State.rampedStop_fixed (s : State) :
    (s.rampedStop).fixed = s.fixed := by
  unfold State.rampedStop
  (repeat' split) <;> simp

@[simp] theorem State.replanTravel_fixed (s : State) : s.replanTravel.fixed = s.fixed := by
  simp [State.replanTravel]

@[simp] theorem State.gantryTakes_fixed (s : State) :
    (s.gantryTakes).fixed = s.fixed := by
  unfold State.gantryTakes
  (repeat' split) <;> simp

/-! ### Targets -/

@[simp] theorem State.cancelGantry_fixed (s : State) :
    (s.cancelGantry).fixed = s.fixed := by
  unfold State.cancelGantry
  (repeat' split) <;> simp

@[simp] theorem State.cancelJob_fixed (s : State) :
    (s.cancelJob).fixed = s.fixed := by
  unfold State.cancelJob
  (repeat' split) <;> simp

@[simp] theorem State.toPutaway_fixed (s : State) :
    (s.toPutaway).fixed = s.fixed := by
  unfold State.toPutaway
  (repeat' split) <;> simp

@[simp] theorem State.convert_fixed (s : State) :
    (s.convert).fixed = s.fixed := by
  unfold State.convert
  simp

@[simp] theorem State.lossOfTarget_fixed (s : State) (st : StationId) :
    (s.lossOfTarget st).fixed = s.fixed := by
  unfold State.lossOfTarget
  (repeat' split) <;> simp

@[simp] theorem State.chooseAgain_fixed (s : State) (j : Job) (item : Item) :
    (s.chooseAgain j item).fixed = s.fixed := by
  unfold State.chooseAgain
  simp

@[simp] theorem State.destLost_fixed (s : State) (i : SlotId) :
    (s.destLost i).fixed = s.fixed := by
  unfold State.destLost
  (repeat' split) <;> simp

@[simp] theorem State.awaitChoice_fixed (s : State) :
    (s.awaitChoice).fixed = s.fixed := by
  unfold State.awaitChoice
  (repeat' split) <;> simp

@[simp] theorem State.holdStation_fixed (s : State) (st : StationId) (h : Hold) :
    (s.holdStation st h).fixed = s.fixed := by
  unfold State.holdStation
  simp

@[simp] theorem State.sheetsOut_fixed (s : State) (st : StationId) :
    (s.sheetsOut st).fixed = s.fixed := by
  unfold State.sheetsOut
  (repeat' split) <;> simp

@[simp] theorem State.debris_fixed (s : State) (st : StationId) :
    (s.debris st).fixed = s.fixed := by
  unfold State.debris
  (repeat' split) <;> simp

@[simp] theorem State.enterPurge_fixed (s : State) (l : LaneId) (c : PurgeCause) :
    (s.enterPurge l c).fixed = s.fixed := by
  unfold State.enterPurge
  dsimp only
  (repeat' split) <;> simp

/-! ### Guard -/

@[simp] theorem State.returned_fixed (s : State) :
    (s.returned).fixed = s.fixed := by
  unfold State.returned
  (repeat' split) <;> simp

@[simp] theorem State.guardClear_fixed (s : State) (i : GuardInput) (inZone : Option Bool) :
    (s.guardClear i inZone).fixed = s.fixed := by
  unfold State.guardClear
  dsimp only
  (repeat' split) <;> simp

@[simp] theorem State.endReservation_fixed (s : State) (st : StationId) :
    (s.endReservation st).fixed = s.fixed := by
  unfold State.endReservation
  (repeat' split) <;> simp

@[simp] theorem State.stationClear_fixed (s : State) (st : StationId) (m : Standing) :
    (s.stationClear st m).fixed = s.fixed := by
  unfold State.stationClear
  (repeat' split) <;> simp -implicitDefEqProofs

@[simp] theorem State.exchangeBack_fixed (s : State) (st : StationId) (m : Standing) :
    (s.exchangeBack st m).fixed = s.fixed := by
  unfold State.exchangeBack
  dsimp only
  (repeat' split) <;> simp

@[simp] theorem State.exchangeEnd_fixed (s : State) (st : StationId) :
    (s.exchangeEnd st).fixed = s.fixed := by
  unfold State.exchangeEnd
  dsimp only
  (repeat' split) <;> simp

/-! ### Dispatcher -/

@[simp] theorem State.giveUp_fixed (s : State) (c : Choice) :
    (s.giveUp c).fixed = s.fixed := by
  unfold State.giveUp
  (repeat' split) <;> simp

@[simp] theorem State.claim_fixed (s : State) (c : Choice) :
    (s.claim c).fixed = s.fixed := by
  unfold State.claim
  (repeat' split) <;> simp

@[simp] theorem State.createJob_fixed (s : State) (c : Choice) :
    (s.createJob c).fixed = s.fixed := by
  unfold State.createJob
  simp

@[simp] theorem State.holdForSheets_fixed (s : State) : s.holdForSheets.fixed = s.fixed := by
  unfold State.holdForSheets
  split <;> simp [apply_ite State.fixed]

@[simp] theorem State.evaluate_fixed (s : State) (fuel : Nat) : (s.evaluate fuel).fixed = s.fixed := by
  induction fuel generalizing s with
  | zero => rfl
  | succ n ih =>
    unfold State.evaluate
    dsimp only
    (repeat' split) <;> simp [ih]

/-! ### Homing -/

@[simp] theorem State.homedWithItem_fixed (s : State) :
    (s.homedWithItem).fixed = s.fixed := by
  unfold State.homedWithItem
  dsimp only
  (repeat' split) <;> simp

@[simp] theorem State.homingComplete_fixed (s : State) :
    (s.homingComplete).fixed = s.fixed := by
  unfold State.homingComplete
  dsimp only
  (repeat' split) <;> simp

@[simp] theorem State.homingXY_fixed (s : State) :
    (s.homingXY).fixed = s.fixed := by
  unfold State.homingXY
  dsimp only
  (repeat' split) <;> simp -implicitDefEqProofs

@[simp] theorem State.homingT_fixed (s : State) :
    (s.homingT).fixed = s.fixed := by
  unfold State.homingT
  dsimp only
  (repeat' split) <;> simp -implicitDefEqProofs

@[simp] theorem State.homingZ_fixed (s : State) :
    (s.homingZ).fixed = s.fixed := by
  unfold State.homingZ
  dsimp only
  (repeat' split) <;> simp -implicitDefEqProofs

@[simp] theorem State.homingStart_fixed (s : State) :
    (s.homingStart).fixed = s.fixed := by
  unfold State.homingStart
  simp

@[simp] theorem State.homeFound_fixed (s : State) (a : Axis) :
    (s.homeFound a).fixed = s.fixed := by
  unfold State.homeFound
  dsimp only
  (repeat' split) <;> simp

/-! ### Plans -/

@[simp] theorem State.awaitLayer_fixed (s : State) (l : Layer) :
    (s.awaitLayer l).fixed = s.fixed := by
  unfold State.awaitLayer
  (repeat' split) <;> simp

@[simp] theorem State.takeLayer_fixed (s : State) (st : StationId) (l : Layer) :
    (s.takeLayer st l).fixed = s.fixed := by
  unfold State.takeLayer
  dsimp only
  (repeat' split) <;> simp -implicitDefEqProofs

@[simp] theorem ownLoadLayer_fixed (b : List Byte) (s : State) :
    (ownLoadLayer b s).1.fixed = s.fixed := by
  unfold ownLoadLayer
  dsimp only
  (repeat' split) <;> simp [State.refuse_fst, State.accept_fst]

@[simp] theorem State.voidPlacement_fixed (s : State) (st : StationId) (id : Nat) :
    (s.voidPlacement st id).fixed = s.fixed := by
  unfold State.voidPlacement
  simp

@[simp] theorem ownWithdrawId_fixed (b : List Byte) (s : State) :
    (ownWithdrawId b s).1.fixed = s.fixed := by
  unfold ownWithdrawId
  dsimp only
  (repeat' split) <;> simp [State.refuse_fst, State.accept_fst]

@[simp] theorem ownWithdrawTag_fixed (b : List Byte) (s : State) :
    (ownWithdrawTag b s).1.fixed = s.fixed := by
  unfold ownWithdrawTag
  dsimp only
  (repeat' split) <;> simp [State.refuse_fst, State.accept_fst]

@[simp] theorem State.closedStation_fixed (s : State) (st : StationId) :
    (s.closedStation st).fixed = s.fixed := by
  unfold State.closedStation
  (repeat' split) <;> simp

@[simp] theorem ownClosePlan_fixed (b : List Byte) (s : State) :
    (ownClosePlan b s).1.fixed = s.fixed := by
  unfold ownClosePlan
  (repeat' split) <;> simp [State.refuse_fst, State.accept_fst]

@[simp] theorem State.markAbandoned_fixed (s : State) (st : StationId) :
    (s.markAbandoned st).fixed = s.fixed := by
  unfold State.markAbandoned
  (repeat' split) <;> simp

@[simp] theorem ownAbandonPlan_fixed (b : List Byte) (s : State) :
    (ownAbandonPlan b s).1.fixed = s.fixed := by
  unfold ownAbandonPlan
  (repeat' split) <;> simp [State.refuse_fst, State.accept_fst]

@[simp] theorem ownSetDeparture_fixed (b : List Byte) (s : State) :
    (ownSetDeparture b s).1.fixed = s.fixed := by
  unfold ownSetDeparture
  dsimp only
  (repeat' split) <;> simp [State.refuse_fst, State.accept_fst]

@[simp] theorem State.sheetsIn_fixed (s : State) (st : StationId) :
    (s.sheetsIn st).fixed = s.fixed := by
  unfold State.sheetsIn
  (repeat' split) <;> simp

@[simp] theorem ownSetSheets_fixed (b : List Byte) (s : State) :
    (ownSetSheets b s).1.fixed = s.fixed := by
  unfold ownSetSheets
  dsimp only
  (repeat' split) <;> simp [State.refuse_fst, State.accept_fst]

/-! ### Operation -/

@[simp] theorem ownHome_fixed (s : State) :
    (ownHome s).1.fixed = s.fixed := by
  unfold ownHome
  (repeat' split) <;> simp [State.refuse_fst, State.accept_fst]

@[simp] theorem ownStart_fixed (s : State) :
    (ownStart s).1.fixed = s.fixed := by
  unfold ownStart
  (repeat' split) <;> simp [State.refuse_fst, State.accept_fst]

@[simp] theorem ownStop_fixed (s : State) :
    (ownStop s).1.fixed = s.fixed := by
  unfold ownStop
  simp [State.refuse_fst, State.accept_fst]

@[simp] theorem ownPauseQuick_fixed (s : State) :
    (ownPauseQuick s).1.fixed = s.fixed := by
  unfold ownPauseQuick
  (repeat' split) <;> simp [State.refuse_fst, State.accept_fst]

@[simp] theorem ownPauseRamped_fixed (b : List Byte) (s : State) :
    (ownPauseRamped b s).1.fixed = s.fixed := by
  unfold ownPauseRamped
  (repeat' split) <;> simp [State.refuse_fst, State.accept_fst]

@[simp] theorem ownResume_fixed (s : State) :
    (ownResume s).1.fixed = s.fixed := by
  unfold ownResume
  (repeat' split) <;> simp [State.refuse_fst, State.accept_fst]

@[simp] theorem State.answerDrop_fixed (s : State) :
    (s.answerDrop).fixed = s.fixed := by
  unfold State.answerDrop
  simp

@[simp] theorem ownRecover_fixed (b : List Byte) (s : State) :
    (ownRecover b s).1.fixed = s.fixed := by
  unfold ownRecover
  (repeat' split) <;> simp [State.refuse_fst, State.accept_fst]

@[simp] theorem State.zoneFault_fixed (s : State) (z : Zone) (e : GripEvent) :
    (s.zoneFault z e).fixed = s.fixed := by
  unfold State.zoneFault
  simp

@[simp] theorem State.refault_fixed (s : State) (z : Zone) :
    (s.refault z).fixed = s.fixed := by
  unfold State.refault
  (repeat' split) <;> simp

@[simp] theorem ownGripperReset_fixed (s : State) :
    (ownGripperReset s).1.fixed = s.fixed := by
  unfold ownGripperReset
  dsimp only
  (repeat' split) <;> simp [State.refuse_fst, State.accept_fst]

@[simp] theorem ownClearSlot_fixed (b : List Byte) (s : State) :
    (ownClearSlot b s).1.fixed = s.fixed := by
  unfold ownClearSlot
  (repeat' split) <;> simp [State.refuse_fst, State.accept_fst]

@[simp] theorem ownStationHold_fixed (b : List Byte) (s : State) :
    (ownStationHold b s).1.fixed = s.fixed := by
  unfold ownStationHold
  (repeat' split) <;> simp [State.refuse_fst, State.accept_fst]

@[simp] theorem ownStationResume_fixed (b : List Byte) (s : State) :
    (ownStationResume b s).1.fixed = s.fixed := by
  unfold ownStationResume
  (repeat' split) <;> simp [State.refuse_fst, State.accept_fst]

@[simp] theorem ownPurgeLane_fixed (b : List Byte) (s : State) :
    (ownPurgeLane b s).1.fixed = s.fixed := by
  unfold ownPurgeLane
  (repeat' split) <;> simp [State.refuse_fst, State.accept_fst]

/-! ### InfeedEvents -/

@[simp] theorem State.arrive_fixed (s : State) (l : LaneId) (frame : List Byte) :
    (s.arrive l frame).fixed = s.fixed := by
  unfold State.arrive
  dsimp only
  (repeat' split) <;> simp

@[simp] theorem State.scan_fixed (s : State) (l : LaneId) (b : Byte) :
    (s.scan l b).fixed = s.fixed := by
  unfold State.scan
  dsimp only
  (repeat' split) <;> simp

@[simp] theorem State.scanAll_fixed (s : State) (l : LaneId) (bs : List Byte) :
    (s.scanAll l bs).fixed = s.fixed := by
  unfold State.scanAll
  simp

@[simp] theorem State.scanDrop_fixed (s : State) (l : LaneId) :
    (s.scanDrop l).fixed = s.fixed := by
  unfold State.scanDrop
  simp

@[simp] theorem State.releaseEnd_fixed (s : State) (l : LaneId) (hasRecord : Bool) (why : Reason) :
    (s.releaseEnd l hasRecord why).fixed = s.fixed := by
  unfold State.releaseEnd
  simp

@[simp] theorem State.lostAtPick_fixed (s : State) (l : LaneId) :
    (s.lostAtPick l).fixed = s.fixed := by
  unfold State.lostAtPick
  dsimp only
  (repeat' split) <;> simp

@[simp] theorem State.waitExpires_fixed (s : State) (l : LaneId) :
    (s.waitExpires l).fixed = s.fixed := by
  unfold State.waitExpires
  (repeat' split) <;> simp

@[simp] theorem State.presenceOn_fixed (s : State) (i : SlotId) :
    (s.presenceOn i).fixed = s.fixed := by
  unfold State.presenceOn
  (repeat' split) <;> simp

@[simp] theorem State.presenceOff_fixed (s : State) (i : SlotId) :
    (s.presenceOff i).fixed = s.fixed := by
  unfold State.presenceOff
  dsimp only
  (repeat' split) <;> simp

/-! ### MotionEvents -/

@[simp] theorem State.moveEnds_fixed (s : State) (a : Axis) :
    (s.moveEnds a).fixed = s.fixed := by
  unfold State.moveEnds
  dsimp only
  (repeat' split) <;> simp

/-! ### GuardEvents -/

@[simp] theorem State.departurePassed_fixed (s : State) (st : StationId) :
    (s.departurePassed st).fixed = s.fixed := by
  unfold State.departurePassed
  simp

@[simp] theorem State.departureTick_fixed (s : State) (st : StationId) :
    (s.departureTick st).fixed = s.fixed := by
  unfold State.departureTick
  (repeat' split) <;> simp

/-! ### GripperEvents -/

@[simp] theorem State.gripTimerEnds_fixed (s : State) :
    (s.gripTimerEnds).fixed = s.fixed := by
  unfold State.gripTimerEnds
  dsimp only
  (repeat' split) <;> simp

@[simp] theorem State.releaseTimerEnds_fixed (s : State) :
    (s.releaseTimerEnds).fixed = s.fixed := by
  unfold State.releaseTimerEnds
  dsimp only
  (repeat' split) <;> simp -implicitDefEqProofs

@[simp] theorem State.pullInEnds_fixed (s : State) (z : Zone) :
    (s.pullInEnds z).fixed = s.fixed := by
  unfold State.pullInEnds
  dsimp only
  (repeat' split) <;> simp

@[simp] theorem State.gripLosesZone_fixed (s : State) (z : Zone) :
    (s.gripLosesZone z).fixed = s.fixed := by
  unfold State.gripLosesZone
  dsimp only
  (repeat' split) <;> simp

@[simp] theorem State.zoneFaultEffect_fixed (s : State) (z : Zone) :
    (s.zoneFaultEffect z).fixed = s.fixed := by
  unfold State.zoneFaultEffect
  (repeat' split) <;> simp

@[simp] theorem State.decays_fixed (s : State) :
    (s.decays).fixed = s.fixed := by
  unfold State.decays
  dsimp only
  (repeat' split) <;> simp

end Sys2Proof.Machine
end

