-- ==== Sys2Proof/Laws/Requests.lean ====
section
/-! SUPPORT. What a request command does, said once: where the backlog is ready, the owner decides on the state with the
frame taken in, and its reply is formed (R168, R169); and the end of a step that leaves nothing to choose. -/

namespace Sys2Proof.Machine

/-! ### The end of a step -/

/-- With no dispatch event and no waiting PUTAWAY to choose again, a step ends with the line's choice alone. -/
theorem State.settle_ended (s : State) (h : s.evalDue = false) (k : s.awaitDue = false) : s.settle = s.ended := by
  simp [State.settle, State.ended, h, k]

/-! ### Bytes that identify a kind -/

/-- A kind byte read back. -/
theorem byte_toNat (k : Nat) (h : k < 256) : (byte k).toNat = k := by
  simp [byte, Nat.mod_eq_of_lt h]

/-! ### The backlog -/

theorem find_undecided_none (l : List Request) (h : ∀ r ∈ l, r.reply ≠ none) :
    l.find? (fun r => r.reply.isNone) = none := by
  simp only [List.find?_eq_none]
  intro r hr
  have := h r hr
  cases e : r.reply <;> simp_all

theorem formReply_append (b : ReplyBody) (l : List Request) (q : Request) (h : ∀ r ∈ l, r.reply ≠ none)
    (hq : q.reply = none) : formReply b (l ++ [q]) = l ++ [{ q with reply := some b }] := by
  induction l with
  | nil => simp [formReply, hq]
  | cons r rest ih =>
    have hr : r.reply.isNone = false := by
      have := h r (by simp)
      cases e : r.reply <;> simp_all
    simp [formReply, hr]
    exact ih (fun x hx => h x (by simp [hx]))

/-- A ready backlog has no request to hand on. -/
theorem Link.Ready.next {l : Link} (h : l.Ready) : l.next? = none := by
  simp [Link.next?, h.2.1, find_undecided_none _ h.2.2]

/-- A good frame taken by a ready backlog: it stands last, undecided. -/
theorem State.intake_ready (s : State) (k tag : Byte) (body : List Byte) (h : s.link.Ready) :
    s.intake k tag body = s.setLink { s.link with
      framer := .hunting, backlog := s.link.backlog ++ [⟨k, tag, body, none⟩] } := by
  simp [State.intake, Link.intake, h.1]

/-- The request that a ready backlog has taken is the next one. -/
theorem State.isNext_intake (s : State) (k tag : Byte) (body : List Byte) (h : s.link.Ready) :
    (s.intake k tag body).isNext k tag body = true := by
  have h2 := h.2.1
  simp [Link.restartPending] at h2
  simpa [State.intake_ready s k tag body h, State.isNext, Link.next?, Link.restartPending,
    find_undecided_none _ h.2.2, State.setLink] using h2

/-- A request command on a ready backlog: the frame is taken and decided at once. -/
theorem State.request_ready (s : State) (kind : Nat) (tag : Byte) (body : List Byte)
    (owner : State → State × ReplyBody) (h : s.link.Ready) :
    s.request kind tag body owner = (s.intake (byte kind) tag body).decide kind body owner := by
  have h1 : s.isNext (byte kind) tag body = false := by simp [State.isNext, h.next]
  simp [State.request, h1, State.isNext_intake s (byte kind) tag body h]

/-- The reply of a request that stands last in a ready backlog. -/
theorem State.setLink_answer (s v : State) (kind : Nat) (tag : Byte) (body : List Byte) (b : ReplyBody)
    (h : s.link.Ready) (hf : v.link.framer = .hunting)
    (hb : v.link.backlog = s.link.backlog ++ [⟨byte kind, tag, body, none⟩]) :
    v.setLink (v.link.answer b) =
      ({ v with link := { v.link with framer := s.link.framer, backlog := s.link.backlog } } : State).replied
        kind tag body b := by
  simp [State.setLink, Link.answer, State.replied, hb, formReply_append b _ _ h.2.2, hf]

/-- A request decided by its owner, whose effect leaves the request side of the link alone: the owner's state with the
reply formed. -/
theorem State.request_owner (s v : State) (kind : Nat) (tag : Byte) (body : List Byte) (b : ReplyBody)
    (owner : State → State × ReplyBody) (h : s.link.Ready) (hk : isRequestKind kind = true)
    (hfit : bodyFits kind body = true) (hl : (lockedKind kind && s.link.lock) = false)
    (ho : owner (s.intake (byte kind) tag body) = (v, b)) (hf : v.link.framer = .hunting)
    (hb : v.link.backlog = s.link.backlog ++ [⟨byte kind, tag, body, none⟩]) :
    s.request kind tag body owner =
      ({ v with link := { v.link with framer := s.link.framer, backlog := s.link.backlog } } : State).replied
        kind tag body b := by
  have hl2 : (lockedKind kind && (s.intake (byte kind) tag body).link.lock) = false := by
    simpa [State.intake_ready s _ tag body h, State.setLink] using hl
  rw [s.request_ready kind tag body owner h]
  simp only [State.decide, State.decided, hk, hfit, hl2, ho]
  simpa using s.setLink_answer v kind tag body b h hf hb

/-- A request decided with a reply that leaves everything else as it was. -/
theorem State.request_same (s : State) (kind : Nat) (tag : Byte) (body : List Byte) (b : ReplyBody)
    (owner : State → State × ReplyBody) (h : s.link.Ready)
    (ho : (s.intake (byte kind) tag body).decided kind body owner = (s.intake (byte kind) tag body, b)) :
    s.request kind tag body owner = s.replied kind tag body b := by
  rw [s.request_ready kind tag body owner h]
  simp only [State.decide, ho]
  rw [s.setLink_answer _ kind tag body b h (by simp [State.intake_ready s _ tag body h, State.setLink])
    (by simp [State.intake_ready s _ tag body h, State.setLink])]
  simp [State.intake_ready s _ tag body h, State.setLink]

/-! ### A request command as a step's outcome -/

/-- The state on which a ready backlog's owner decides: the marks of the step clear, the frame taken in. -/
def State.taken (s : State) (kind : Nat) (tag : Byte) (body : List Byte) : State :=
  { s with
    evalDue := false
    awaitDue := false
    link := { s.link with framer := .hunting, backlog := s.link.backlog ++ [⟨byte kind, tag, body, none⟩] } }

theorem State.fresh_intake (s : State) (kind : Nat) (tag : Byte) (body : List Byte) (h : s.link.Ready) :
    s.fresh.intake (byte kind) tag body = s.taken kind tag body :=
  State.intake_ready s.fresh (byte kind) tag body h

/-- A request command whose decision changes nothing but the reply. -/
theorem run_request_same (s : State) (kind : Nat) (tag : Byte) (body : List Byte) (b : ReplyBody)
    (owner : State → State × ReplyBody) (h : s.link.Ready)
    (ho : (s.taken kind tag body).decided kind body owner = (s.taken kind tag body, b)) :
    run (fun s => s.request kind tag body owner) s = .next (s.answered kind tag body b) := by
  rw [run, State.request_same s.fresh kind tag body b owner h (by rw [s.fresh_intake _ _ _ h]; exact ho),
    State.settle_ended _ rfl rfl]
  rfl

/-- A request command that its owner decides: the owner's state, with the reply formed, before the end of the step. -/
theorem run_request_owner (s : State) (kind : Nat) (tag : Byte) (body : List Byte) (o : State × ReplyBody)
    (owner : State → State × ReplyBody) (h : s.link.Ready) (hk : isRequestKind kind = true)
    (hfit : bodyFits kind body = true) (hl : lockedKind kind = false ∨ s.link.lock = false)
    (ho : owner (s.taken kind tag body) = o) (hf : o.1.link.framer = .hunting)
    (hb : o.1.link.backlog = s.link.backlog ++ [⟨byte kind, tag, body, none⟩]) :
    run (fun s => s.request kind tag body owner) s =
      .next (({ o.1 with link := { o.1.link with framer := s.link.framer, backlog := s.link.backlog } } : State).replied
        kind tag body o.2).settle := by
  have hl2 : (lockedKind kind && s.fresh.link.lock) = false := by rcases hl with hl | hl <;> simp [hl]
  rw [run, State.request_owner s.fresh o.1 kind tag body o.2 owner h hk hfit hl2 (by rw [s.fresh_intake _ _ _ h]; exact ho)
    hf hb]
  rfl

/-- A request command refused by its owner. -/
theorem run_request_refused (s : State) (kind : Nat) (tag : Byte) (body : List Byte) (b : ReplyBody)
    (owner : State → State × ReplyBody) (h : s.link.Ready) (hk : isRequestKind kind = true)
    (hfit : bodyFits kind body = true) (hl : lockedKind kind = false ∨ s.link.lock = false)
    (ho : owner (s.taken kind tag body) = (s.taken kind tag body, b)) :
    run (fun s => s.request kind tag body owner) s = .next (s.answered kind tag body b) := by
  apply run_request_same s kind tag body b owner h
  have hl2 : (lockedKind kind && (s.taken kind tag body).link.lock) = false := by
    rcases hl with hl | hl <;> simp [hl, State.taken]
  simp [State.decided, hk, hfit, hl2, ho]

end Sys2Proof.Machine
end

