-- ==== Sys2Proof/Laws/Inputs.lean ====
section
/-! SUPPORT. What the bounce filter of R1 does, said once: what stands after an event, a change and a millisecond, and what
a filtered command does in each of the five cases. With it, what the record of a scanner
frame takes of the frame (R67, R186), and what every reply body begins with (R181). -/

namespace Sys2Proof.Machine

/-! ### The filter -/

@[simp] theorem Inputs.noteEvent_level (i : Inputs) (x y : Sensor) : (i.noteEvent x).level y = i.level y := by
  cases y <;> rfl
@[simp] theorem Inputs.noteChange_level (i : Inputs) (x y : Sensor) : (i.noteChange x).level y = i.level y := by
  cases y <;> rfl
@[simp] theorem Inputs.tick_level (i : Inputs) (y : Sensor) : i.tick.level y = i.level y := by cases y <;> rfl

@[simp] theorem Inputs.noteEvent_reading (i : Inputs) (x : Sensor) : (i.noteEvent x).reading = i.reading := rfl
@[simp] theorem Inputs.noteChange_reading (i : Inputs) (x : Sensor) : (i.noteChange x).reading = i.reading := rfl
@[simp] theorem Inputs.tick_reading (i : Inputs) : i.tick.reading = i.reading := rfl

/-- Where nothing is listed nothing changes. -/
theorem Inputs.changing_of_settled {i : Inputs} (h : i.filter = []) (x : Sensor) : i.changing x = none := by
  simp [Inputs.changing, h]

/-- An input misses nothing exactly when its change has stood for 2 ms. -/
theorem Inputs.missing_eq_zero {i : Inputs} {x : Sensor} : i.missing x = 0 ↔ i.changing x = some 0 := by
  unfold Inputs.missing
  cases h : i.changing x <;> simp [Config.filterMs]

/-- An input whose change is over does not change. -/
@[simp] theorem Inputs.changing_noteEvent_self (i : Inputs) (x : Sensor) : (i.noteEvent x).changing x = none := by
  simp [Inputs.changing, Inputs.noteEvent]

/-- The end of one input's change touches no other. -/
theorem Inputs.changing_noteEvent_ne (i : Inputs) {x y : Sensor} (h : y ≠ x) :
    (i.noteEvent x).changing y = i.changing y := by
  simp only [Inputs.changing, Inputs.noteEvent, List.find?_filter]
  congr 2
  funext e
  by_cases he : e.1 = y <;> simp [he, h]

/-- A change that begins misses 2 ms. -/
theorem Inputs.changing_noteChange_self {i : Inputs} {x : Sensor} (h : i.changing x = none) :
    (i.noteChange x).changing x = some Config.filterMs := by
  have k : i.filter.find? (fun e => e.1 == x) = none := by simpa [Inputs.changing] using h
  simp [Inputs.changing, Inputs.noteChange, List.find?_append, k]

/-- The change of one input touches no other. -/
theorem Inputs.changing_noteChange_ne (i : Inputs) {x y : Sensor} (h : y ≠ x) :
    (i.noteChange x).changing y = i.changing y := by
  have hx : (x == y) = false := beq_eq_false_iff_ne.mpr (Ne.symm h)
  simp [Inputs.changing, Inputs.noteChange, List.find?_append, hx]

/-- In a millisecond every change stands one more. -/
@[simp] theorem Inputs.changing_tick (i : Inputs) (x : Sensor) : i.tick.changing x = (i.changing x).map (fun n => n - 1) := by
  unfold Inputs.changing Inputs.tick
  induction i.filter with
  | nil => rfl
  | cons e l ih => by_cases h : e.1 = x <;> simp_all

/-! ### A filtered command -/

section filtered

variable {x : Sensor} {v : Bool} {s : State} (f : Bool → State → State)

/-- An input that stands at its level and shows it: nothing. -/
theorem filtered_steady (h : s.inputs.changing x = none) (k : s.inputs.level x = v) : filtered x v f s = s := by
  simp [filtered, h, k]

/-- An input that stands at its level and shows the other: the change begins to stand. -/
theorem filtered_change (h : s.inputs.changing x = none) (k : s.inputs.level x ≠ v) :
    filtered x v f s = s.setInputs (s.inputs.noteChange x) := by
  simp [filtered, h, k]

/-- A change that has not stood for 2 ms and goes back is dropped. -/
theorem filtered_dropped {n : Nat} (h : s.inputs.changing x = some (n + 1)) (k : s.inputs.level x = v) :
    filtered x v f s = s.setInputs (s.inputs.noteEvent x) := by
  simp [filtered, h, k]

/-- A change that has not stood for 2 ms and shows itself again: nothing. -/
theorem filtered_waits {n : Nat} (h : s.inputs.changing x = some (n + 1)) (k : s.inputs.level x ≠ v) :
    filtered x v f s = s := by
  simp [filtered, h, k]

/-- A change that has stood for 2 ms and shows itself is the event. -/
theorem filtered_stood (h : s.inputs.missing x = 0) (k : s.inputs.level x ≠ v) :
    filtered x v f s = f v (s.setInputs (s.inputs.noteEvent x)) := by
  have e : (!s.inputs.level x) = v := by cases h1 : s.inputs.level x <;> cases v <;> simp_all
  simp [filtered, Inputs.missing_eq_zero.mp h, k, State.inputStood, e]

end filtered

/-! ### Replies -/

/-- Where chapter 10 gives the fields of a reply, its body is the result code and they. -/
theorem ReplyBody.bytes?_eq_some {b : ReplyBody} {l : List Byte} :
    b.bytes? = some l ↔ ∃ f, b.fields? = some f ∧ l = b.opening :: f := by
  simp [ReplyBody.bytes?, eq_comm]

/-! ### The scanner frame -/

/-- At status OK the record holds a decoded field as it is (R67, R186). -/
@[simp] theorem ScanBody.recorded_ok {b : ScanBody} (h : b.status = .ok) (f : Option Nat) : b.recorded f = f := by
  simp [ScanBody.recorded, h]

/-- At every other status it holds none (R67). -/
theorem ScanBody.recorded_unread {b : ScanBody} (h : b.status ≠ .ok) (f : Option Nat) : b.recorded f = none := by
  simp [ScanBody.recorded, h]

/-- Nothing decoded, nothing recorded. -/
@[simp] theorem ScanBody.recorded_none (b : ScanBody) : b.recorded none = none := by
  simp [ScanBody.recorded]

@[simp] theorem State.arrivalRec_status (s : State) (l : LaneId) (f : List Byte) :
    (s.arrivalRec l f).status = (scanBody f).status := rfl
@[simp] theorem State.arrivalRec_code (s : State) (l : LaneId) (f : List Byte) :
    (s.arrivalRec l f).code = (scanBody f).recorded (scanBody f).code := rfl
@[simp] theorem State.arrivalRec_type (s : State) (l : LaneId) (f : List Byte) :
    (s.arrivalRec l f).type = (scanBody f).recorded (s.dir.lookupScan (scanBody f)) := rfl

end Sys2Proof.Machine
end

