-- ==== Sys2Proof/Laws/Motion.lean ====
section
/-! SUPPORT. What the operations on a move leave of it and where it ends: a move made, cut short, capped (R113, R115, R128,
R129). -/

namespace Sys2Proof.Machine

@[simp] theorem newMove_target (cap : Bool) (a : LinAxis) (p : Profile) (x y : Int) : (newMove cap a p x y).target = y := rfl
@[simp] theorem newMove_goal (cap : Bool) (a : LinAxis) (p : Profile) (x y : Int) : (newMove cap a p x y).goal = y := rfl
@[simp] theorem newDescent_target (cap : Bool) (p : Profile) (v sd : Nat) (x y : Int) :
    (newDescent cap p v sd x y).target = y := rfl
@[simp] theorem newDescent_goal (cap : Bool) (p : Profile) (v sd : Nat) (x y : Int) : (newDescent cap p v sd x y).goal = y := rfl
@[simp] theorem newDescent_creepDist (cap : Bool) (p : Profile) (v sd : Nat) (x y : Int) :
    (newDescent cap p v sd x y).plan.creepDist = min sd (distance x y) := rfl
@[simp] theorem Move.cut_target (m : Move) (r : Int) : (m.cut r).target = m.target := rfl
@[simp] theorem Move.cut_goal (m : Move) (r : Int) : (m.cut r).goal = r := rfl

@[simp] theorem Move.creepCap_target (m : Move) (cap : Bool) (v : Nat) : (m.creepCap cap v).target = m.target := by
  unfold Move.creepCap; split <;> rfl
@[simp] theorem Move.creepCap_stopAt (m : Move) (cap : Bool) (v : Nat) : (m.creepCap cap v).stopAt = m.stopAt := by
  unfold Move.creepCap; split <;> rfl
@[simp] theorem Move.creepCap_profile (m : Move) (cap : Bool) (v : Nat) : (m.creepCap cap v).profile = m.profile := by
  unfold Move.creepCap; split <;> rfl
@[simp] theorem Move.creepCap_limit (m : Move) (cap : Bool) (v : Nat) : (m.creepCap cap v).limit = m.limit := by
  unfold Move.creepCap; split <;> rfl

@[simp] theorem Move.recap_target (m : Move) (cap : Bool) (v : Nat) (x : Int) : (m.recap cap v x).target = m.target := by
  unfold Move.recap; split <;> simp
@[simp] theorem Move.recap_stopAt (m : Move) (cap : Bool) (v : Nat) (x : Int) : (m.recap cap v x).stopAt = m.stopAt := by
  unfold Move.recap; split <;> simp
@[simp] theorem Move.recap_profile (m : Move) (cap : Bool) (v : Nat) (x : Int) : (m.recap cap v x).profile = m.profile := by
  unfold Move.recap; split <;> simp
@[simp] theorem Move.recap_limit (m : Move) (cap : Bool) (v : Nat) (x : Int) : (m.recap cap v x).limit = m.limit := by
  unfold Move.recap; split <;> simp

/-- A change of the cap leaves the end of a move where it is. -/
@[simp] theorem Move.recap_goal (m : Move) (cap : Bool) (v : Nat) (x : Int) : (m.recap cap v x).goal = m.goal := by
  simp [Move.goal]

end Sys2Proof.Machine
end

