-- ==== Sys2Proof/Tests/Slice0.lean ====
section
/-! SUPPORT. The model's own tests: the checks of WellFormed refuse ill-formed commands, the worked examples of spec/, one
step of some commands on small states, and for each statement with hypotheses a witness that meets them. -/

namespace Sys2Proof.Tests

open Sys2Proof Sys2Proof.Machine

set_option Elab.async false

/-! ### Helpers -/

/-- The state after a command; every command answers a next state. -/
def after (c : Instr) (s : State) : State :=
  match exec c s with
  | .next t => t
  | _ => s

def base : State := State.reset

/-- The same state, but that the level of an input has changed and has stood for 2 ms (R1). -/
def stood (x : Sensor) (s : State) : State := s.setInputs { s.inputs with filter := (x, 0) :: s.inputs.filter }

/-- The reply on the line or in the backlog's head after a request command. -/
def replyOf (s : State) : Option ReplyBody := (s.link.backlog.getLast?.bind Request.reply)

/-- A body of zeros with some bytes set. -/
def bodyWith (n : Nat) (sets : List (Nat × Byte)) : List Byte :=
  sets.foldl (fun b q => b.set q.1 q.2) (List.replicate n 0)

/-! ### WellFormed refuses -/

theorem test_wf_good_frame_with_wrong_check : (Instr.goodFrame [0xB6, 0, 0, 0x21, 1, 0, 0]).wellFormed = false := by decide +kernel
theorem test_wf_good_frame_cut_short : (Instr.goodFrame [0xB6, 0, 0, 0x21, 1]).wellFormed = false := by decide
theorem test_wf_mismatch_that_matches : (Instr.frameCheckMismatch (frameBytes 0x21 1 [])).wellFormed = false := by decide +kernel
theorem test_wf_gap_after_whole_frame : (Instr.linkGapTimeout (frameBytes 0x21 1 []) 0).wellFormed = false := by decide +kernel
theorem test_wf_stop_bit_after_whole_frame : (Instr.linkStopBitError (frameBytes 0x21 1 [])).wellFormed = false := by decide +kernel
theorem test_wf_unknown_kind_of_a_request : (Instr.unknownKind 0x21 1 []).wellFormed = false := by decide
theorem test_wf_body_above_1020 : (Instr.home 1 (List.replicate 1021 0)).wellFormed = false := by decide +kernel
theorem test_wf_body_of_1020 : (Instr.home 1 (List.replicate 1020 0)).wellFormed = true := by decide +kernel
theorem test_wf_withdraw_id_with_first_byte_one : (Instr.withdrawId 1 [1, 0, 0, 0]).wellFormed = false := by decide
theorem test_wf_withdraw_tag_with_first_byte_zero : (Instr.withdrawTag 1 [0, 0, 0]).wellFormed = false := by decide
theorem test_wf_ramped_pause_of_kind_one : (Instr.pauseRamped 1 [1]).wellFormed = false := by decide
theorem test_wf_quick_pause_of_kind_zero : (Instr.pauseQuick 1 [0]).wellFormed = false := by decide
theorem test_wf_arrival_of_17_bytes : (Instr.arrival .L1 (0x3C :: List.replicate 16 0)).wellFormed = false := by decide
theorem test_wf_arrival_without_marker : (Instr.arrival .L1 (List.replicate 18 0)).wellFormed = false := by decide
theorem test_wf_scanner_gap_after_18_bytes : (Instr.scannerGapTimeout .L1 (List.replicate 18 0)).wellFormed = false := by decide
theorem test_wf_scanner_stop_bit_after_18_bytes : (Instr.scannerStopBitError .L2 (List.replicate 18 0)).wellFormed = false := by
  decide
theorem test_wf_reading_above_100 : (Instr.vacuumReading .A 101).wellFormed = false := by decide
theorem test_wf_length_of_1020_is_not_above : (Instr.bodyLengthAbove1020 [0xB6, 0xFC, 0x03]).wellFormed = false := by decide
theorem test_wf_length_of_1021_is_above : (Instr.bodyLengthAbove1020 [0xB6, 0xFD, 0x03]).wellFormed = true := by decide

/-! ### Bytes and checks -/

/-- The register of R166 over the nine ASCII digits, as the polynomial and start value of R166 give it by hand. -/
theorem test_crc16_check_value : crc16 [0x31, 0x32, 0x33, 0x34, 0x35, 0x36, 0x37, 0x38, 0x39] = 0x29B1 := by decide +kernel
/-- The register of R186 over the nine ASCII digits. -/
theorem test_crc8_check_value : crc8 [0x31, 0x32, 0x33, 0x34, 0x35, 0x36, 0x37, 0x38, 0x39] = 0xF4 := by decide +kernel

/-- The scanner frame of 10.6: status 0, code 04006381333931, 402, 299, 121 mm and 104 wu. -/
def trayFields : List Byte := [0, 0x04, 0x00, 0x63, 0x81, 0x33, 0x39, 0x31, 0x92, 0x01, 0x2B, 0x01, 0x79, 0x00, 0x68, 0x00]

def trayFrame : List Byte := 0x3C :: trayFields ++ [byte (crc8 trayFields)]

theorem test_scanner_frame_code : (scanBody trayFrame).code = some 4006381333931 := by decide +kernel
theorem test_scanner_frame_measurements : (scanBody trayFrame).meas = some ⟨402, 299, 121, 104⟩ := by decide +kernel
/-- The same fields with status 1, their check recomputed. -/
def unreadFrame : List Byte := 0x3C :: 1 :: trayFields.drop 1 ++ [byte (crc8 (1 :: trayFields.drop 1))]

/-- R186: the status stays NO_READ, and the code is decoded all the same. -/
theorem test_scanner_frame_no_read : (scanBody unreadFrame).status = .noRead
    ∧ (scanBody unreadFrame).code = some 4006381333931 := by decide +kernel
/-- The record of that frame holds no code and no type (R67). -/
theorem test_no_read_record_code (s : State) (l : LaneId) :
    (s.arrivalRec l unreadFrame).code = none ∧ (s.arrivalRec l unreadFrame).type = none := by
  have h : (scanBody unreadFrame).status ≠ .ok := by simp [test_scanner_frame_no_read.1]
  simp [ScanBody.recorded_unread h]
theorem test_scanner_frame_bad_check : (scanBody (0x3C :: trayFields ++ [byte (crc8 trayFields + 1)])).status = .badCheck := by
  decide +kernel

/-! ### Worked examples of the chapters -/

/-- The table of R4. -/
theorem test_design_weights : [designWeight 1 0, designWeight 1 50, designWeight 7 15, designWeight 100 10, designWeight 180 10,
    designWeight 420 5, designWeight 600 50] = [1, 2, 9, 110, 198, 441, 900] := by decide

/-- The first move of 6.5: 600 mm on LINEAR 100, 1500, 400 is triangular with peak 1300. -/
theorem test_triangular_move_peak : (profilePlan (.linear 100 1500 400) 0 0 600 1500).peak = 1300 := by decide +kernel
/-- The second move of 6.5: 2400 mm reaches 1500 over 400 mm. -/
theorem test_full_move : profilePlan (.linear 100 1500 400) 0 0 2400 1500 = ⟨100, 1500, 400, 0, 0⟩ := by decide +kernel
/-- The same move under the cap of 250: a ramp of 9.375 mm, taken as 10. -/
theorem test_capped_move : profilePlan (.linear 100 1500 400) 0 0 2400 250 = ⟨100, 250, 10, 0, 0⟩ := by decide +kernel
/-- The third move of 6.5: 420 mm on the TABLE has the peak 800. -/
theorem test_table_move_peak : (profilePlan (.table [(200, 50), (400, 100), (800, 150), (1200, 200)]) 0 0 420 1500).peak = 800 := by
  decide +kernel

/-- Sheet on a FULL footprint: 85 per cent of 384 cells are at least 327 bearing cells (R45). -/
theorem test_sheet_needs_327_cells : 100 * 326 < 85 * 384 ∧ 85 * 384 ≤ 100 * 327 := by decide

/-- A type of the worked case of 3.9: height, design weight, rating and stability class. -/
def caseOf (hei wd rc stab : Nat) : CaseType := ⟨400, 300, hei, wd, 0, 15, rc, stab, 1, ⟨true, true, true, true⟩, 2, 90, wd⟩

def loadAt (t : CaseType) (i0 : Nat) : Load := ⟨i0, 0, 8, 6, t.wd, t.hei, sminOf t.stab⟩

/-- A case of a type walked and committed at a column, with its measured weight. -/
def commitAt (k : Stack) (t : CaseType) (i0 measured : Nat) : Stack :=
  match k.walk (loadAt t i0) 0 with
  | .admitted r => k.commit r (caseEntry ⟨i0, 0, i0, 0, .t0, 0, none, none, 8, 6, .bound, .unswept⟩ t r measured)
  | _ => k

/-- Trays a and b, then crates c and d (3.9). -/
def column : Stack :=
  let tray := caseOf 120 110 900 1
  let crate := caseOf 280 198 600 3
  commitAt (commitAt (commitAt (commitAt (.bare .initial) tray 0 104) tray 8 107) crate 4 190) crate 4 186

theorem test_column_after_four_commits : column.gross = 587 ∧ column.highest = 680
    ∧ column.table.map Entry.allow = [660, 660, 360, 600] := by decide +kernel
theorem test_pack_e_is_crushed : column.walk (loadAt (caseOf 300 441 1500 1) 4) 0 = .crush 2 120 := by decide +kernel
theorem test_tray_f_overhangs : column.walk (loadAt (caseOf 120 110 900 1) 12) 0 = .overhang := by decide +kernel
theorem test_sheet_overhangs : column.walk (sheetLoad .full) 0 = .overhang := by decide +kernel

/-! ### Reset and power -/

/-- Power-on of a quiet cell is the state after reset (R178). -/
theorem test_power_on_of_reset : after .powerOn State.reset = State.reset := by decide +kernel
theorem test_reset_sends_started : State.reset.link.tx = some (.report ⟨.started false 0 0, .progress, 0⟩ false) := by decide
theorem test_reset_spill_is_six : State.reset.spill = 6 := by decide
theorem test_reset_lane_with_case_purges :
    ((after .powerOn { base with inputs := { base.inputs with laneEmpty := ⟨false, true⟩ } }).lanes.l1.purging) = true := by
  decide +kernel
theorem test_no_word_spells_a_command : decodeTableWord 8 0 = none := by rfl
theorem test_idle_step_counts_a_millisecond : step base = .next { base with clock := 1 } := by rfl

/-! ### One step of some commands -/

/-- SET_CELL of R183's layout: zone A 0..100, zone B 200..255, margin 50, homing speed 10, wait limit 1. -/
def cellBody : List Byte := bodyWith 93 [(82, 100), (84, 200), (86, 255), (88, 50), (90, 10), (92, 1)]

theorem test_set_cell_accepted : replyOf (after (.setCell 7 cellBody) base) = some (.code .ok) := by decide +kernel
theorem test_set_cell_zones_that_touch :
    replyOf (after (.setCell 7 (cellBody.set 84 100)) base) = some (.code .range) := by decide +kernel

/-- DEFINE_TYPE rows 2 and 3 of the example of chapter 01. -/
def typeBody (i : Byte) (hei wn : Byte) (stab hcls mask zones duty : Byte) : List Byte :=
  [i, 0x90, 1, 0x2C, 1, hei, 0, wn, 0, 10, 15, 0x84, 3, stab, hcls, mask, zones, duty]

theorem test_define_type_one :
    replyOf (after (.defineType 1 (typeBody 1 120 100 1 1 15 2 90)) base) = some (.typeStored 1 2 90 110) := by decide +kernel
theorem test_define_type_clamps :
    replyOf (after (.defineType 1 (typeBody 2 120 180 3 3 3 3 200)) base) = some (.typeStored 2 2 127 198) := by decide +kernel
theorem test_define_article_of_undefined_type :
    replyOf (after (.defineArticle 1 [13, 0x04, 0x00, 0x63, 0x81, 0x33, 0x39, 0x31, 1]) base) = some (.code .undefined) := by
  decide +kernel
theorem test_lock_refuses_settings :
    replyOf (after (.setGripper 2 [65, 45, 0x58, 2, 150, 0, 100, 0, 80]) (after (.lockSettings 1 []) base))
      = some (.code .locked) := by decide +kernel
theorem test_set_gripper_clamps_lo :
    replyOf (after (.setGripper 2 [65, 64, 0x58, 2, 150, 0, 100, 0, 80]) base) = some (.gripperStored 65 60) := by decide +kernel
theorem test_home_needs_a_closed_door :
    replyOf (after (.home 2 []) { base with inputs := { base.inputs with door := true } }) = some (.code .state) := by
  decide +kernel
theorem test_home_starts_homing : (after (.home 2 []) base).gantry.state = .homing := by decide +kernel
theorem test_start_needs_geometry : replyOf (after (.start 2 []) base) = some (.code .undefined) := by decide +kernel
theorem test_stop_in_off : (after (.stop 2 []) base).cell.run = .off := by decide +kernel
theorem test_set_sheets_above_sixty : replyOf (after (.setSheets 2 [61]) base) = some (.code .range) := by decide +kernel
theorem test_set_sheets_sixty : (after (.setSheets 2 [60]) base).magazine = 60 := by decide +kernel
theorem test_purge_lane_without_case_returns_at_once : (after (.purgeLane 2 [1]) base).lanes.l1.purging = false := by
  decide +kernel
theorem test_departure_needs_a_pallet : replyOf (after (.setDeparture 2 [0, 10, 0]) base) = some (.code .state) := by
  decide +kernel
theorem test_query_type_undefined : replyOf (after (.queryType 2 [3]) base) = some .typeUndefined := by decide +kernel
theorem test_arrival_of_unknown_article :
    (after (.arrival .L1 trayFrame) base).lanes.l1.fifo.map ArrivalRec.disp = [.runOff .unknownArticle] := by decide +kernel
theorem test_untracked_case_is_released :
    (after (.casePresentOn .L2) (stood (.casePresent .L2) base)).lanes.l2.pick = .releasing false .untracked := by decide +kernel
theorem test_pallet_makes_unverified : (after (.palletPresent .A true) (stood (.pallet .A) base)).stn.a.mode = .plain .unverified := by decide +kernel
theorem test_break_puts_in_exchange : (after (.curtainBreak .B) (stood (.curtain .B) base)).stn.b.mode = .exchange .noPallet := by decide +kernel
theorem test_fault_input_faults_zone : (after (.faultInput .C .openLoad true) (stood (.fault .C .openLoad) base)).gripper.zones.c.faulted = true := by
  decide +kernel
theorem test_frame_sent_after_started : (after .frameSent base).link.tx = none := by decide +kernel
theorem test_good_frame_enters_backlog :
    (after (.goodFrame (frameBytes 0x21 9 [])) base).link.backlog = [⟨0x21, 9, [], none⟩] := by decide +kernel
theorem test_restart_waits_for_its_reply : (after (.restart 3 []) base).link.restartPending = true := by decide +kernel

/-- The signed form of R180 by hand: two's complement in 4 bytes, the low byte first. -/
theorem test_signed_minus_one : signed4 (-1) = [0xFF, 0xFF, 0xFF, 0xFF] ∧ i32 [0xFF, 0xFF, 0xFF, 0xFF] 0 = -1 := by decide +kernel
theorem test_signed_minus_300 : signed4 (-300) = [0xD4, 0xFE, 0xFF, 0xFF] ∧ signed4 300 = [0x2C, 0x01, 0, 0] := by decide +kernel

/-- The filter of R1: a door that opens is open for the part once it has stood open for 2 ms. -/
theorem test_filter_counts_two_ms :
    (after (.door true) base).inputs.changing .door = some 2
    ∧ (after (.door true) (after (.door true) base).tick).inputs.door = false
    ∧ (after (.door true) (after (.door true) base).tick.tick).inputs.door = true := by decide +kernel
/-- A door that is closed again before that has not opened for the part. -/
theorem test_filter_drops_a_pulse :
    (after (.door false) (after (.door true) base).tick).inputs = base.inputs
    ∧ (after (.door false) (after (.door true) base).tick).link.reports = [] := by decide +kernel
/-- A door that has stood open for 2 ms and is then closed has opened, and its closing begins its own 2 ms. -/
theorem test_filter_takes_both_changes :
    (after (.door false) (stood .door base)).inputs.door = true
    ∧ (after (.door false) (stood .door base)).inputs.changing .door = some 2 := by decide +kernel
/-! ### Witnesses: states and operands that meet the hypotheses of the statements

Each theorem names the statement it belongs to and shows its hypotheses met, clause by clause, at values at the bounds of
their ranges where they have any. -/

/-- One request waits undecided in a backlog of a given length. -/
def waiting (n : Nat) : State :=
  { base with link := { base.link with backlog := ⟨0x21, 9, [], none⟩ :: List.replicate n ⟨0x22, 1, [], some (.code .ok)⟩ } }

/-- Two bytes of a number, as body bytes to set at an offset. -/
def u16at (n v : Nat) : List (Nat × Byte) := [(n, byte v), (n + 1, byte (v / 256))]

theorem ready_base : base.link.Ready := by unfold Link.Ready; decide

/-- A state whose link is that of the state after reset is ready. -/
theorem ready_like_base {s : State} (h : s.link = base.link) : s.link.Ready := h ▸ ready_base

/-- A request waits in a ready backlog next to three decided ones. -/
theorem ready_at_three : ({ base.link with backlog := List.replicate 3 ⟨0x22, 1, [], some (.code .ok)⟩ } : Link).Ready := by
  unfold Link.Ready; decide

theorem witness_StepRunsTheFrontCommand : ({ base with pending := [.frameSent, .home 1 []] } : State).pending =
    .frameSent :: [.home 1 []] := by rfl

theorem witness_IdleStepPassesOneMillisecond :
    ((stood .door base).pending = [] ∧ (stood .door base).inputs.filter = [] ++ (.door, 0) :: []
      ∧ (Instr.door true).sensor? = some (.door, !(stood .door base).inputs.level .door))
    ∧ (after (.door true) base).pending = [] ∧ ∀ e ∈ (after (.door true) base).inputs.filter, e.2 ≠ 0 := by decide +kernel

theorem witness_EveryCommandAnswersAndKeepsQueueAndInputs :
    (Instr.powerOn.sensed = false ∧ (Instr.restart 0 []).sensed = false)
    ∧ ((Instr.door false).sensor? = some (.door, false) ∧ (Instr.door true).sensor? = some (.door, true))
    ∧ (base.inputs.changing .door = none ∧ base.inputs.level .door = false ∧ base.inputs.level .door ≠ true)
    ∧ ((after (.door true) base).inputs.changing .door = some 2 ∧ (after (.door true) base).inputs.level .door = false)
    ∧ (after (.door true) base).tick.inputs.changing .door = some 1
    ∧ (stood .door base).inputs.changing .door = some 0 := by
  decide +kernel

/-! Dispatch -/

/-- A cell that runs, with a gantry in IDLE and a sheet in the magazine. -/
def running : State :=
  { base with
    magazine := 1, evalDue := true
    gantry := { base.gantry with state := .idle, geomDefined := true }
    cell := ⟨.run, false⟩ }

/-- A case of type 0 that can be gripped by all zones. -/
def caseType : CaseType := ⟨400, 300, 120, 100, 10, 15, 900, 1, 1, ⟨true, true, true, true⟩, 2, 90, 110⟩

def rec0 : ArrivalRec := ⟨.L1, 0, .ok, some 1, some 0, some ⟨400, 300, 120, 100⟩, some .t0, .accepted, false⟩

def place0 (v : Verdict) : Placement := ⟨1, 0, 0, 0, .t0, 0, none, none, 8, 6, .pending, v⟩

def layer0 (sheetDue : Bool) (v : Verdict) : Layer := ⟨1, sheetDue, true, false, false, sheetDue, [place0 v], false, false⟩

def admitted : Verdict := .admitted ⟨[], 0, 48, [(.deck, 48)], 110⟩

/-- A layer with one placement of type 0 in station A, the type defined. -/
def planned (s : State) (m : Mode) (v : Verdict) : State :=
  let s := s.setPlan .A ⟨[layer0 false v], false⟩
  let s := s.setStn .A { s.stn.a with mode := m }
  s.setDir { s.dir with types := s.dir.types.set 0 (some caseType) }

/-- A front case of type 0 on L1. -/
def fronted (s : State) : State := s.setLane .L1 { s.lanes.l1 with fifo := [rec0], pick := .front }

def placing : State := fronted (planned running (.plain .building) admitted)

def putting : State := fronted (planned running (.plain .noPallet) .unswept)

def puttingAway : State := ({ running with spill := 5 } : State).setSlot 0 (.held { rec0 with type := none } 0 false)

/-- A job that carries nothing yet, from L1 to the placement of station A. -/
def job0 : Job := placing.jobOf (.place .A (place0 admitted) (.lane .L1))

/-- The job once it has its case, in a phase. -/
def laden (p : Phase) : Job := { job0 with phase := p, gripped := true, carried := some (.case rec0) }

/-- The job converted, without a destination, in a cell and gantry as they stand (R102, R103). -/
def homeless (s : State) : State :=
  { s with
    evalDue := false, awaitDue := true
    job := some { laden .travel with kind := .putaway, dest := none, turn := .t0, reservation := none } }

/-- The sheet of station A stands admitted. -/
def sheeting : State :=
  let s := (planned running (.plain .building) .unswept).setPlan .A ⟨[layer0 true .unswept], false⟩
  s.setStack .A { s.stack.a with sheetVerdict := admitted }

/-- No zone is usable. -/
def zoneless (s : State) : State :=
  s.setGripper { s.gripper with zones := PerZone.tab (fun _ => ⟨.off, false, true⟩) }

/-- A stale case in slot 0 that no zone can grip. -/
def ungrippable : State := zoneless puttingAway

theorem evaluates_running (s : State) (a : s.awaitDue = false) (b : s.evalDue = true) (c : s.mayDispatch = true) :
    s.Evaluates := ⟨a, b, c⟩

/-- Slot 0 of a shelf with nothing on it is the lowest free slot. -/
theorem lowest_putting : putting.LowestFree 0 := ⟨⟨by decide, by decide⟩, fun k h => absurd h (Nat.not_lt_zero k.val)⟩

/-- No sheet is due in `placing`. -/
theorem no_sheet_stands (st : StationId) : ¬({ placing with magazine := 0 } : State).SheetStands st :=
  fun h => absurd h.2.2.1 (by cases st <;> decide)

theorem witness_DispatchChoosesByRankWhereItMay :
    (running.Evaluates ∧ placing.Evaluates ∧ putting.LowestFree 0)
    ∧ (base.evalDue = false ∧ base.awaitDue = false)
    ∧ (base.awaitDue = false ∧ base.gantry.state ≠ .idle)
    ∧ (running.magazine ≠ 0 ∧ running.choice = none)
    ∧ (placing.magazine ≠ 0 ∧ placing.choice = some (.place .A (place0 admitted) (.lane .L1))
        ∧ placing.grippable (placing.caseAt (.lane .L1)) = true)
    ∧ (∀ st, ¬({ placing with magazine := 0 } : State).SheetStands st)
    ∧ (({ placing with magazine := 0 } : State).choice = some (.place .A (place0 admitted) (.lane .L1))
        ∧ ({ running with magazine := 0 } : State).choice = none
        ∧ ({ sheeting with magazine := 0 } : State).magazine = 0)
    ∧ sheeting.choice = some (.sheet .A)
    ∧ putting.choice = some (.put .L1 0) ∧ putting.wantedRec rec0 = true
    ∧ puttingAway.choice = some (.putaway 0)
    ∧ (homeless running).chooseDest (.case rec0) = none
    ∧ ((homeless { running with spill := 5 }).chooseDest (.case rec0) = some .spill
        ∧ (homeless running).gantry.heldChange = false ∧ (homeless running).lossZone? = none)
    ∧ (homeless putting).chooseDest (.case rec0) = some (.slot 0) :=
  ⟨⟨evaluates_running _ (by decide) (by decide) (by decide +kernel), evaluates_running _ (by decide) (by decide) (by decide +kernel),
    lowest_putting⟩, by decide +kernel, by decide +kernel, by decide +kernel, by decide +kernel, no_sheet_stands, by decide +kernel⟩

theorem witness_ChosenJobsAreMadeOrGivenUp :
    (placing.Evaluates ∧ ungrippable.Evaluates ∧ ({ sheeting with magazine := 0 } : State).Evaluates)
    ∧ (sheeting.SheetStands .A ∧ ¬sheeting.SheetStands .B)
    ∧ ((∀ st, ¬({ placing with magazine := 0 } : State).SheetStands st)
        ∧ ({ placing with magazine := 0 } : State).choice = some (.place .A (place0 admitted) (.lane .L1)))
    ∧ (placing.magazine ≠ 0 ∧ placing.choice = some (.place .A (place0 admitted) (.lane .L1))
        ∧ placing.grippable (placing.caseAt (.lane .L1)) = true ∧ placing.caseAt (.lane .L1) = some rec0
        ∧ placing.dir.typeAt 0 = some caseType ∧ placing.dir.handling[1]?.isSome = true)
    ∧ (sheeting.choice = some (.sheet .A) ∧ sheeting.grippable none = true ∧ putting.choice = some (.put .L1 0))
    ∧ (ungrippable.choice = some (.putaway 0) ∧ ungrippable.grippable (ungrippable.caseAt (.slot 0)) = false
        ∧ ungrippable.magazine ≠ 0 ∧ ungrippable.slots[(0 : Fin 8)] = .held { rec0 with type := none } 0 false)
    ∧ ((zoneless sheeting).choice = some (.sheet .A) ∧ (zoneless sheeting).grippable none = false)
    ∧ ((zoneless placing).grippable (placing.caseAt (.lane .L1)) = false ∧ placing.lanes.l1.fifo = rec0 :: []) :=
  ⟨⟨evaluates_running _ (by decide) (by decide) (by decide +kernel), evaluates_running _ (by decide) (by decide) (by decide +kernel),
    evaluates_running _ (by decide) (by decide) (by decide +kernel)⟩,
    ⟨⟨by decide, by decide, by decide, _, rfl⟩, fun h => absurd h.1 (by decide)⟩, ⟨no_sheet_stands, by decide +kernel⟩,
    by decide +kernel⟩

/-- R92 by hand: with the magazine at 0 and no sheet due the PLACE job is made. -/
theorem test_place_without_a_sheet_in_the_magazine :
    ({ placing with magazine := 0 } : State).settle.job.map Job.kind = some .place := by decide +kernel

/-- R92 and R97 by hand: without a sheet in the magazine station A is HELD, and with one its SHEET job is made. -/
theorem test_sheet_holds_or_makes_a_job :
    ({ sheeting with magazine := 0 } : State).settle.stn.a.mode = .plain (.held .sheetsOut)
    ∧ sheeting.settle.job.map Job.kind = some .sheet ∧ sheeting.settle.job.map Job.turn = some .t0 := by decide +kernel

/-! Line link -/

theorem witness_FrameSentFreesTheLineAndRestartClears :
    ((after .frameSent base).link.tx = none)
    ∧ base.link.tx = some (.report ⟨.started false 0 0, .progress, 0⟩ false)
    ∧ ({ base with link := { base.link with tx := some (.busy ⟨0x21, 1, .code .busy⟩) } } : State).link.tx =
        some (.busy ⟨0x21, 1, .code .busy⟩)
    ∧ ((0x2B : Byte) ≠ 0x2B ∨ ReplyBody.code .badLength ≠ .code .ok)
    ∧ ({ base with link := { base.link with tx := some (.reply ⟨0x2B, 7, .code .ok⟩) } } : State).link.tx =
        some (.reply ⟨0x2B, 7, .code .ok⟩) := by decide +kernel

def routine : Report := ⟨.laneRun .L1, .routine, 0⟩
def progress : Report := ⟨.duePassed .A, .progress, 0⟩
def alarmed : Report := ⟨.lanePurge .L1 .host 0, .alarm, 0⟩

theorem witness_LineSendsBusyThenReplyThenHighestReport :
    base.link.tx ≠ none
    ∧ (∃ l : Link, l.tx = none ∧ l.busy = [] ∧ (∀ q, l.backlog.head? = some q → q.reply = none) ∧ l.reports = [])
    ∧ (∃ l : Link, l.tx = none ∧ l.busy = [⟨0x21, 1, .code .busy⟩])
    ∧ (∃ l : Link, l.tx = none ∧ l.busy = [] ∧ l.backlog = [⟨0x21, 1, [], some (.code .ok)⟩])
    ∧ (∃ l : Link, l.tx = none ∧ l.busy = [] ∧ (∀ q, l.backlog.head? = some q → q.reply = none)
        ∧ l.reports = [routine, alarmed, progress] ∧ l.reports ≠ []) :=
  ⟨by decide, ⟨Link.atReset false, rfl, rfl, (fun _ h => by cases h), rfl⟩,
   ⟨{ Link.atReset false with busy := [⟨0x21, 1, .code .busy⟩] }, rfl, rfl⟩,
   ⟨{ Link.atReset false with backlog := [⟨0x21, 1, [], some (.code .ok)⟩] }, rfl, rfl, rfl⟩,
   ⟨{ Link.atReset false with backlog := [⟨0x21, 1, [], none⟩], reports := [routine, alarmed, progress] }, rfl, rfl,
     fun _ h => (Option.some.inj h) ▸ rfl, rfl, List.cons_ne_nil _ _⟩⟩

theorem witness_FullReportQueueDisplacesByClass :
    ((List.replicate 24 progress).length = 24 ∧ routine.cls = .routine)
    ∧ (alarmed.cls ≠ .routine ∧ routine.cls = .routine ∧ (progress :: routine :: List.replicate 22 progress).length = 24
        ∧ ∀ q ∈ [progress], q.cls ≠ .routine)
    ∧ (progress.cls = .progress ∧ (List.replicate 24 alarmed).length = 24 ∧ ∀ q ∈ List.replicate 24 alarmed, q.cls ≠ .routine)
    ∧ (alarmed.cls = .alarm ∧ (alarmed :: progress :: List.replicate 22 alarmed).length = 24
        ∧ (∀ q ∈ alarmed :: progress :: List.replicate 22 alarmed, q.cls ≠ .routine)
        ∧ progress.cls = .progress ∧ ∀ q ∈ [alarmed], q.cls ≠ .progress)
    ∧ (∀ q ∈ List.replicate 24 alarmed, q.cls = .alarm) := by decide +kernel

theorem witness_FramesAreTakenAnsweredBusyOrDiscarded :
    base.link.framer = .hunting ∧ (List.replicate 1020 (0 : Byte)).length ≤ 1020 ∧ (waiting 2).link.backlog.length < 4
    ∧ (4 ≤ (waiting 3).link.backlog.length ∧ (waiting 3).link.busy.length < 4)
    ∧ (waiting 3).link.framer = .hunting
    ∧ 4 ≤ (List.replicate 4 (⟨0x21, 1, .code .busy⟩ : Reply)).length := by decide +kernel

theorem witness_FramesThatAreDiscarded :
    (base.link.framer = .hunting ∧ isWholeFrame [0xB6, 0, 0, 0x21, 1, 0, 0] = true
      ∧ checkMatches [0xB6, 0, 0, 0x21, 1, 0, 0] = false)
    ∧ (1020 < (0xFD : Byte).toNat + 256 * (0x03 : Byte).toNat)
    ∧ ([0xB6] : List Byte).head? = some 0xB6 ∧ ([0xB6, 0] : List Byte).length < 3
    ∧ (u16 ([0xB6, 0xFC, 0x03, 0x21] : List Byte) 1 ≤ 1020
        ∧ ([0xB6, 0xFC, 0x03, 0x21] : List Byte).length < 7 + u16 ([0xB6, 0xFC, 0x03, 0x21] : List Byte) 1) := by
  decide +kernel

/-- The request that waits first in `waiting` is not the next command. -/
theorem waiting_next (n : Nat) (h : (waiting n).link.restartPending = false) :
    (waiting n).link.next? = some ⟨0x21, 9, [], none⟩ := by
  unfold Link.next?
  rw [h]
  rfl

theorem witness_RequestsWaitTheirTurn :
    (Instr.home 1 []).request? = some (0x20, 1, []) ∧ (Instr.home 1 []).wellFormed = true
    ∧ (∀ q, (waiting 2).link.next? = some q → q ≠ ⟨byte 0x20, 1, [], none⟩)
    ∧ (waiting 2).link.backlog.length < 4 ∧ (waiting 2).link.next? ≠ none
    ∧ (∀ q, (waiting 3).link.next? = some q → q ≠ ⟨byte 0x20, 1, [], none⟩)
    ∧ 4 ≤ (waiting 3).link.backlog.length ∧ (waiting 3).link.busy.length < 4 := by
  refine ⟨rfl, rfl, ?_, by decide, ?_, ?_, by decide, by decide⟩
  · rw [waiting_next 2 (by decide)]; intro q h; cases h; decide
  · rw [waiting_next 2 (by decide)]; exact Option.some_ne_none _
  · rw [waiting_next 3 (by decide)]; intro q h; cases h; decide

/-- The request that waits is decided in its place by its own command, START, and one that is not yet taken meets a ready link. -/
theorem witness_RequestsWaitTheirTurn_inPlace :
    (Instr.start 9 []).request? = some (0x21, 9, []) ∧ (Instr.start 9 []).wellFormed = true
    ∧ (waiting 3).link.restartPending = false
    ∧ (waiting 3).link.backlog = [] ++ ⟨byte 0x21, 9, [], none⟩ :: List.replicate 3 ⟨0x22, 1, [], some (.code .ok)⟩
    ∧ base.link.Ready := ⟨rfl, rfl, by decide, rfl, ready_base⟩

/-- R169 by hand: START in a cell without a geometry is answered UNDEFINED where its request stands. -/
theorem test_waiting_request_is_decided_in_place :
    (after (.start 9 []) (waiting 1)).link.backlog =
      [⟨0x21, 9, [], some (.code .undefined)⟩, ⟨0x22, 1, [], some (.code .ok)⟩] := by decide +kernel

theorem witness_EarlyRefusalsRestartAndLock :
    base.link.Ready ∧ isRequestKind (0x0A : Byte).toNat = false ∧ (Instr.home 1 [0]).wellFormed = true
    ∧ (Instr.home 1 [0]).request? = some (0x20, 1, [0]) ∧ isRequestKind 0x20 = true ∧ bodyFits 0x20 [0] = false
    ∧ (Instr.setGripper 1 (bodyWith 9 [])).request? = some (0x05, 1, bodyWith 9 []) ∧ bodyFits 0x05 (bodyWith 9 []) = true
    ∧ (after (.lockSettings 1 []) base).link.lock = true
    ∧ station? (u8 [2] 0) = none ∧ station? (u8 [2, 0, 0] 0) = none ∧ station? (u8 [1, 2, 0] 1) = none
    ∧ station? (u8 [0, 2, 0, 0] 1) = none :=
  ⟨ready_base, by decide +kernel⟩

/-- Station A with a layer of placement 1, and a stack whose one CASE entry carries id 9. -/
def queried : State :=
  let s := planned base (.plain .building) .unswept
  s.setStack .A (s.stack.a.commit ⟨[], 0, 48, [(.deck, 48)], 110⟩
    { caseEntry (place0 .unswept) caseType ⟨[], 0, 48, [(.deck, 48)], 110⟩ 90 with kind := .case 9 0 })

theorem witness_QueriesAnswerAndChangeNothing :
    base.link.Ready ∧ ((bodyWith 8 []).length = 8 ∧ ([] : List Byte).length = 0
      ∧ (bodyWith 1 []).length = 1 ∧ (bodyWith 2 []).length = 2 ∧ (bodyWith 3 []).length = 3)
    ∧ (station? (u8 [2] 0) = none ∧ station? (u8 [0, 0] 0) = some .A ∧ 12 ≤ u8 [0, 12] 1 ∧ u8 [0, 11] 1 < 12
      ∧ queried.plan.a.queue.length ≤ u8 [0, 1] 1 ∧ queried.plan.a.queue[u8 [0, 0] 1]? = some (layer0 false .unswept)
      ∧ queried.plan.a.queue = [] ++ layer0 false .unswept :: [] ∧ (place0 .unswept).id = u16 [0, 1, 0] 1
      ∧ queried.plan.a.placements = [place0 .unswept]
      ∧ (∀ q ∈ queried.plan.a.placements, q.id ≠ u16 [0, 9, 0] 1) ∧ u16 [0, 9, 0] 1 ∈ queried.stack.a.caseIds
      ∧ u16 [0, 8, 0] 1 ∉ queried.stack.a.caseIds
      ∧ 160 ≤ u8 [0, 160] 1 ∧ u8 [0, 159] 1 < 160 ∧ queried.stack.a.table.length ≤ u8 [0, 1] 1
      ∧ queried.stack.a.table[u8 [0, 0] 1]?.isSome = true ∧ queried.stack.a.limits.foot = .full
      ∧ lane? (u8 [0] 0) = none ∧ lane? (u8 [1] 0) = some .L1 ∧ 8 ≤ u8 [8] 0 ∧ u8 [7] 0 = (7 : Fin 8).val
      ∧ 64 ≤ u8 [64] 0 ∧ u8 [63] 0 < 64 ∧ queried.dir.typeAt (u8 [63] 0) = none ∧ queried.dir.typeAt (u8 [0] 0) = some caseType
      ∧ 6 ≤ u8 [6] 0 ∧ u8 [5] 0 = (5 : Fin 6).val) := ⟨ready_base, by decide, by decide +kernel⟩

/-- R35 and R64 by hand: the first row of the map shows the entry of 8 cells, and its id is found on the stack alone. -/
theorem test_query_surface_and_placement_on_stack :
    (match ansQuerySurface [0, 0] queried with
      | .surfaceRow row h => row.map Cell.h == List.replicate 8 120 ++ List.replicate 16 0 && h == 120
      | _ => false) = true
    ∧ ansQueryPlacement [0, 9, 0] queried = .placedOnStack 0
    ∧ ansQueryPlacement [0, 8, 0] queried = .code .notFound := by decide +kernel

/-! Settings -/

/-- Is a SET_CELL body within its ranges? -/
abbrev cellOk (b : List Byte) : Prop :=
  (∀ o ∈ [0, 6, 66, 12, 18, 24, 30, 36, 42, 48, 54], u16 b o ≤ 5200 ∧ u16 b (o + 2) ≤ 2000 ∧ u16 b (o + 4) ≤ 1800)
    ∧ u16 b 60 ≤ 3200 ∧ u16 b 62 ≤ 2000 ∧ u16 b 64 ≤ 1800
    ∧ u16 b 72 ≤ 4000 ∧ u16 b 74 ≤ 1200 ∧ u16 b 76 ≤ 4000 ∧ u16 b 78 ≤ 1200
    ∧ u16 b 80 < u16 b 82 ∧ u16 b 82 ≤ 5200 ∧ u16 b 84 < u16 b 86 ∧ u16 b 86 ≤ 5200
    ∧ (u16 b 82 < u16 b 84 ∨ u16 b 86 < u16 b 80)
    ∧ 50 ≤ u16 b 88 ∧ u16 b 88 ≤ 300 ∧ 10 ≤ u16 b 90 ∧ u16 b 90 ≤ 200 ∧ 1 ≤ u8 b 92 ∧ u8 b 92 ≤ 120

theorem witness_SetCellStoresTheGeometryOrRefuses :
    base.link.Ready ∧ (base.link.lock = false ∧ cellBody.length = 93) ∧ cellOk cellBody
    ∧ ¬cellOk (cellBody.set 88 49) ∧ ¬cellOk (cellBody.set 92 121)
    ∧ running.cell.run = .run ∧ base.cell.run ≠ .run ∧ base.cell.run ≠ .finishing ∧ base.job = none :=
  ⟨ready_base, by decide +kernel, by decide +kernel, by decide +kernel, by decide +kernel, by decide +kernel⟩

/-- SET_STATION of station A, FULL, with every field at its lower bound. -/
def stationBody (policy : Byte) : List Byte :=
  bodyWith 12 (u16at 2 600 ++ u16at 4 1000 ++ [(7, policy)] ++ u16at 8 10)

/-- A PUT job that carries its case stands STOPPED with Z low, in a GUARD_STOPPED cell with no cause left. -/
def slotCarry : State :=
  ((base.setCellRun (.guardStopped (.ret .run) ⟨false, false, false⟩)).setGantry { base.gantry with
      state := .stopped, axes := { base.gantry.axes with z := ⟨some 200, true, none⟩ } }).setJob
    (some { laden .travel with kind := .put, dest := some (.slot 3), reservation := none })

/-- R126 and R152 by hand: AUTO returns the cell, and the retained TRAVEL rises first. -/
theorem test_set_station_returns_the_cell :
    (after (.setStation 1 (stationBody 1)) slotCarry).cell = ⟨.run, true⟩
    ∧ (after (.setStation 1 (stationBody 1)) slotCarry).gantry.state = .busy
    ∧ (after (.setStation 1 (stationBody 1)) slotCarry).gantry.motion = .rise := by decide +kernel

theorem witness_SetStationStoresLimitsPolicyAndFields :
    base.link.Ready ∧ (base.link.lock = false ∧ (stationBody 0).length = 12 ∧ station? (u8 (stationBody 0) 0) = some .A
      ∧ 2 ≤ u8 ((stationBody 0).set 1 2) 1 ∧ u8 (stationBody 0) 1 = 0 ∧ u8 (stationBody 1) 7 = 1
      ∧ (600 ≤ u16 (stationBody 0) 2 ∧ u16 (stationBody 0) 2 ≤ 2400 ∧ 1000 ≤ u16 (stationBody 0) 4
          ∧ u16 (stationBody 0) 4 ≤ 12000 ∧ u8 (stationBody 0) 6 ≤ 25 ∧ 10 ≤ u16 (stationBody 0) 8
          ∧ u16 (stationBody 0) 8 ≤ 600 ∧ u16 (stationBody 0) 10 ≤ 6000)
      ∧ ¬ u8 ((stationBody 0).set 6 26) 6 ≤ 25
      ∧ (base.setPlan .A ⟨[layer0 false .unswept], false⟩).plan.a.queue ≠ []
      ∧ base.stack.a.table = [] ∧ base.outstanding .A = none ∧ base.stack.a.limits.foot = .full ∧ base.job = none
      ∧ (base.setCellRun (.guardStopped (.ret .run) ⟨false, false, false⟩)).cell.run =
          .guardStopped (.ret .run) ⟨false, false, false⟩
      ∧ (slotCarry.job ≠ none ∧ slotCarry.outstanding .A = none ∧ slotCarry.stack.a.table = []
          ∧ slotCarry.cell.run = .guardStopped (.ret .run) ⟨false, false, false⟩ ∧ slotCarry.gantry.state = .stopped
          ∧ (slotCarry.setCellRun (.guardStopped (.paused .run) ⟨false, false, false⟩)).job = slotCarry.job))
    ∧ ∀ m c, base.cell.run = .guardStopped m c → false = false ∨ c.door = true ∨ c.curtainA = true ∨ c.curtainB = true :=
  ⟨ready_base, by decide +kernel, fun _ _ _ => .inl rfl⟩

/-- SET_PROFILE of slot 7: LINEAR V0 10, Vt 11, Pr 10. -/
def profileBody7 : List Byte := bodyWith 8 ([(0, 7)] ++ u16at 2 10 ++ u16at 4 11 ++ u16at 6 10)

/-- SET_PROFILE of slot 7: TABLE of two steps. -/
def tableBody (v1 v2 d : Nat) : List Byte := [7, 2, 2] ++ bytes2 v1 ++ bytes2 d ++ bytes2 v2 ++ bytes2 500

theorem witness_SetProfileChecksAndStoresTheProfile :
    base.link.Ready ∧ base.link.lock = false ∧ bodyFits 0x03 profileBody7 = true ∧ 8 ≤ u8 (profileBody7.set 0 8) 0
    ∧ u8 profileBody7 0 = (7 : Fin 8).val ∧ u8 profileBody7 1 ≤ 1
    ∧ ¬ 10 ≤ u16 (profileBody7.set 2 9) 2
    ∧ (10 ≤ u16 profileBody7 2 ∧ u16 profileBody7 2 ≤ 500 ∧ u16 profileBody7 6 ≤ 1500)
    ∧ u16 (profileBody7.set 4 10) 4 ≤ u16 (profileBody7.set 4 10) 2 ∧ u16 profileBody7 2 < u16 profileBody7 4
    ∧ u16 (profileBody7.set 6 9) 6 < 10 ∧ 10 ≤ u16 profileBody7 6
    ∧ (bodyFits 0x03 (tableBody 10 1500 5) = true ∧ u8 (tableBody 10 1500 5) 1 = 2 ∧ 2 ≤ u8 (tableBody 10 1500 5) 2
        ∧ (∀ q ∈ steps (tableBody 10 1500 5) 3 2, 10 ≤ q.1 ∧ q.1 ≤ 1500 ∧ 5 ≤ q.2 ∧ q.2 ≤ 500)
        ∧ (steps (tableBody 10 1500 5) 3 2).Pairwise (fun p q => p.1 < q.1))
    ∧ (∃ q ∈ steps (tableBody 9 1500 5) 3 2, q.1 < 10 ∨ 1500 < q.1 ∨ 500 < q.2)
    ∧ (∃ q ∈ steps (tableBody 10 1500 4) 3 2, q.2 < 5)
    ∧ ¬ (steps (tableBody 10 10 5) 3 2).Pairwise (fun p q => p.1 < q.1) := ⟨ready_base, by decide +kernel⟩

def gripBytes : List Byte := bodyWith 9 ([(0, 40), (1, 20)] ++ u16at 2 100 ++ u16at 4 50 ++ u16at 6 20 ++ [(8, 40)])

/-- DEFINE_TYPE 63 with every field at its lower bound and the weight tolerance absent. -/
def leastType : List Byte :=
  bodyWith 18 ([(0, 63)] ++ u16at 1 50 ++ u16at 3 50 ++ u16at 5 50 ++ u16at 7 1 ++ [(9, 255), (15, 1), (16, 1)])

theorem witness_DefineTypeStoresClampedWithDesignWeight :
    base.link.Ready ∧ leastType.length = 18 ∧ 16 ≤ u8 (leastType.set 15 16) 15
    ∧ mask? (u8 leastType 15) = some ⟨true, false, false, false⟩ ∧ 15 = (if u8 leastType 9 = 255 then 15 else u8 leastType 9)
    ∧ ¬ u8 (leastType.set 0 64) 0 < 64
    ∧ (u8 leastType 0 < 64 ∧ 50 ≤ u16 leastType 1 ∧ u16 leastType 1 ≤ 800 ∧ 50 ≤ u16 leastType 3 ∧ u16 leastType 3 ≤ 800
        ∧ 50 ≤ u16 leastType 5 ∧ u16 leastType 5 ≤ 600 ∧ 1 ≤ u16 leastType 7 ∧ u16 leastType 7 ≤ 600 ∧ u8 leastType 10 ≤ 30
        ∧ u16 leastType 11 ≤ 4000 ∧ u8 leastType 13 ≤ 3 ∧ u8 leastType 14 ≤ 5
        ∧ 1 ≤ zoneCount ⟨true, false, false, false⟩ ∧ 1 ≤ u8 leastType 16 ∧ u8 leastType 16 ≤ 4)
    ∧ base.referenced 63 = false ∧ placing.referenced 0 = true
    ∧ ((base.setSlot 7 (.held rec0 0 false)).referenced 0 = true
        ∧ ((base.setJob (some { job0 with delivered := some 63 })).referenced 63 = true)) := ⟨ready_base, by decide +kernel⟩

/-- The body of DEFINE_ARTICLE for the code of the example of chapter 01. -/
def articleBody (t : Byte) : List Byte := [13, 0x04, 0x00, 0x63, 0x81, 0x33, 0x39, 0x31, t]

/-- A directory with the article of the example. -/
def withArticle : State := placing.setDir { placing.dir with articles := [⟨4006381333931, 0⟩] }

/-- SET_HANDLING of class 5 with every field at a bound of its range. -/
def handlingBytes : List Byte := bodyWith 8 ([(0, 5), (1, 7)] ++ u16at 2 20 ++ u16at 4 200 ++ u16at 6 600)

theorem witness_HandlingClassesAndArticlesAreStored :
    base.link.Ready ∧ (handlingBytes.length = 8 ∧ ¬ u8 (handlingBytes.set 0 6) 0 < 6 ∧ u8 handlingBytes 0 = (5 : Fin 6).val
      ∧ u8 handlingBytes 1 ≤ 7 ∧ 20 ≤ u16 handlingBytes 2 ∧ u16 handlingBytes 2 ≤ 400 ∧ u16 handlingBytes 4 ≤ 200
      ∧ 10 ≤ u16 handlingBytes 6 ∧ u16 handlingBytes 6 ≤ 600)
    ∧ (articleBody 0).length = 9 ∧ code? ((articleBody 0).set 0 7) 0 = none ∧ 64 ≤ u8 (articleBody 64) 8
    ∧ code? (articleBody 0) 0 = some 4006381333931 ∧ u8 (articleBody 63) 8 < 64 ∧ base.dir.typeAt 63 = none
    ∧ placing.dir.typeAt (u8 (articleBody 0) 8) ≠ none ∧ (∃ a ∈ withArticle.dir.articles, a.code = 4006381333931)
    ∧ (∀ a ∈ base.dir.articles, a.code ≠ 4006381333931) ∧ base.dir.articles.length < 256
    ∧ 256 ≤ (List.replicate 256 (⟨1, 0⟩ : Article)).length
    ∧ ((articleBody 0).take 8).length = 8 ∧ withArticle.dir.articles = [] ++ ⟨4006381333931, 0⟩ :: [] := 
  ⟨ready_base, by decide +kernel⟩

/-! Plans -/

/-- LOAD_LAYER of station A with one short placement of a type that fits (R182). -/
def layerBytes : List Byte := [0, 7, 0, 1, 0, 2, 0, 0, 16, 10, 0, 99]

/-- Station A takes layers, and type 0 is defined. -/
def loading : State := (planned base (.plain .idle) .unswept).setPlan .A ⟨[], false⟩

/-- Station A with one layer queued, and with a job that holds a reservation for it. -/
def loadingOn (job : Option Job) : State := (loading.setPlan .A ⟨[layer0 false .unswept], false⟩).setJob job

/-- LOAD_LAYER of a layer the station takes: what the statement asks of state and body. -/
def takesLayer (s : State) (b : List Byte) : Bool :=
  match layerBody? b with
  | none => false
  | some v =>
    decide (v.st = .A ∧ 1 ≤ v.count ∧ v.count ≤ 40 ∧ v.count ≤ (s.plan.get v.st).free)
      && (match s.checkPlaces v.st [] v.places with
          | .ok _ => true
          | .error _ => false)

/-- The placement of `layerBytes`, and the record it gets. -/
def place2 : PlaceBody := ⟨2, 0, 16, 10, 0, 99, none, none⟩
def taken2 : Placement := ⟨2, 0, 16, 10, .t0, 99, none, none, 8, 6, .pending, .unswept⟩

theorem taken_loading : loading.PlacesTaken .A [place2] [taken2] := by
  refine ⟨.cons ⟨caseType, .t0, by decide, by decide, by decide, fun n h => (by cases h), by decide +kernel, by decide +kernel,
    by decide, by decide, by decide +kernel, by decide +kernel⟩ .nil, fun p h => ?_, by decide,
    List.pairwise_singleton _ _⟩
  obtain rfl := List.mem_singleton.mp h
  exact fun u => u.elim (fun ⟨q, hq, _⟩ => nomatch hq) (fun hq => nomatch hq)

theorem witness_LoadLayerAppendsTheLayer :
    loading.link.Ready ∧ loading.PlacesTaken .A [place2] [taken2]
    ∧ (bodyFits 0x10 layerBytes = true ∧ layerBody? layerBytes = some ⟨.A, 7, false, false, false, 1, [place2]⟩
      ∧ takesLayer loading layerBytes = true
      ∧ loading.stn.a.mode = .plain .idle ∧ loading.plan.a = ⟨[], false⟩
      ∧ (List.replicate 11 (layer0 false .unswept)).length < 12
      ∧ (takesLayer (loadingOn none) (layerBytes.set 2 4) = true ∧ (loadingOn none).plan.a.queue.length = 1
          ∧ (layerBody? (layerBytes.set 2 4)).map (fun v => v.early && !v.sheet) = some true)
      ∧ (takesLayer (loadingOn none) layerBytes = true ∧ (loadingOn none).plan.a.queue ≠ []
          ∧ (layerBody? layerBytes).map (fun v => v.early && !v.sheet) = some false)
      ∧ loading.outstanding .A = none ∧ (loadingOn (some job0)).outstanding .A ≠ none) :=
  ⟨ready_like_base rfl, taken_loading, by decide +kernel⟩

/-- The result and position that LOAD_LAYER's placement checks give, for a body. -/
def refusedAt (s : State) (b : List Byte) : Option (Result × Nat) :=
  match layerBody? b with
  | none => none
  | some v =>
    match s.checkPlaces v.st [] v.places with
    | .error e => some e
    | .ok _ => none

/-- LOAD_LAYER of `place2` and a second placement with an id and an i0, which starts 8 cells before it at i0 = 8. -/
def twoPlaces (id i0 : Byte) : List Byte := (layerBytes.set 3 2) ++ [0, id, 0, 0, i0, 10, 0, 99]

theorem taken_nil : loading.PlacesTaken .A [] [] := ⟨.nil, fun _ h => absurd h (List.not_mem_nil), List.nodup_nil, .nil⟩

theorem witness_LoadLayerRefusesInOrder :
    base.link.Ready ∧ bodyFits 0x10 [0, 7, 8, 0] = true ∧ layerBody? [0, 7, 8, 0] = none
    ∧ (layerBody? [0, 7, 0, 0]).map LayerBody.count = some 0
    ∧ (layerBody? layerBytes).map LayerBody.count = some 1
    ∧ base.stn.a.mode ≠ .plain .idle ∧ base.stn.a.mode ≠ .plain .building
    ∧ (loading.setPlan .A ⟨[], true⟩).plan.a.closed = true
    ∧ 12 ≤ ((loading.setPlan .A ⟨List.replicate 12 (layer0 false .unswept), false⟩).plan.a.queue.length)
    ∧ (loading.setPlan .A ⟨[{ layer0 false .unswept with placements := List.replicate 128 (place0 .unswept) }], false⟩).plan.a.free
        < 1
    ∧ (refusedAt loading (layerBytes.set 8 17) = some (.outside, 1) ∧ refusedAt loading (layerBytes.set 9 11) = some (.outside, 1)
      ∧ refusedAt loading (layerBytes.set 7 64) = some (.range, 1) ∧ refusedAt loading (layerBytes.set 11 100) = some (.range, 1)
      ∧ refusedAt loading (layerBytes.set 10 2) = some (.range, 1) ∧ refusedAt loading (layerBytes.set 7 63) = some (.undefined, 1)
      ∧ turn? 2 = none ∧ loading.dir.typeAt 63 = none)
    ∧ (loading.PlacesTaken .A [] [] ∧ loading.PlacesTaken .A [place2] [taken2])
    ∧ (layerBody? (twoPlaces 2 0)).map LayerBody.places = some ([place2] ++ { place2 with i0 := 0 } :: [])
    ∧ refusedAt loading (twoPlaces 2 0) = some (.overlap, 2) ∧ refusedAt loading (twoPlaces 3 9) = some (.overlap, 2)
    ∧ refusedAt loading (twoPlaces 3 8) = none :=
  ⟨ready_base, by decide, by decide, by decide, by decide, by decide, by decide, by decide, by decide +kernel, by decide +kernel,
    by decide +kernel, ⟨taken_nil, taken_loading⟩, by decide +kernel⟩

/-- A plan whose only placement, id 1, has a state. -/
def planOf (x : PState) : Plan := ⟨[{ layer0 false .unswept with placements := [{ place0 .unswept with state := x }] }], false⟩

/-- A layer with some placement ids, all PENDING. -/
def layerOf (tag : Nat) (ids : List Nat) : Layer :=
  { layer0 false .unswept with tag := tag, placements := ids.map (fun n => { place0 .unswept with id := n }) }

/-- Placement 1 of a layer becomes VOID. -/
def voided (l : Layer) : Layer :=
  { l with placements := l.placements.map (fun p => if p.id = 1 then { p with state := .void } else p) }

theorem witness_WithdrawIdVoidsAPendingPlacement :
    base.link.Ready ∧ (([0, 1, 1, 0] : List Byte).length = 4 ∧ u8 [0, 1, 1, 0] 0 = 0 ∧ station? (u8 [0, 1, 1, 0] 1) = some .B
      ∧ base.plan.b.find? (u16 [0, 1, 1, 0] 2) = none
      ∧ ((planOf .bound).find? 1).map Placement.state = some .bound
      ∧ ((planOf .placed).find? 1).map Placement.state = some .placed
      ∧ ((planOf .void).find? 1).map Placement.state = some .void
      ∧ ((planOf .pending).find? 1).map Placement.state = some .pending
      ∧ (∀ x ∈ [layerOf 1 [3]] ++ [layerOf 1 [4, 5]], (∀ p ∈ x.placements, p.id ≠ 1) ∧ x.settle.complete = false)
      ∧ (∃ p ∈ (layerOf 2 [2, 1]).placements, p.id = 1)
      ∧ (voided (layerOf 2 [2, 1])).settle.complete = false ∧ (voided (layerOf 2 [1])).settle.complete = true
      ∧ (base.link.reports = [] ∧ (layerOf 2 [1]).report = true ∧ ({ layerOf 2 [1] with report := false } : Layer).report = false)
      ∧ puttingAway.slots[(0 : Fin 8)] = .held { rec0 with type := none } 0 false) := ⟨ready_base, by decide +kernel⟩

/-- R27 to R29 by hand: the withdrawal of the one placement of the last layer ends the queue, with LAYER_DONE. -/
theorem test_withdraw_of_the_last_placement :
    let t := after (.withdrawId 1 [0, 0, 1, 0]) (planned base (.plain .building) .unswept)
    t.stn.a.mode = .plain .idle ∧ t.plan.a.queue = []
    ∧ (t.link.reports.map Report.body).contains (.layerDone .A 1 0 1 false) = true := by decide +kernel

theorem witness_WithdrawTagRemovesTheFirstSuchLayer :
    base.link.Ready ∧ (([1, 0, 1] : List Byte).length = 3 ∧ u8 [1, 0, 1] 0 = 1 ∧ station? (u8 [1, 0, 1] 1) = some .A
      ∧ (∀ l ∈ base.plan.a.queue, l.tag ≠ u8 [1, 0, 1] 2)
      ∧ (base.setPlan .A ⟨[layerOf 2 [3]] ++ layerOf 1 [1, 2] :: [layerOf 1 [4]], false⟩).plan.a.queue =
          [layerOf 2 [3]] ++ layerOf 1 [1, 2] :: [layerOf 1 [4]]
      ∧ (∀ x ∈ [layerOf 2 [3]], x.tag ≠ u8 [1, 0, 1] 2) ∧ (layerOf 1 [1, 2]).tag = u8 [1, 0, 1] 2
      ∧ (layerOf 1 [1, 2]).sheetJob = false ∧ (∀ p ∈ (layerOf 1 [1, 2]).placements, p.state ≠ .bound)
      ∧ (∀ x ∈ [layerOf 2 [3]] ++ [layerOf 1 [4]], x.settle.complete = false) ∧ base.link.reports = []
      ∧ (planOf .bound).queue = [] ++ (planOf .bound).queue ∧ (∃ p ∈ (planOf .bound).placements, p.state = .bound)
      ∧ ({ layer0 true .unswept with sheetJob := true } : Layer).sheetJob = true) := ⟨ready_base, by decide +kernel⟩

theorem witness_ClosePlanAndAbandonPlanEndThePlan :
    (base.link.Ready ∧ placing.link.Ready)
    ∧ (([1] : List Byte).length = 1 ∧ station? (u8 [1] 0) = some .B ∧ base.stn.b.mode = .plain .noPallet
      ∧ (placing.stn.a.mode = .plain .building ∧ placing.plan.a.queue ≠ [])
      ∧ loading.stn.a.mode = .plain .idle
      ∧ ((placing.setPlan .A ⟨[], false⟩).stn.a.mode = .plain .building ∧ (placing.setPlan .A ⟨[], false⟩).plan.a.queue = []
          ∧ (placing.setPlan .A ⟨[], false⟩).boundTo .A = false))
    ∧ (station? (u8 [0] 0) = some .A ∧ placing.boundTo .A = false
      ∧ (∀ l ∈ placing.plan.a.queue, l.sheetJob = false ∧ ∀ p ∈ l.placements, p.state ≠ .bound)
      ∧ placing.plan.a.queue ≠ []
      ∧ job0.station = some .A ∧ job0.gripped = false ∧ (laden .travel).station = some .A
      ∧ (laden .travel).gripped = true ∧ (laden .travel).releaseBegun = false ∧ (laden .release).releaseBegun = true) :=
  ⟨⟨ready_base, ready_like_base rfl⟩, by decide +kernel, by decide +kernel⟩

/-- Station A of a state held for sheets. -/
def heldForSheets (s : State) : State := s.setStn .A { s.stn.a with mode := .plain (.held .sheetsOut) }

theorem witness_SetSheetsStoresTheCountAndEndsHolds :
    base.link.Ready ∧ ([61] : List Byte).length = 1 ∧ 60 < u8 [61] 0 ∧ u8 [60] 0 ≤ 60 ∧ 1 ≤ u8 [60] 0 ∧ u8 [0] 0 = 0
    ∧ (heldForSheets base).stn.a.mode = .plain (.held .sheetsOut)
    ∧ ((heldForSheets base).plan.a.queue = [] ∧ (heldForSheets base).boundTo .A = false
      ∧ (heldForSheets sheeting).plan.a.sheetDue = true ∧ (heldForSheets sheeting).outstanding .A = none
      ∧ ((heldForSheets placing).setJob (some job0)).outstanding .A ≠ none) := ⟨ready_base, by decide +kernel⟩

/-- R29 and R158 by hand: a count above 0 brings the station back, which with nothing queued goes on to IDLE. -/
theorem test_sheets_end_the_hold :
    (after (.setSheets 1 [1]) (heldForSheets base)).stn.a.mode = .plain .idle
    ∧ (after (.setSheets 1 [1]) (heldForSheets sheeting)).stn.a.mode = .plain .building
    ∧ (after (.setSheets 1 [1]) (heldForSheets sheeting)).stack.a.sweep.state = .running := by decide +kernel

theorem witness_DeparturesAreSetAndTickDown :
    base.link.Ready ∧ ([0, 255, 255] : List Byte).length = 3 ∧ station? (u8 [0, 255, 255] 0) = some .A
    ∧ base.stn.a.mode = .plain .noPallet ∧ loading.stn.a.mode = .plain .idle ∧ placing.stn.a.mode = .plain .building
    ∧ u16 [0, 0, 0] 1 = 0 ∧ u16 [0, 255, 255] 1 = 65535
    ∧ (base.setStn .A { base.stn.a with departure := .counting 2 }).stn.a.departure = .counting 2
    ∧ (base.setStn .A { base.stn.a with departure := .counting 1 }).stn.a.departure = .counting 1
    ∧ base.stn.b.departure = .unset
    ∧ (placing.plan.a.placements = [place0 admitted] ∧ placing.dir.typeAt 0 = some caseType
        ∧ (placing.dir.handling[(place0 admitted).override.getD 1]?).isSome = true) := ⟨ready_base, by decide +kernel⟩

/-! Operation -/

def withDoor (s : State) : State := s.setInputs { s.inputs with door := true }

/-- A cell and gantry state. -/
def inStates (r : CellRun) (g : GState) : State := (base.setCellRun r).setGantry { base.gantry with state := g }

theorem witness_HomeStartsTheSequenceOrRefuses :
    base.link.Ready ∧ (running.gantry.state = .idle ∧ (withDoor base).inputs.door = true ∧ running.cell.run = .run
      ∧ (inStates .off (.faulted .drop)).gantry.state = .faulted .drop
      ∧ ({ base.gripper with dropMark := true } : Gripper).dropMark = true
      ∧ (base.gantry.state = .unhomed ∧ base.cell.run = .off ∧ base.inputs.door = false
          ∧ base.inputs.homeZ = false ∧ base.inputs.limitHigh.z = false)
      ∧ (inStates (.paused .run) (.faulted .home)).gantry.state = .faulted .home
      ∧ (none : Option FaultCause) ≠ some .drop)
    ∧ ∀ st, base.inputs.curtain.get st = false := ⟨ready_base, by decide +kernel, fun st => by cases st <;> rfl⟩

theorem witness_StartAndStopChangeTheCellRunState :
    base.link.Ready ∧ running.cell.run ≠ .off ∧ (base.cell.run = .off ∧ base.gantry.geomDefined = false)
    ∧ ((running.setCellRun .off).gantry.geomDefined = true ∧ (running.setCellRun .off).gantry.state = .idle
        ∧ (running.setCellRun .off).inputs.door = false)
    ∧ (withDoor running).inputs.door = true
    ∧ (inStates (.guardStopped (.ret .run) ⟨true, false, false⟩) .idle).cell.run = .guardStopped (.ret .run) ⟨true, false, false⟩ := by
  exact ⟨ready_base, by decide +kernel⟩

/-- The job in a cell and gantry state. -/
def jobIn (r : CellRun) (g : GState) : State := (inStates r g).setJob (some job0)

/-- The same with its change of destination held for the stop. -/
def heldIn (j : Job) : State :=
  ((inStates .run .stopping).setGantry { (inStates .run .stopping).gantry with heldChange := true }).setJob (some j)

theorem witness_PauseStopsTheCellRampedOrQuick :
    base.link.Ready ∧ (2 ≤ (2 : Byte).toNat ∧ base.cell.run = .off ∧ (inStates (.paused .run) .idle).cell.run = .paused .run
      ∧ running.cell.run = .run ∧ (inStates .finishing .busy).cell.run = .finishing
      ∧ running.gantry.heldChange = false ∧ (inStates .run .stopping).lossZone? = none
      ∧ running.gantry.state ≠ .busy ∧ running.gantry.state ≠ .awaitPutaway
      ∧ ((jobIn .run .busy).cell.run = .run ∧ (jobIn .run .busy).gantry.state = .busy ∧ (jobIn .run .busy).job = some job0
        ∧ (jobIn .run .busy).gantry.heldChange = false ∧ (inStates .run .busy).job = none)
      ∧ ((heldIn (laden .setDown)).gantry.state = .stopping ∧ (heldIn (laden .setDown)).gantry.heldChange = true
        ∧ (heldIn (laden .setDown)).lossZone? = none ∧ (heldIn (laden .setDown)).cell.run = .run
        ∧ (laden .setDown).dest ≠ none)
      ∧ ((inStates .run .homing).gantry.state = .homing ∧ (inStates .run (.faulted .drop)).gantry.state = .faulted .drop)) :=
  ⟨ready_base, by decide +kernel⟩

/-- R124 by hand: the job keeps its phase, and a set-down that was taken back is a TRAVEL again (log 17). -/
theorem test_quick_stop_retains_the_job :
    (after (.pauseQuick 1 [1]) (jobIn .run .busy)).job = some job0
    ∧ (after (.pauseQuick 1 [1]) (jobIn .run .busy)).gantry.state = .stopped
    ∧ (after (.pauseQuick 1 [1]) (heldIn (laden .setDown))).job = some (laden .travel) := by decide +kernel

/-- The gantry that waits in AWAIT_PUTAWAY with Z low, at rest. -/
def waitingLow (r : CellRun) : State :=
  (homeless base).setCellRun r |>.setGantry { base.gantry with
    state := .awaitPutaway, axes := { base.gantry.axes with z := ⟨some 200, true, none⟩ } }

theorem witness_ResumeReturnsToTheRememberedState :
    base.link.Ready ∧ (base.cell.run = .off
      ∧ (inStates (.guardStopped (.paused .run) ⟨false, false, false⟩) .idle).cell.run =
          .guardStopped (.paused .run) ⟨false, false, false⟩
      ∧ (inStates (.guardStopped (.ret .run) ⟨false, false, true⟩) .idle).cell.run =
          .guardStopped (.ret .run) ⟨false, false, true⟩
      ∧ ((inStates (.paused .finishing) .idle).cell.run = .paused .finishing ∧ (inStates (.paused .finishing) .idle).job = none)
      ∧ ((jobIn (.paused .finishing) .stopped).job ≠ none ∧ (jobIn (.paused .finishing) .stopped).gantry.state = .stopped
          ∧ (jobIn (.paused .finishing) .stopped).cell.run = .paused .finishing)
      ∧ (jobIn (.guardStopped (.ret .run) ⟨false, false, false⟩) .stopped).cell.run =
          .guardStopped (.ret .run) ⟨false, false, false⟩
      ∧ ((waitingLow (.paused .run)).job ≠ none ∧ (waitingLow (.paused .run)).cell.run = .paused .run
          ∧ (waitingLow (.paused .run)).gantry.state = .awaitPutaway ∧ (waitingLow (.paused .run)).gantry.moving = false
          ∧ ((waitingLow (.paused .run)).gantry.axes.z).at < ((waitingLow (.paused .run)).travelHeight : Int)
          ∧ (waitingLow (.paused .run)).inputs.limitHigh.z = false))
    ∧ ∀ st, (jobIn (.paused .finishing) .stopped).inputs.curtain.get st = false :=
  ⟨ready_base, by decide +kernel, fun st => by cases st <;> rfl⟩

theorem witness_RecoverGripperResetAndClearSlotClearTheirMarks :
    base.link.Ready ∧ (3 ≤ (3 : Byte).toNat ∧ (2 : Byte).toNat ≤ 2 ∧ base.gripper.dropMark = false
      ∧ ({ base.gripper with dropMark := true } : Gripper).dropMark = true ∧ base.boundTo .B = false
      ∧ ({ base.gripper with state := .holding } : Gripper).state ≠ .idle ∧ base.gripper.state = .idle)
    ∧ (8 ≤ (8 : Byte).toNat ∧ (7 : Byte).toNat = (7 : Fin 8).val
      ∧ base.slots[(7 : Fin 8)] = .empty false ∧ puttingAway.slots[(0 : Fin 8)] = .held { rec0 with type := none } 0 false
      ∧ (base.setSlot 7 .blocked).slots[(7 : Fin 8)] = .blocked ∧ base.inputs.slotPresence[(7 : Fin 8)] = false)
    ∧ ∀ z, noZones.get z = (base.inputs.overcurrent.get z || base.inputs.openLoad.get z) :=
  ⟨ready_base, by decide +kernel, by decide +kernel, fun z => by cases z <;> rfl⟩

/-- Station A held by HOST with its plan, and a job that stands. -/
def heldByHost (job : Option Job) : State := (planned base (.plain (.held .host)) .unswept).setJob job

/-- A carry to station A that rises from the pick point. -/
def risingTo : State := (placing.setJob (some (laden .pickUp))).setGantry { placing.gantry with state := .busy, motion := .rise }

theorem witness_StationsAreHeldAndResumed :
    base.link.Ready ∧ risingTo.link.Ready
    ∧ (station? (0 : Byte).toNat = some .A ∧ placing.stn.a.mode = .plain .building ∧ placing.boundTo .A = false
      ∧ (base.setStn .A { base.stn.a with mode := .plain (.held .debris) }).stn.a.mode = .plain (.held .debris)
      ∧ (base.setStn .A { base.stn.a with mode := .plain (.held .sheetsOut) }).stn.a.mode = .plain (.held .sheetsOut)
      ∧ base.stn.a.mode = .plain .noPallet
      ∧ (risingTo.stn.a.mode = .plain .building ∧ risingTo.job = some (laden .pickUp) ∧ (laden .pickUp).station = some .A
          ∧ (laden .pickUp).gripped = true ∧ (laden .pickUp).releaseBegun = false ∧ (laden .pickUp).phase = .pickUp
          ∧ (laden .pickUp).carried = some (.case rec0) ∧ risingTo.gantry.state = .busy
          ∧ risingTo.inputs.limitHigh.z = false)
      ∧ ((heldByHost none).stn.a.mode = .plain (.held .host) ∧ (heldByHost none).outstanding .A = none
          ∧ (heldByHost none).plan.a.candidates = [.placement 1])
      ∧ (heldByHost (some job0)).outstanding .A ≠ none) := ⟨ready_base, ready_like_base rfl, by decide +kernel⟩

/-- L1 in RUN with one record at an EMPTY pick point. -/
def recorded : State := base.setLane .L1 { base.lanes.l1 with fifo := [rec0] }

theorem witness_PurgeLaneMarksTheRecords :
    base.link.Ready ∧ lane? (0 : Byte).toNat = none ∧ lane? (3 : Byte).toNat = none ∧ lane? (2 : Byte).toNat = some .L2
    ∧ (base.setLane .L2 { base.lanes.l2 with purging := true }).lanes.l2.purging = true
    ∧ (recorded.lanes.l1.purging = false ∧ recorded.lanes.l1.pick ≠ .front ∧ recorded.lanes.l1.fifo ≠ [])
    ∧ ((fronted base).lanes.l1.pick = .front ∧ (fronted base).laneBound .L1 = false
        ∧ (fronted base).lanes.l1.fifo = rec0 :: [])
    ∧ (base.lanes.l1.purging = false ∧ base.lanes.l1.pick = .empty ∧ base.lanes.l1.fifo = [] ∧ base.inputs.laneEmpty.get .L1 = true)
    ∧ ((fronted (jobIn .run .busy)).lanes.l1.pick = .front ∧ (fronted (jobIn .run .busy)).laneBound .L1 = true
        ∧ (fronted (jobIn .run .busy)).lanes.l1.purging = false ∧ (fronted (jobIn .run .busy)).lanes.l1.fifo = rec0 :: []
        ∧ (fronted (jobIn .run .busy)).link.reports = [] ∧ (fronted (jobIn .run .busy)).job = some job0
        ∧ job0.kind ≠ .sheet ∧ job0.abandoned = false) :=
  ⟨ready_base, by decide +kernel⟩

/-! Infeed -/

theorem witness_ArrivalChecksGiveTheDisposition :
    crc8 ((trayFrame.drop 1).take 16) = u8 trayFrame 17 ∧ crc8 (((trayFrame.set 17 0).drop 1).take 16) ≠ u8 (trayFrame.set 17 0) 17
    ∧ u8 trayFrame 1 = 0 ∧ u8 (trayFrame.set 1 1) 1 = 1 ∧ 2 ≤ u8 (trayFrame.set 1 2) 1
    ∧ (withArticle.arrivalRec .L1 trayFrame).type.bind withArticle.dir.typeAt = some caseType
    ∧ (base.arrivalRec .L1 trayFrame).type.bind base.dir.typeAt = none
    ∧ crc8 (((trayFrame.set 1 2 |>.set 17 (byte (crc8 (2 :: trayFields.drop 1)))).drop 1).take 16) =
        u8 (trayFrame.set 1 2 |>.set 17 (byte (crc8 (2 :: trayFields.drop 1)))) 17
    ∧ crc8 (((trayFrame.set 1 1 |>.set 17 (byte (crc8 (1 :: trayFields.drop 1)))).drop 1).take 16) =
        u8 (trayFrame.set 1 1 |>.set 17 (byte (crc8 (1 :: trayFields.drop 1)))) 17
    ∧ crc8 (((trayFrame.set 2 0xA4 |>.set 17 (byte (crc8 (0 :: 0xA4 :: trayFields.drop 2)))).drop 1).take 16) =
        u8 (trayFrame.set 2 0xA4 |>.set 17 (byte (crc8 (0 :: 0xA4 :: trayFields.drop 2)))) 17
    ∧ packed? (trayFrame.set 2 0xA4 |>.set 17 (byte (crc8 (0 :: 0xA4 :: trayFields.drop 2)))) 2 7 = none := by decide +kernel

/-- L1 with a full FIFO. -/
def fullLane (purge : Bool) : Lane := { Lane.initial with purging := purge, fifo := List.replicate 8 rec0 }

/-- A full FIFO with its head at the pick point. -/
def fullFront (s : State) : State := s.setLane .L1 { fullLane false with pick := .front }

/-- R68 by hand, on the case type of 400 × 300 × 120 mm with Wn 100, wtol 10 and dtol 15: length, weight and turn at their
bounds. -/
theorem test_arrival_reasons :
    checkCase ⟨415, 300, 120, 110⟩ caseType = (.accepted, some .t0) ∧ checkCase ⟨416, 300, 120, 110⟩ caseType = (.runOff .size, none)
    ∧ checkCase ⟨300, 400, 120, 90⟩ caseType = (.accepted, some .t90)
    ∧ checkCase ⟨400, 300, 120, 111⟩ caseType = (.runOff .overweight, some .t0)
    ∧ checkCase ⟨400, 300, 120, 89⟩ caseType = (.runOff .underweight, some .t0) := by decide

theorem witness_ArrivalsAreStoredOrOverrun :
    base.lanes.l1.rx = .hunting ∧ trayFrame.length = 18 ∧ trayFrame.head? = some 0x3C ∧ base.lanes.l1.fifo.length < 8
    ∧ (List.replicate 7 rec0).length < 8
    ∧ (8 ≤ (fullLane true).fifo.length ∧ (fullLane true).purging = true ∧ (fullLane true).rx = .hunting)
    ∧ (8 ≤ (fullLane false).fifo.length ∧ (fullLane false).purging = false ∧ (fullLane false).pick ≠ .front)
    ∧ ((fullFront base).lanes.l1.pick = .front ∧ (fullFront base).lanes.l1.rx = .hunting
        ∧ (fullFront base).lanes.l1.fifo = rec0 :: List.replicate 7 rec0 ∧ (fullFront base).laneBound .L1 = false
        ∧ (fullFront (base.setJob (some job0))).laneBound .L1 = true
        ∧ (fullFront (base.setJob (some job0))).link.reports = [] ∧ job0.kind ≠ .sheet ∧ job0.abandoned = false)
    ∧ (trayFrame.take 17).length < 18 ∧ (trayFrame.take 17).head? = some 0x3C := by decide +kernel

/-- L1 with a case present and a pick point. -/
def picked (n : Lane) : State := (base.setCasePresent .L1 true).setLane .L1 n

theorem witness_CasesArriveAtAndLeaveThePickPoint :
    ((base.setCasePresent .L1 true).inputs.casePresent.get .L1 = true
      ∧ base.inputs.casePresent.get .L1 = false ∧ (stood (.casePresent .L1) base).inputs.missing (.casePresent .L1) = 0
      ∧ (fronted base).lanes.l1.pick ≠ .empty ∧ (base.lanes.l1.pick = .empty ∧ base.lanes.l1.fifo = [])
      ∧ (recorded.lanes.l1.fifo = rec0 :: [] ∧ rec0.disp = .accepted ∧ rec0.purge = false)
      ∧ (({ rec0 with purge := true } : ArrivalRec).disp = .accepted ∧ ({ rec0 with purge := true } : ArrivalRec).purge = true)
      ∧ ({ rec0 with disp := .runOff .size } : ArrivalRec).disp = .runOff .size)
    ∧ (picked Lane.initial).inputs.casePresent.get .L1 = true ∧ (stood (.casePresent .L1) (picked Lane.initial)).inputs.missing (.casePresent .L1) = 0
    ∧ (picked Lane.initial).lanes.l1.pick = .empty ∧ (picked { Lane.initial with pick := .picking }).lanes.l1.pick = .picking
    ∧ (picked { Lane.initial with pick := .releasing false .untracked }).lanes.l1.pick = .releasing false .untracked
    ∧ ((picked { Lane.initial with pick := .releasing false .purge, purging := true }).lanes.l1.pick = .releasing false .purge
        ∧ (picked { Lane.initial with pick := .releasing false .purge, purging := true }).lanes.l1.fifo = []
        ∧ (picked Lane.initial).inputs.laneEmpty.get .L1 = true ∧ (fullLane true).purging = true ∧ (fullLane true).fifo ≠ [])
    ∧ ((picked { Lane.initial with pick := .releasing true .size, fifo := [rec0] }).lanes.l1.fifo = rec0 :: []
        ∧ Lane.initial.purging = false)
    ∧ ((picked { fullLane true with pick := .releasing true .purge, fifo := [rec0] }).lanes.l1.purging = true
        ∧ (picked { fullLane true with pick := .releasing true .purge, fifo := [rec0] }).inputs.laneEmpty.get .L1 = true)
    ∧ ((picked { Lane.initial with pick := .front, fifo := [rec0] }).laneBound .L1 = false)
    ∧ (((picked { Lane.initial with pick := .front, fifo := [rec0] }).setJob (some job0)).laneBound .L1 = true
        ∧ (picked Lane.initial).link.reports = [] ∧ job0.kind ≠ .sheet ∧ job0.abandoned = false) := by
  decide +kernel

/-- A front case on L1 that has waited. -/
def waited (ms : Nat) : State := (fronted running).setLane .L1 { (fronted running).lanes.l1 with wait := ms }

theorem witness_LanesEndPurgesAndWaits :
    base.inputs.laneEmpty.get .L1 = true
    ∧ (base.inputs.laneEmpty.get .L1 ≠ false ∧ (stood (.laneEmpty .L1) base).inputs.missing (.laneEmpty .L1) = 0)
    ∧ (base.setInputs { base.inputs with laneEmpty := ⟨false, true⟩ }).inputs.laneEmpty.get .L1 ≠ true
    ∧ ((Lane.atReset false).purging = true ∧ (Lane.atReset false).fifo = [] ∧ (Lane.atReset false).pick = .empty)
    ∧ base.waitCounts .L1 = false
    ∧ ((waited 0).waitCounts .L1 = true ∧ (waited 1).gantry.waitLimit = 20 ∧ (waited 19999).lanes.l1.wait < 1000 * 20)
    ∧ ((waited 20000).waitCounts .L1 = true ∧ 1000 * (waited 20000).gantry.waitLimit ≤ (waited 20000).lanes.l1.wait
        ∧ (waited 20000).lanes.l1.fifo = rec0 :: [])
    ∧ (waited 20000).wantedRec rec0 = false ∧ putting.wantedRec rec0 = true := by decide +kernel

theorem witness_ShelfAndSpillInputsChangeTheirStores :
    (stood (.slot 7) base).inputs.missing (.slot 7) = 0 ∧ (stood .spillCleared base).inputs.missing .spillCleared = 0
    ∧ base.inputs.changing .spillCleared = none
    ∧ base.inputs.slotPresence[(0 : Fin 8)] = false ∧ base.inputs.slotPresence[(7 : Fin 8)] ≠ true
    ∧ (base.setSlot 7 .blocked).slots[(7 : Fin 8)] = .blocked ∧ base.job = none ∧ base.slots[(7 : Fin 8)] = .empty false
    ∧ puttingAway.slotBound 0 = false ∧ puttingAway.slots[(0 : Fin 8)] = .held { rec0 with type := none } 0 false
    ∧ ((base.setInputs { base.inputs with slotPresence := base.inputs.slotPresence.set 0 true }).inputs.slotPresence[(0 : Fin 8)] ≠ false)
    ∧ ((base.setJob (some { job0 with dest := some (.slot 0), phase := .setDown })).settingDownOn 0 = true)
    ∧ ((base.setJob (some { job0 with dest := some (.slot 0) })).settingDownOn 0 = false ∧ job0.gripped = false)
    ∧ ((laden .pickUp).gripped = true ∧ (laden .pickUp).carried = some (.case rec0) ∧ risingTo.gantry.state = .busy
        ∧ risingTo.inputs.limitHigh.z = false)
    ∧ (puttingAway.setJob (some { job0 with source := .slot 0 })).slotBound 0 = true
    ∧ base.inputs.spillCleared = false ∧ (after (.spillTableCleared true) (stood .spillCleared base)).inputs.spillCleared = true := by decide +kernel

/-! Sweeps and walks -/

/-- Station A with a running sweep. -/
def sweeping (cs : List Cand) : State := (planned base (.plain .building) .unswept).setSweep .A ⟨.running, cs⟩

/-- The same, with a gross limit that no case meets. -/
def sweepingLight : State :=
  (sweeping [.placement 1]).setStack .A { (sweeping [.placement 1]).stack.a with limits := ⟨1800, 1, 10, .full⟩ }

theorem witness_WalkEndCachesTheVerdictAndGoesOn :
    base.stack.a.sweep.state ≠ .running
    ∧ (sweeping [.placement 1]).stack.a.sweep = ⟨.running, .placement 1 :: []⟩
    ∧ (sweeping [.placement 1, .placement 2]).stack.a.sweep = ⟨.running, .placement 1 :: [.placement 2]⟩
    ∧ ((sweeping [.placement 1]).walkOf .A (.placement 1)).map Verdict.admits = some true
    ∧ (after (.walkEnd .A) (sweeping [.placement 1])).stalled .A = false
    ∧ (sweepingLight.stall.get .A = false ∧ (after (.walkEnd .A) sweepingLight).stalled .A = true
        ∧ (after (.walkEnd .A) sweepingLight).firstRefusing .A = some (.placement 1, .gross)) := by decide +kernel

/-- A stack whose table holds a number of entries. -/
def stackOf (n : Nat) : Stack :=
  { Stack.bare Limits.initial with table := List.replicate n ⟨.sheet, 0, 0, 24, 16, 0, 2, 3, 4000, 4000, 384, [(.deck, 384)]⟩ }

theorem witness_WalkStagesFailInOrder :
    160 ≤ (stackOf 160).table.length ∧ (stackOf 159).table.length < 160
    ∧ ((Stack.bare Limits.initial).walk ⟨0, 0, 8, 6, 110, 1801, 75⟩ 0 = .height)
    ∧ ((Stack.bare Limits.initial).walk ⟨0, 0, 8, 6, 110, 1800, 75⟩ 0).admits = true
    ∧ ((Stack.bare Limits.initial).walk ⟨0, 0, 8, 6, 8001, 120, 75⟩ 0 = .gross)
    ∧ ((Stack.bare Limits.initial).walk ⟨0, 0, 8, 6, 8000, 120, 75⟩ 0).admits = true
    ∧ ((Stack.bare Limits.initial).walk ⟨0, 0, 8, 6, 110, 120, 101⟩ 0 = .overhang) := by decide +kernel

/-- A sheet on the deck, and on it a case of 8 by 6 cells with an allowance. -/
def twoHigh (allow : Nat) : Stack :=
  let k := (Stack.bare Limits.initial).commit ⟨[], 0, 384, [(.deck, 384)], 3⟩ (sheetEntry .full ⟨[], 0, 384, [(.deck, 384)], 3⟩)
  let r : WalkResult := ⟨[], 2, 48, [(.entry 0, 48)], 110⟩
  k.commit r { caseEntry (place0 .unswept) caseType r 90 with allow := allow }

/-- By hand (R49): 48 cells bear 110 wu at 3 each, 144 in all, which the case hands on to the sheet whole. -/
def twoLoads : Nat → Nat := fun i => if i < 2 then 144 else 0

/-- The bearing cells of a footprint that stands on one entry, and their support list (R48). -/
theorem supports_of_one (n i : Nat) (h : 0 < n) : SupportsFor (List.replicate n ⟨122, .entry i⟩) [(.entry i, n)] := by
  refine ⟨fun r m => ?_, List.pairwise_singleton _ _⟩
  rw [List.countP_replicate, List.mem_singleton, Prod.mk.injEq]
  by_cases hr : r = .entry i
  · subst hr
    simp
    omega
  · simp [hr, Ne.symm hr]

/-- A footprint on one entry of two: its cells, its bearing cells, and a stack whose map refers to the table. -/
theorem witness_WalkStagesFailInOrder_supports :
    (twoHigh 144).table.length < 160 ∧ (twoHigh 144).cellsOf 0 0 8 6 = List.replicate 48 ⟨122, .entry 1⟩
    ∧ ((twoHigh 144).cellsOf 0 0 8 6).filter (fun x => decide (122 ≤ x.h + (twoHigh 144).limits.tol))
        = List.replicate 48 ⟨122, .entry 1⟩
    ∧ ((List.replicate 48 (⟨122, .entry 1⟩ : Cell)).map Cell.h).foldl max 0 = 122 ∧ ¬122 ≤ (twoHigh 144).limits.tol
    ∧ SupportsFor (List.replicate 48 ⟨122, .entry 1⟩) [(.entry 1, 48)]
    ∧ (∀ x ∈ List.replicate 48 (⟨122, .entry 1⟩ : Cell), ∀ i, x.ref = .entry i → i < (twoHigh 144).table.length) := by
  refine ⟨by decide +kernel, by decide +kernel, by decide +kernel, by decide +kernel, by decide +kernel, supports_of_one 48 1 (by decide), ?_⟩
  intro x hx i hi
  obtain rfl := List.eq_of_mem_replicate hx
  cases hi
  decide +kernel

theorem witness_WalkDownSumsTheLoadsAndNamesTheFirstFailure :
    (twoHigh 144).Loads ((twoHigh 144).cellsOf 0 0 8 6) (ceilDiv 110 48) twoLoads
    ∧ ((twoHigh 144).table.map Entry.base = [0, 2] ∧ (twoHigh 144).table.map Entry.allow = [4000, 144]
      ∧ (twoHigh 144).table.map Entry.supports = [[(.deck, 384)], [(.entry 0, 48)]]
      ∧ (twoHigh 144).cellsOf 0 0 8 6 = List.replicate 48 ⟨122, .entry 1⟩
      ∧ supportsOf 2 (List.replicate 48 ⟨122, .entry 1⟩) = [(.entry 1, 48)]
      ∧ (twoHigh 144).limits = ⟨1800, 8000, 10, .full⟩)
    ∧ (twoHigh 144).walk ⟨0, 0, 8, 6, 110, 120, 75⟩ 0 = .admitted ⟨[(1, 144), (0, 144)], 122, 48, [(.entry 1, 48)], 110⟩
    ∧ (twoHigh 143).walk ⟨0, 0, 8, 6, 110, 120, 75⟩ 0 = .crush 1 1 := by
  refine ⟨?_, by decide +kernel⟩
  unfold Stack.Loads
  decide +kernel

theorem witness_AdmittedCommitStaysWithinLimits :
    (Stack.bare Limits.initial).walk ⟨0, 0, 8, 6, 110, 120, 75⟩ 0 = .admitted ⟨[], 0, 48, [(.deck, 48)], 110⟩
    ∧ (caseEntry (place0 .unswept) caseType ⟨[], 0, 48, [(.deck, 48)], 110⟩ 0).weight = min (max 0 1) 110
    ∧ (caseEntry (place0 .unswept) caseType ⟨[], 0, 48, [(.deck, 48)], 110⟩ 0).top = 0 + 120
    ∧ (∀ x ∈ (Stack.bare Limits.initial).map, x.h ≤ Limits.initial.hMax)
    ∧ (Stack.bare Limits.initial).map[0]? = some ⟨0, .deck⟩ ∧ (Stack.bare Limits.initial).map[8]? = some ⟨0, .deck⟩ := by
  decide +kernel

/-- The case of that commit covers cell 0 of the map and not cell 8. -/
theorem witness_AdmittedCommitStaysWithinLimits_cells :
    (caseEntry (place0 .unswept) caseType ⟨[], 0, 48, [(.deck, 48)], 110⟩ 0).Covers .full 0
    ∧ ¬(caseEntry (place0 .unswept) caseType ⟨[], 0, 48, [(.deck, 48)], 110⟩ 0).Covers .full 8 := by
  unfold Entry.Covers
  decide +kernel

/-! Gantry -/

/-- The four zones read a value. -/
def reads (s : State) (v : Nat) : State := s.setInputs { s.inputs with reading := ⟨v, v, v, v⟩ }

def moveX (n : Int) : Move := newMove false .X .fallback 0 n

/-- X and Y move, the state of the gantry as given. -/
def moving (g : GState) : State :=
  inStates .off g |>.setGantry { base.gantry with
    state := g, axes := ⟨⟨some 0, true, some (moveX 10)⟩, ⟨some 0, true, some (moveX 5)⟩, ⟨some 3200, true, none⟩⟩ }

/-- The last descent of PICK_DOWN. -/
def pickingDown : State :=
  (fronted (placing.setJob (some { job0 with phase := .pickDown }))).setGantry { placing.gantry with
    state := .busy, motion := .descent
    axes := ⟨⟨some 0, true, none⟩, ⟨some 0, true, none⟩, ⟨some 3200, true, some (newMove false .Z .fallback 3200 820)⟩⟩ }

/-- An axis at a place, homed and at rest. -/
def restAt (n : Int) : LinState := ⟨some n, true, none⟩

/-- A job in a phase with one axis left moving, to the place 700, in a motion. -/
def lastLeg (j : Job) (a : LinAxis) (m : Motion) (g : GripState) : State :=
  let axes : PerAxis LinState := ⟨restAt 0, restAt 0, restAt 3000⟩
  ((placing.setJob (some j)).setGripper { placing.gripper with state := g, used := ⟨true, false, false, false⟩ }).setGantry
    { placing.gantry with
      state := .busy, motion := m, t := ⟨some .t0, true, none⟩
      axes := axes.set a ⟨some 100, true, some (newMove false a .fallback 100 700)⟩ }

/-- The gantry once that axis stands. -/
def legOver (s : State) (a : LinAxis) : Gantry := { s.gantry with axes := s.gantry.axes.set a (restAt 700) }

/-- The legs whose ends begin the phases: to the source, to the destination, up with the item, down with it, and clear. -/
def toSource : State := lastLeg job0 .X .travel .idle
def toDest : State := lastLeg (laden .travel) .X .travel .holding
def upWithItem : State := lastLeg (laden .pickUp) .Z .rise .holding
def downWithItem : State := lastLeg (laden .setDown) .Z .descent .holding
def upToSource : State := lastLeg job0 .Z .rise .idle
def upClear : State := lastLeg { laden .clear with released := true, carried := none } .Z .rise .idle

theorem quiet_limits (b : LinAxis) (side : AxisEnd) : base.inputs.limit b side = false := by cases b <;> cases side <;> rfl

/-- R113 and R115 by hand: 20 to 250 mm/s over 100 mm, so 600 mm run at the top and 100 mm reach the speed at 50 mm. -/
theorem witness_MovesArePlannedFromDistanceAndProfile :
    (20 < 250 ∧ 250 = min 250 (min 1500 1500) ∧ 600 = distance 100 700
      ∧ (250 * 250 - 20 * 20) * 100 ≤ 100 * (250 * 250 - 20 * 20)
      ∧ 100 * (250 * 250 - 20 * 20) < (250 * 250 - 20 * 20) * 100 + (250 * 250 - 20 * 20) ∧ 2 * 100 ≤ 600)
    ∧ (100 = distance 600 700 ∧ 100 < 2 * 100 ∧ min 400 250 < 300)
    ∧ ([(100, 5), (240, 7), (251, 100)].Pairwise (fun p q : Nat × Nat => p.1 < q.1)
      ∧ [(100, 5), (240, 7), (251, 100)].getLast? = some (251, 100)
      ∧ ([(100, 5), (240, 7)] : List (Nat × Nat)) = [(100, 5)] ++ (240, 7) :: [] ∧ 20 = distance 680 700
      ∧ 20 < 2 * 12 ∧ 2 * 5 < 20 ∧ 20 ≤ 2 * (5 + 7))
    ∧ distance 650 700 = distance 600 700 - min 50 (distance 600 700)
    ∧ (base.gantry.axes.x.at = 0 ∧ base.gantry.axes.x.at ≠ 700) := by decide +kernel

/-- The peaks of that LINEAR move, uncapped, short and capped, and of a TABLE move that the cap cuts. -/
theorem test_peaks_of_moves :
    [(newMove false .X .fallback 100 700).plan.peak, (newMove false .X .fallback 600 700).plan.peak,
      (newMove true .X (.linear 300 400 50) 0 700).plan.peak,
      (newMove true .X (.table [(100, 5), (240, 7), (251, 100)]) 0 700).plan.peak] = [250, 177, 250, 250] := by decide +kernel

theorem witness_MoveEndPutsTheAxisAtItsTarget :
    (base.gantry.axes.x.move = none ∧ base.gantry.t.move = none)
    ∧ (moving .busy).gantry.axes.x.move = some (moveX 10)
    ∧ ({ (moving .busy).gantry with axes := (moving .busy).gantry.axes.set .X (restAt 10) } : Gantry).moving = true
    ∧ (pickingDown.gantry.axes.z.move = some (newMove false .Z .fallback 3200 820)
        ∧ ({ pickingDown.gantry with axes := pickingDown.gantry.axes.set .Z (restAt 820) } : Gantry).moving = false
        ∧ pickingDown.gantry.motion = .descent ∧ pickingDown.job = some { job0 with phase := .pickDown }
        ∧ pickingDown.gripper.state = .idle
        ∧ (pickingDown.gripNeeds (pickingDown.sourceCase { job0 with phase := .pickDown })).2 ≤
            zoneCount (pickingDown.gripper.usable (pickingDown.gripNeeds (pickingDown.sourceCase { job0 with phase := .pickDown })).1))
    ∧ (toSource.gantry.axes.x.move = some (newMove false .X .fallback 100 700) ∧ (legOver toSource .X).moving = false
        ∧ toSource.job = some job0 ∧ job0.phase = .approach ∧ (legOver toSource .X).motion = .travel
        ∧ (legOver toSource .X).axes.z.at ≠ toSource.sourceZ job0 ∧ toSource.inputs = base.inputs)
    ∧ ((legOver toDest .X).moving = false ∧ toDest.job = some (laden .travel) ∧ (legOver toDest .X).motion = .travel
        ∧ (laden .travel).dest = some (.placement .A 1)
        ∧ (legOver toDest .X).axes.z.at ≠ toDest.destZ (laden .travel) (.placement .A 1))
    ∧ ((legOver upWithItem .Z).moving = false ∧ upWithItem.job = some (laden .pickUp) ∧ (legOver upWithItem .Z).motion = .rise
        ∧ (legOver upWithItem .Z).axes.x.at ≠ (upWithItem.destXY (laden .travel) (.placement .A 1)).1)
    ∧ ((legOver upToSource .Z).moving = false ∧ (legOver upToSource .Z).motion = .rise ∧ upToSource.job = some job0
        ∧ (legOver upToSource .Z).axes.x.at ≠ (upToSource.sourceXY job0).1
        ∧ (laden .travel).phase = .travel ∧ upWithItem.gantry.state = .busy)
    ∧ ((legOver downWithItem .Z).moving = false ∧ (legOver downWithItem .Z).motion = .descent
        ∧ downWithItem.job = some (laden .setDown) ∧ downWithItem.gripper.state = .holding)
    ∧ ((legOver upClear .Z).moving = false ∧ (legOver upClear .Z).motion = .rise
        ∧ upClear.job.map Job.phase = some .clear ∧ upClear.job.bind Job.station = some .A
        ∧ upClear.job.map Job.gripFailed = some false)
    ∧ (rec0.meas = some ⟨400, 300, 120, 100⟩ ∧ job0.gripped = false ∧ job0.carried = none ∧ job0.source = .lane .L1
        ∧ placing.lanes.l1.fifo = rec0 :: [] ∧ (laden .travel).carried = some (.case rec0)
        ∧ placing.plan.a.find? 1 = some (place0 admitted)
        ∧ (laden .travel).reservation = some ⟨[], 0, 48, [(.deck, 48)], 110⟩
        ∧ (puttingAway.slots[(0 : Fin 8)]).record = some { rec0 with type := none }
        ∧ ({ laden .travel with spillK := some 5 } : Job).spillK = some 5)
    ∧ (({ base.gantry with t := ⟨some .t0, true, some .t90⟩ } : Gantry).t.move = some .t90
        ∧ base.inputs.homeT = decide (Turn.t90 = .t0) ∧ base.inputs.homeT ≠ decide (Turn.t0 = .t0)
        ∧ ({ (moving .busy).gantry with t := ⟨some .t90, true, none⟩ } : Gantry).moving = true)
    := ⟨by decide +kernel, by decide +kernel, by decide +kernel, by decide +kernel, by decide +kernel, by decide +kernel, by decide +kernel,
      by decide +kernel⟩

/-- The last axis of a ramp to rest, Z or X, with what it is for, in a gantry and cell state. -/
def resting (j : Option Job) (a : LinAxis) (w : RestFor) (g : GState) (r : CellRun) : State :=
  let s := lastLeg (laden .travel) a (.toRest w) .holding
  ((s.setGantry { s.gantry with state := g }).setJob j).setCellRun r

theorem witness_RampsToRestEndAsTheirCauseSays :
    ((resting none .X .cancel .busy .run).gantry.axes.x.move = some (newMove false .X .fallback 100 700)
      ∧ (legOver (resting none .X .cancel .busy .run) .X).moving = false
      ∧ (legOver (resting none .X .cancel .busy .run) .X).motion = .toRest .cancel)
    ∧ ((resting none .X (.stop false) .stopping (.paused .run)).job = none
      ∧ (resting none .X (.stop false) .stopping (.paused .run)).gantry.state = .stopping)
    ∧ ((resting (some (laden .travel)) .X (.stop true) .stopping (.paused .run)).cell.run.going = false
      ∧ (legOver (resting (some (laden .travel)) .X (.stop true) .stopping (.paused .run)) .X).motion = .toRest (.stop true)
      ∧ (laden .travel).phase = .travel ∧ (laden .clear).phase = .clear
      ∧ (resting (some (laden .travel)) .X (.stop true) .stopping (.paused .run)).gantry.heldChange = false
      ∧ (reads (resting (some (laden .travel)) .X (.stop true) .stopping (.paused .run)) 65).lossZone? = none)
    ∧ ((resting (some (laden .travel)) .Z .replan .busy .run).gantry.state = .busy
      ∧ (legOver (resting (some (laden .travel)) .Z .replan .busy .run) .Z).motion = .toRest .replan
      ∧ (legOver (resting (some (laden .travel)) .Z .replan .busy .run) .Z).axes.z.at <
          ((resting (some (laden .travel)) .Z .replan .busy .run).travelHeight : Int)
      ∧ ((resting (some (laden .travel)) .X .replan .busy .run).travelHeight : Int) ≤
          (legOver (resting (some (laden .travel)) .X .replan .busy .run) .X).axes.z.at
      ∧ (legOver (resting (some (laden .travel)) .X .replan .busy .run) .X).axes.x.at ≠
          ((resting (some (laden .travel)) .X .replan .busy .run).destXY (laden .travel) (.placement .A 1)).1
      ∧ (laden .travel).dest = some (.placement .A 1)
      ∧ (resting (some (laden .travel)) .X .replan .busy .run).inputs = base.inputs
      ∧ (resting (some (laden .travel)) .X (.stop false) .stopping .run).cell.run.going = true)
    ∧ ((homeless base).job.isSome = true
      ∧ (resting (homeless base).job .Z .await .awaitPutaway (.paused .run)).cell.run.going = false
      ∧ (resting (homeless base).job .Z .await .awaitPutaway .run).cell.run.going = true
      ∧ (legOver (resting (homeless base).job .Z .await .awaitPutaway .run) .Z).motion = .toRest .await
      ∧ ((homeless base).job.map Job.dest = some none
        ∧ (legOver (resting (homeless base).job .Z (.stop false) .awaitPutaway .run) .Z).motion = .toRest (.stop false)
        ∧ (reads (resting (homeless base).job .Z (.stop false) .awaitPutaway .run) 65).lossZone? = none
        ∧ (resting (homeless base).job .Z (.stop false) .awaitPutaway .run).gantry.state = .awaitPutaway))
    ∧ (({ base.gantry with t := ⟨some .t0, true, some .t90⟩ } : Gantry).t.move = some .t90
      ∧ base.inputs.homeT = decide (Turn.t90 = .t0)) := by decide +kernel

/-! Ramps, returns and changes of a destination -/

/-- A job with the X axis as given, Z at rest at a height, in a gantry state and a motion; the cell runs. -/
def legAt (j : Option Job) (m : Motion) (g : GState) (x : LinState) (z : Int) : State :=
  let s := (placing.setJob j).setGripper { placing.gripper with state := .holding, used := ⟨false, false, false, false⟩ }
  s.setGantry { placing.gantry with
    state := g, motion := m, t := ⟨some .t0, true, none⟩, axes := ⟨x, restAt 0, restAt z⟩ }

/-- X on its way from 100 to 700: at its start speed, in its middle, and in its final ramp-down. -/
def xAt (n : Int) : LinState := ⟨some n, true, some (newMove false .X .fallback 100 700)⟩

theorem stop_ends_phase : (legAt (some (laden .travel)) .travel .busy (xAt 690) 3000).StopEndsPhase := by
  refine ⟨.inr (.inl rfl), fun a m h => ?_⟩
  cases a
  · obtain rfl := Option.some.inj h; decide +kernel
  · cases h
  · cases h

theorem stop_goes_on : ¬(legAt (some (laden .travel)) .travel .busy (xAt 400) 3000).StopEndsPhase :=
  fun h => absurd (h.2 .X _ rfl) (by decide +kernel)

theorem clear_base : base.inputs.Clear := ⟨fun a side => by cases a <;> cases side <;> rfl, fun st => by cases st <;> rfl⟩

theorem witness_PauseStopsTheCellRampedOrQuick_ramps :
    ((legAt (some (laden .travel)) .travel .busy (xAt 690) 3000).StopEndsPhase
      ∧ ¬(legAt (some (laden .travel)) .travel .busy (xAt 400) 3000).StopEndsPhase)
    ∧ (((legAt (some (laden .travel)) .travel .busy (xAt 690) 3000).gantry.ramping (.stop true)).moving = true
      ∧ ((legAt (some (laden .travel)) .travel .busy (xAt 400) 3000).gantry.ramping (.stop false)).moving = true
      ∧ ((legAt (some (laden .travel)) .travel .busy (xAt 100) 3000).gantry.ramping (.stop false)).moving = false
      ∧ ((legAt none .none .busy (restAt 0) 3000).gantry.ramping (.stop false)).moving = false
      ∧ (legAt none .none .busy (restAt 0) 3000).gantry.heldChange = false
      ∧ ((legAt (some (laden .clear)) .rise .busy (restAt 0) 3000).gantry.ramping (.stop true)).moving = false
      ∧ (laden .clear).phase = .clear ∧ (legAt (some (laden .clear)) .rise .busy (restAt 0) 3000).gantry.motion = .rise)
    ∧ ((legAt (homeless base).job .none .awaitPutaway (restAt 0) 3000).gantry.state = .awaitPutaway
      ∧ ((legAt (homeless base).job .none .awaitPutaway (restAt 0) 3000).gantry.ramping (.stop false)).moving = false
      ∧ ((legAt (homeless base).job .rise .awaitPutaway (xAt 400) 3000).gantry.ramping (.stop false)).moving = true)
    ∧ (legAt none .none .busy (restAt 0) 3000).cell.run = .run :=
  ⟨⟨stop_ends_phase, stop_goes_on⟩, by decide +kernel, by decide +kernel, by decide +kernel⟩

/-- R125 by hand: X in its final ramp-down ends at its target, X in the middle of its move 100 mm on, and X at its start speed
is at rest at once. -/
theorem test_pause_ramps_to_rest :
    (after (.pauseRamped 1 [0]) (legAt (some (laden .travel)) .travel .busy (xAt 690) 3000)).gantry.motion = .toRest (.stop true)
    ∧ ((after (.pauseRamped 1 [0]) (legAt (some (laden .travel)) .travel .busy (xAt 400) 3000)).gantry.axes.x.move.map Move.goal)
        = some 500
    ∧ (after (.pauseRamped 1 [0]) (legAt (some (laden .travel)) .travel .busy (xAt 100) 3000)).gantry.state = .stopped := by
  decide +kernel

/-- The job stands STOPPED in a phase, the cell paused, with Z at a height and the gripper in a state. -/
def stoppedIn (j : Job) (z : Int) (g : GripState) : State :=
  let s := (legAt (some j) .none .stopped (restAt 0) z).setCellRun (.paused .run)
  s.setGripper { s.gripper with state := g }

/-- The phases of R126 from which a retained job goes on, before its grip and after it. -/
def unladenRows : List Job :=
  [job0, { job0 with phase := .pickDown }, { job0 with phase := .grip }, { job0 with phase := .grip, gripFailed := true }]
def ladenRows : List Job :=
  [laden .grip, laden .pickUp, laden .travel, laden .setDown, laden .release,
    { laden .release with released := true, carried := none }, { laden .clear with released := true, carried := none }]

theorem witness_ResumeReturnsToTheRememberedState_rows :
    (∀ z ∈ [(200 : Int), 3000], ∀ j ∈ unladenRows ++ ladenRows,
      (stoppedIn j z .idle).job = some j ∧ j.dest = some (.placement .A 1) ∧ (stoppedIn j z .idle).gantry.state = .stopped
      ∧ (stoppedIn j z .idle).cell.run = .paused .run ∧ (stoppedIn j z .idle).lossZone? = none
      ∧ (stoppedIn j z .idle).inputs = base.inputs)
    ∧ base.inputs.Clear
    ∧ ((stoppedIn job0 200 .idle).gantry.axes.z.at < ((stoppedIn job0 200 .idle).travelHeight : Int)
      ∧ ((stoppedIn job0 3000 .idle).travelHeight : Int) ≤ (stoppedIn job0 3000 .idle).gantry.axes.z.at)
    ∧ (stoppedIn { laden .travel with kind := .putaway, dest := none } 3000 .holding).inputs.limitHigh.z = false :=
  ⟨by decide +kernel, clear_base, by decide +kernel, by decide +kernel⟩

/-- R126 by hand, row by row, from Z at the travel height: the motion with which each phase goes on, and its phase. -/
theorem test_resume_goes_on_row_by_row :
    (unladenRows.map (fun j => let t := after (.resume 1 []) (stoppedIn j 3000 .gripping)
        (t.gantry.motion, t.job.map Job.phase))) =
      [(.travel, some .approach), (.descent, some .pickDown), (.none, some .grip), (.none, none)]
    ∧ (ladenRows.map (fun j => let t := after (.resume 1 []) (stoppedIn j 200 .holding)
        (t.gantry.motion, t.job.map Job.phase))) =
      [(.rise, some .pickUp), (.rise, some .pickUp), (.rise, some .travel), (.descent, some .setDown), (.none, some .release),
        (.rise, some .clear), (.rise, some .clear)] := by decide +kernel

/-- A carry to slot 0 in TRAVEL, X in the middle of its move. -/
def slotLeg : State := legAt (some { laden .travel with kind := .put, dest := some (.slot 0), reservation := none }) .travel .busy
  (xAt 400) 3000

theorem witness_StationsAreHeldAndResumed_changes :
    (∀ p ∈ [Phase.travel, .setDown],
      (legAt (some (laden p)) .travel .busy (xAt 400) 3000).stn.a.mode = .plain .building
      ∧ (laden p).station = some .A ∧ (laden p).gripped = true ∧ (laden p).releaseBegun = false
      ∧ (laden p).carried = some (.case rec0) ∧ (legAt (some (laden p)) .travel .busy (xAt 400) 3000).gantry.state = .busy)
    ∧ (job0.station = some .A ∧ job0.gripped = false
      ∧ ((legAt (some job0) .travel .busy (xAt 400) 3000).gantry.ramping .cancel).moving = true
      ∧ ((legAt (some job0) .travel .busy (xAt 100) 3000).gantry.ramping .cancel).moving = false
      ∧ (legAt (some job0) .travel .stopped (restAt 0) 3000).gantry.state = .stopped)
    ∧ (legAt none .none .idle (restAt 0) 3000).link = base.link := by decide +kernel

/-- R101, R102 and R123 by hand: a hold in TRAVEL ramps X to rest and waits for a destination on a full spill table, a cancel
ramps to rest, and is IDLE at once where nothing moves. -/
theorem test_station_hold_ramps :
    (after (.stationHold 1 [0]) ({ legAt (some (laden .travel)) .travel .busy (xAt 400) 3000 with
        slots := Vector.replicate 8 .blocked } : State)).gantry.motion = .toRest .await
    ∧ (after (.stationHold 1 [0]) (legAt (some (laden .setDown)) .descent .busy (xAt 400) 3000)).gantry.motion = .toRest .replan
    ∧ (after (.stationHold 1 [0]) (legAt (some job0) .travel .busy (xAt 400) 3000)).gantry.motion = .toRest .cancel := by
  decide +kernel

theorem witness_ShelfAndSpillInputsChangeTheirStores_changes :
    slotLeg.job.bind Job.dest = some (.slot 0) ∧ slotLeg.slots[(0 : Fin 8)] = .empty false ∧ slotLeg.settingDownOn 0 = false
    ∧ slotLeg.job.map Job.gripped = some true ∧ slotLeg.job.map Job.releaseBegun = some false
    ∧ slotLeg.job.bind Job.carried = some (.case rec0) ∧ slotLeg.gantry.state = .busy
    ∧ slotLeg.inputs.slotPresence[(0 : Fin 8)] = false ∧ (stood (.slot 0) slotLeg).inputs.missing (.slot 0) = 0 := by decide +kernel

/-- The job without a destination waits, X as given, with Z at a height; slot 0 is free for it. -/
def awaiting (r : CellRun) (x : LinState) (z : Int) : State :=
  (homeless putting).setCellRun r |>.setGantry { base.gantry with
    state := .awaitPutaway, axes := ⟨x, restAt 0, restAt z⟩, t := ⟨some .t0, true, none⟩ }

theorem witness_DispatchChoosesByRankWhereItMay_await :
    (∀ r ∈ [CellRun.run, .paused .run], ∀ z ∈ [(200 : Int), 3000],
      (awaiting r (restAt 0) z).awaitDue = true ∧ (awaiting r (restAt 0) z).chooseDest (.case rec0) = some (.slot 0)
      ∧ (awaiting r (restAt 0) z).gantry.heldChange = false ∧ (awaiting r (restAt 0) z).lossZone? = none
      ∧ (awaiting r (restAt 0) z).gantry.state = .awaitPutaway ∧ (awaiting r (restAt 0) z).gantry.moving = false
      ∧ (awaiting r (xAt 400) z).gantry.moving = true
      ∧ ((awaiting r (restAt 0) z).gantry.ramping .replan).moving = false
      ∧ ((awaiting r (xAt 400) z).gantry.ramping .replan).moving = true)
    ∧ ((awaiting .run (restAt 0) 200).gantry.axes.z.at < ((awaiting .run (restAt 0) 200).travelHeight : Int)
      ∧ ((awaiting .run (restAt 0) 3000).travelHeight : Int) ≤ (awaiting .run (restAt 0) 3000).gantry.axes.z.at
      ∧ (awaiting .run (restAt 0) 200).inputs = base.inputs) := by decide +kernel

/-- R103 and R123 by hand: the waiting job gets slot 0 and rises toward it, in a cell that runs. -/
theorem test_awaiting_job_takes_its_destination :
    (awaiting .run (restAt 0) 200).settle.gantry.motion = .rise ∧ (awaiting .run (restAt 0) 200).settle.gantry.state = .busy
    ∧ (awaiting .run (xAt 400) 3000).settle.gantry.motion = .toRest .replan
    ∧ (awaiting (.paused .run) (restAt 0) 200).settle.gantry.state = .stopped := by decide +kernel

/-- R123 and R125 by hand: the cancel ends in IDLE, the stop in STOPPED with the next phase, the new plan in a rise. -/
theorem test_ramps_to_rest :
    (after (.moveEnd (.lin .X)) (resting none .X .cancel .busy .finishing)).gantry.state = .idle
    ∧ (after (.moveEnd (.lin .X)) (resting (some (laden .travel)) .X (.stop true) .stopping (.paused .run))).gantry.state = .stopped
    ∧ (after (.moveEnd (.lin .X)) (resting (some (laden .travel)) .X (.stop true) .stopping (.paused .run))).job.map Job.phase =
        some .setDown
    ∧ (after (.moveEnd (.lin .Z)) (resting (some (laden .travel)) .Z .replan .busy .run)).gantry.motion = .rise := by
  decide +kernel

/-- Homing in one of its parts. -/
def homingIn (n : Nat) : State := base.setGantry { base.gantry with state := .homing, homing := n }

/-- The same state with some home switches and low end limits active. -/
def switched (s : State) (x y z t low : Bool) : State :=
  s.setInputs { s.inputs with homeX := x, homeY := y, homeZ := z, homeT := t, limitLow := ⟨low, low, false⟩ }

/-- Home switches that stand active, or an end limit toward home, as a part of homing starts. -/
theorem witness_HomingRunsZThenTThenXY_switches :
    ((switched (homingIn 1) false false false true false).gantry.homing = 1
      ∧ (switched (homingIn 1) false false false true false).inputs.homeZ = false
      ∧ (switched (homingIn 1) false false false true false).inputs.homeT = true
      ∧ (stood (.home (.lin .Z)) (switched (homingIn 1) false false false true false)).inputs.missing (.home (.lin .Z)) = 0)
    ∧ ((switched (homingIn 2) true false false false false).inputs.homeX = true
      ∧ (switched (homingIn 2) true false false false false).inputs.homeT = false
      ∧ (switched (homingIn 2) false true false false true).inputs.limitLow.x = true
      ∧ (switched (homingIn 2) false true false false true).inputs.homeX = false
      ∧ (stood (.home .T) (switched (homingIn 2) true true false false true)).inputs.missing (.home .T) = 0)
    ∧ ((switched base false false true false false).inputs.homeZ = true
      ∧ (switched base false false true true false).inputs.homeT = true)
    ∧ ((base.setInputs { base.inputs with limitHigh := ⟨false, false, true⟩ }).inputs.limitHigh.z = true
      ∧ (base.setInputs { base.inputs with limitHigh := ⟨false, false, true⟩ }).inputs.homeZ = false)
    ∧ base.gantry.axes.x.homed = false := by decide +kernel

/-- R117 and R118 by hand: T found with X and Y at home ends homing; an end limit toward home is the fault LIMIT; HOME with Z
and T at home starts the last part. -/
theorem test_homing_takes_active_switches :
    (after (.homeSwitch .T true) (stood (.home .T) (switched (homingIn 2) true true false false true))).gantry.state = .idle
    ∧ (after (.homeSwitch .T true) (stood (.home .T) (switched (homingIn 2) false true false false true))).gantry.state =
        .faulted .limit
    ∧ (after (.home 1 []) (switched base false false true true false)).gantry.homing = 3 := by decide +kernel

theorem witness_HomingRunsZThenTThenXY :
    (base.inputs.home .T = false ∧ base.gantry.searching .T = false ∧ (stood (.home .T) base).inputs.missing (.home .T) = 0
      ∧ (stood (.home (.lin .Z)) base).inputs.missing (.home (.lin .Z)) = 0)
    ∧ ((homingIn 1).gantry.state = .homing ∧ (homingIn 1).gantry.homing = 1 ∧ (homingIn 1).inputs.homeZ = false
        ∧ (homingIn 1).inputs.homeT = false)
    ∧ ((homingIn 2).gantry.homing = 2 ∧ (homingIn 2).inputs.homeX = false ∧ (homingIn 2).inputs.homeY = false
        ∧ (homingIn 2).inputs.limitLow.x = false ∧ (homingIn 2).inputs.limitLow.y = false
        ∧ (homingIn 2).gantry.axes.x.homed = false ∧ (homingIn 2).gantry.axes.y.homed = false)
    ∧ ((homingIn 3).gantry.homing = 3 ∧ (homingIn 3).gantry.axes.y.homed = false ∧ (homingIn 3).job = none
        ∧ (homingIn 3).inputs.homeX = false ∧ (homingIn 3).gantry.axes.x.homed = false
        ∧ (stood (.home (.lin .X)) (homingIn 3)).inputs.missing (.home (.lin .X)) = 0 ∧ (stood (.home (.lin .Y)) (homingIn 3)).inputs.missing (.home (.lin .Y)) = 0)
    ∧ ((homingIn 3).setGantry ((homingIn 3).gantry.found (.lin .Y))).gantry.axes.y.homed = true
    ∧ ((homingIn 3).setGantry ((homingIn 3).gantry.found (.lin .X))).gantry.axes.x.homed = true
    ∧ (homingIn 1).gantry.searching (.lin .Z) = true
    ∧ (((homingIn 3).setJob (some job0)).job = some job0 ∧ job0.carried = none ∧ (laden .travel).carried = some (.case rec0)
        ∧ (homingIn 3).lossZone? = none ∧ (homingIn 3).cell.run.going = false
        ∧ ((homingIn 3).setCellRun .run).cell.run.going = true)
    ∧ (((homingIn 3).inputs.changing (.home .T)) = none ∧ (∀ st ∈ allStations, (homingIn 3).inputs.curtain.get st = false)) := by
  decide +kernel

theorem witness_EndLimitIsTakenByAMovingAxis :
    (stood (.limit .X .low) base).inputs.missing (.limit .X .low) = 0 ∧ (stood (.limit .X .high) (moving .busy)).inputs.missing (.limit .X .high) = 0
    ∧ base.inputs.limit .X .low = false ∧ (base.inputs.limit .X .low ≠ true ∧ base.gantry.searching (.lin .X) = false
        ∧ base.gantry.axes.x.move = none)
    ∧ ((moving .busy).gantry.searching (.lin .X) = false ∧ (moving .busy).gantry.axes.x.move ≠ none)
    ∧ (homingIn 3).gantry.searching (.lin .X) = true
    ∧ ((moveX 10).target ≠ base.gantry.axes.x.at ∧ base.zoneHit? (moveX 10).target = none
        ∧ base.gantry.axes.x.at < (moveX 10).target ∧ (after (.endLimit .X .high true) (stood (.limit .X .high) base)).inputs.limit .X .high = true)
    ∧ (({ base.gantry with t := ⟨some .t0, true, some .t0⟩ } : Gantry).t.move = some .t0
        ∧ base.inputs.homeT ≠ decide (Turn.t0 = .t0)) := by decide +kernel

/-! Guards and stations -/

/-- The case a STOPPED gantry carries, in a cell that door and policy leave to return. -/
def guardedCarry (m : GuardMem) : State :=
  ((withDoor slotCarry).setCellRun (.guardStopped m ⟨true, false, false⟩)).setAuto true

/-- R126 and R151 by hand: the closing door returns the cell under AUTO, and the retained TRAVEL rises first. -/
theorem test_door_returns_the_cell :
    (after (.door false) (stood .door (guardedCarry (.ret .run)))).cell = ⟨.run, true⟩
    ∧ (after (.door false) (stood .door (guardedCarry (.ret .run)))).gantry.state = .busy
    ∧ (after (.door false) (stood .door (guardedCarry (.paused .run)))).gantry.state = .stopped := by decide +kernel

theorem witness_DoorStopsAndReturnsTheCell :
    base.inputs.door = false ∧ (base.cell.run = .off ∧ base.gantry.state ≠ .homing)
    ∧ ((homingIn 1).cell.run = .off ∧ (homingIn 1).gantry.state = .homing)
    ∧ (inStates (.guardStopped (.ret .run) ⟨false, true, false⟩) .idle).cell.run = .guardStopped (.ret .run) ⟨false, true, false⟩
    ∧ running.cell.run = .run ∧ (inStates (.paused .finishing) .stopped).cell.run = .paused .finishing
    ∧ (stood .door base).inputs.missing .door = 0 ∧ (stood .door (withDoor base)).inputs.missing .door = 0 ∧ running.gantry.heldChange = false
    ∧ (withDoor base).inputs.door = true ∧ base.cell.auto = false
    ∧ ((inStates (.guardStopped (.ret .run) ⟨true, false, false⟩) .idle).setAuto true).cell.auto = true
    ∧ ((guardedCarry (.ret .run)).cell = ⟨.guardStopped (.ret .run) ⟨true, false, false⟩, true⟩
        ∧ (guardedCarry (.ret .run)).job ≠ none ∧ (guardedCarry (.ret .run)).inputs.door = true
        ∧ (guardedCarry (.paused .run)).cell.run = .guardStopped (.paused .run) ⟨true, false, false⟩)
    ∧ ((jobIn .run .busy).inputs.door = false ∧ (jobIn .run .busy).cell.run = .run ∧ (jobIn .run .busy).gantry.state = .busy
        ∧ (heldIn (laden .setDown)).inputs.door = false ∧ (heldIn (laden .setDown)).cell.run = .run
        ∧ (heldIn (laden .setDown)).lossZone? = none)
    ∧ base.job = none := by decide +kernel

/-- Station A in EXCHANGE behind a broken curtain. -/
def exchanging (m : Standing) (absent pallet : Bool) : State :=
  ((base.setCurtain .A true).setInputs { (base.setCurtain .A true).inputs with pallet := ⟨pallet, false⟩ }).setStn .A
    { base.stn.a with mode := .exchange m, absentSeen := absent }

/-- Station A in EXCHANGE behind a curtain that stopped the cell with a case in hand. -/
def curtainCarry (m : GuardMem) (auto door : Bool) : State :=
  let s := (slotCarry.setCurtain .A true).setCellRun (.guardStopped m ⟨door, true, false⟩)
  (s.setAuto auto).setStn .A { s.stn.a with mode := .exchange .idle, absentSeen := false }

theorem witness_CurtainsAndPalletsExchangeStations :
    ((exchanging .idle false true).inputs.curtain.get .A = true ∧ (stood (.curtain .B) base).inputs.missing (.curtain .B) = 0
      ∧ (stood (.pallet .A) base).inputs.missing (.pallet .A) = 0 ∧ (stood (.curtain .A) (exchanging .idle false true)).inputs.missing (.curtain .A) = 0)
    ∧ (base.inputs.curtain.get .B = false ∧ base.stn.b.mode = .plain .noPallet ∧ base.gantryInZone .B = true)
    ∧ ((base.setGantry { base.gantry with axes := ⟨restAt 3000, .unhomed, .unhomed⟩ }).gantryInZone .A = false)
    ∧ (running.cell.run = .run ∧ running.gantry.heldChange = false)
    ∧ ((jobIn .run .busy).gantryInZone .A = true ∧ (jobIn .run .busy).stn.a.mode = .plain .noPallet
        ∧ (heldIn (laden .setDown)).gantryInZone .A = true ∧ (heldIn (laden .setDown)).lossZone? = none)
    ∧ (base.cell.run = .off ∧ base.gantry.state ≠ .homing ∧ (homingIn 1).gantry.state = .homing ∧ (homingIn 1).gantryInZone .B = true
        ∧ (inStates (.guardStopped (.ret .run) ⟨true, false, false⟩) .idle).cell.run = .guardStopped (.ret .run) ⟨true, false, false⟩)
    ∧ ((exchanging .complete false true).stn.a.mode = .exchange .complete ∧ (exchanging .complete false true).inputs.pallet.get .A = true
        ∧ (exchanging .complete false true).stn.a.absentSeen = false ∧ (exchanging .complete false true).job = none)
    ∧ ((exchanging .building false true).stn.a.mode = .exchange .building
        ∧ (exchanging .building false true).outstanding .A = none)
    ∧ (exchanging .idle false true).stn.a.mode = .exchange .idle
    ∧ (((exchanging .building false true).setJob (some job0)).outstanding .A ≠ none
        ∧ ((exchanging .building false true).setJob (some job0)).cell.run = .off)
    ∧ ((exchanging .building false false).inputs.pallet.get .A = false ∧ (exchanging .building false false).boundTo .A = false)
    ∧ (exchanging .building true true).stn.a.absentSeen = true
    ∧ (((exchanging .building true true).setJob (some job0)).job = some job0 ∧ job0.station = some .A ∧ job0.gripped = false)
    ∧ ((curtainCarry (.ret .run) true false).inputs.curtain.get .A = true
        ∧ (curtainCarry (.ret .run) true false).cell.run = .guardStopped (.ret .run) ⟨false, true, false⟩
        ∧ (curtainCarry (.ret .run) true false).boundTo .A = false ∧ (curtainCarry (.ret .run) true false).job ≠ none
        ∧ (curtainCarry (.ret .run) false false).cell.auto = false ∧ (⟨true, false, false⟩ : Causes) ≠ ⟨false, false, false⟩
        ∧ (curtainCarry (.ret .run) true true).cell.run = .guardStopped (.ret .run) ⟨true, true, false⟩
        ∧ (curtainCarry (.paused .run) true false).cell.run = .guardStopped (.paused .run) ⟨false, true, false⟩
        ∧ ((curtainCarry (.ret .run) true false).setJob none).job = none)
    ∧ (base.inputs.pallet.get .A = false ∧ base.inputs.pallet.get .A ≠ true)
    ∧ (after (.palletPresent .A true) (stood (.pallet .A) base)).stn.a.mode = .plain .unverified := by decide +kernel

/-- Station A is left without its pallet while a job carries a case to it. -/
def clearedCarry (g : GState) (p : Phase) : State :=
  ((exchanging .building true true).setJob (some (laden p))).setGantry { base.gantry with state := g }

theorem witness_CurtainsAndPalletsExchangeStations_bound :
    (∀ g ∈ [GState.busy, .stopping, .stopped], ∀ p ∈ [Phase.travel, .setDown],
      (clearedCarry g p).stn.a.mode = .exchange .building ∧ (clearedCarry g p).stn.a.absentSeen = true
      ∧ (clearedCarry g p).job = some (laden p) ∧ (laden p).station = some .A ∧ (laden p).gripped = true
      ∧ (laden p).releaseBegun = false ∧ (laden p).carried = some (.case rec0) ∧ (clearedCarry g p).gantry.state = g
      ∧ (clearedCarry g p).lossZone? = none ∧ (clearedCarry g p).link.reports = []
      ∧ (clearedCarry g p).cell.run = .off ∧ (clearedCarry g p).inputs.curtain.get .A = true)
    ∧ (laden .release).releaseBegun = true := by decide +kernel

/-- R155 and R161 by hand: the one GUARD report of the restore, and the job that becomes a PUTAWAY. -/
theorem test_restore_of_a_cleared_station :
    (after (.curtainRestore .A) (stood (.curtain .A) (clearedCarry .busy .travel))).guards =
      [.guard (.curtain .A) false .off false (some (.plain .idle)) (some true)]
    ∧ (after (.curtainRestore .A) (stood (.curtain .A) (clearedCarry .busy .travel))).job.map Job.kind = some .putaway := by
  decide +kernel

/-- X moves on a LINEAR profile at 1500 mm/s and is far from its target. -/
def rushing : State :=
  base.setGantry { base.gantry with
    axes := ⟨⟨some 1000, true, some (newMove false .X (.linear 100 1500 400) 0 4000)⟩, .unhomed, .unhomed⟩ }

/-- The same X move, begun under the cap, and the field as it stands active. -/
def crawling : State :=
  (base.setInputs { base.inputs with warning := true }).setGantry { base.gantry with
    axes := ⟨⟨some 1000, true, some (newMove true .X (.linear 100 1500 400) 0 4000)⟩, .unhomed, .unhomed⟩ }

/-- R128 by hand: the clearing lets the capped move rise to 1500 mm/s again. -/
theorem test_clearing_lifts_the_cap :
    ((after (.warningField false) (stood .warning crawling)).gantry.axes.x.move.map (fun m => m.plan.peak)) = some 1500
    ∧ (crawling.gantry.axes.x.move.map (fun m => m.plan.peak)) = some 250 := by decide +kernel

theorem witness_WarningFieldSetsTheSpeedCap :
    (crawling.inputs.warning = true ∧ (stood .warning crawling).inputs.missing .warning = 0
      ∧ (∃ m, (crawling.gantry.axes.get .X).move = some m ∧ m.final (crawling.gantry.axes.get .X).at = false
        ∧ m.profile = .linear 100 1500 400 ∧ 1500 = min 1500 m.limit
        ∧ (1500 * 1500 - 100 * 100) * 400 ≤ 400 * (1500 * 1500 - 100 * 100)
        ∧ 2 * (400 : Int) ≤ m.place (crawling.gantry.axes.get .X).at + m.base + m.profileLeft (crawling.gantry.axes.get .X).at)
      ∧ (∃ m, (crawling.gantry.axes.get .X).move = some m ∧ m.final 3999 = true ∧ m.plan.creepDist = 0))
    ∧ (base.inputs.warning = false ∧ (stood .warning base).inputs.missing .warning = 0) ∧ (∀ a, (base.gantry.axes.get a).move = none)
    ∧ (∃ m, (rushing.gantry.axes.get .X).move = some m ∧ m.final (rushing.gantry.axes.get .X).at = false
        ∧ (∀ t, m.profile ≠ .table t)) ∧ (∀ w, rushing.gantry.motion ≠ .toRest w) :=
  ⟨⟨by decide, by decide, ⟨_, rfl, by decide +kernel⟩, _, rfl, by decide +kernel⟩,
    by decide, fun a => by cases a <;> rfl, ⟨_, rfl, by decide +kernel, fun t h => by cases h⟩, fun w h => by cases h⟩

/-! Gripper -/

/-- A grip with the four zones in use, and its readings. -/
def gripping (n : Nat) : State :=
  (fronted (jobIn .run .busy)).setGripper { base.gripper with
    state := .gripping, attempt := n, timer := some 600, used := ⟨true, true, true, true⟩ }

/-- A carry in PICK_UP. -/
def carrying : State :=
  (jobIn .run .busy |>.setJob (some { job0 with phase := .pickUp, gripped := true, carried := some (.case rec0) })).setGripper
    { base.gripper with state := .holding, used := ⟨true, true, true, true⟩ }

/-- The grip of a sheet, and of a case in slot 0. -/
def sheetJob : Job := { job0 with kind := .sheet, source := .magazine, dest := some (.sheet .A) }
def slotJob : Job := { job0 with source := .slot 0 }

/-- The four zones of a grip read 65. -/
def reached : State := reads (gripping 1) 65

theorem witness_SetGripperStoresWithLoClamped :
    (base.link.Ready ∧ (gripping 1).link.Ready)
    ∧ (base.link.lock = false ∧ gripBytes.length = 9 ∧ ¬ 20 ≤ u8 (gripBytes.set 1 19) 1
      ∧ (40 ≤ u8 gripBytes 0 ∧ u8 gripBytes 0 ≤ 90 ∧ 20 ≤ u8 gripBytes 1 ∧ 100 ≤ u16 gripBytes 2 ∧ u16 gripBytes 2 ≤ 2000
        ∧ 50 ≤ u16 gripBytes 4 ∧ u16 gripBytes 4 ≤ 500 ∧ 20 ≤ u16 gripBytes 6 ∧ u16 gripBytes 6 ≤ 500
        ∧ (u8 gripBytes 8 = 40 ∨ u8 gripBytes 8 = 80))
      ∧ base.gripper.state ≠ .gripping ∧ base.gripper.state ≠ .holding
      ∧ ((gripping 1).gripper.state = .gripping ∧ (gripping 1).gripper.used.get .B = true
          ∧ (gripping 1).inputs.reading.get .B < u8 gripBytes 0)
      ∧ (reached.gripper.state = .gripping ∧ reached.job = some job0 ∧ job0.gripped = false)
      ∧ ((reads carrying 20).gripper.state = .holding ∧ min (u8 gripBytes 1) (u8 gripBytes 0 - 5) ≤ 20)
      ∧ (carrying.watched = true ∧ carrying.gripper.used.get .D = true ∧ (reads carrying 19).inputs.reading.get .D < 20))
    ∧ ∀ y, 40 ≤ reached.inputs.reading.get y ∧ (reached.gripper.zones.get y).faulted = false :=
  ⟨⟨ready_base, ready_base⟩, by decide +kernel, fun y => by cases y <;> decide +kernel⟩

/-- R135 by hand: a lower G ends the grip at once, and a higher Lo drops the carry. -/
theorem test_set_gripper_ends_grip_and_carry :
    (after (.setGripper 1 gripBytes) reached).job.map Job.gripped = some true
    ∧ (after (.setGripper 1 gripBytes) (reads carrying 19)).gantry.state = .faulted .drop := by decide +kernel

theorem witness_ReadingsAndGripTimerEndGripsAndCarries :
    ((base.gripper.state ≠ .gripping ∧ base.gripper.state ≠ .holding)
      ∧ ((gripping 1).gripper.state = .gripping ∧ (gripping 1).gripper.used.get .B = true
          ∧ (gripping 1).inputs.reading.get .B < (gripping 1).gripper.set.g)
      ∧ ((gripping 1).job = some job0 ∧ job0.gripped = false ∧ (gripping 1).gripper.set.lo ≤ (gripping 1).gripper.set.g
          ∧ job0.source = .lane .L1 ∧ (gripping 1).lanes.l1.fifo = rec0 :: [])
      ∧ (sheetJob.source = .magazine ∧ sheetJob.gripped = false)
      ∧ (slotJob.source = .slot 0 ∧ ((gripping 1).setSlot 0 (.held rec0 0 false)).slots[(0 : Fin 8)] = .held rec0 0 false)
      ∧ (carrying.watched = true ∧ carrying.gripper.used.get .D = true ∧ 44 < carrying.gripper.set.lo)
      ∧ (carrying.gripper.state = .holding ∧ (reads carrying 45).gripper.set.lo ≤ (reads carrying 45).inputs.reading.get .A)
      ∧ (({ base.gripper with duty := 90, zones := base.gripper.zones.set .A ⟨.hold 150, false, false⟩ } : Gripper).drive .A
          = .pulsed 90 80 ∧ base.gripper.set.pullIn ≤ 150)
      ∧ ((gripping 1).gripper.attempt = 1 ∧ (gripping 2).gripper.attempt ≠ 1))
    ∧ ∀ y, reached.gripper.set.g ≤ reached.inputs.reading.get y ∧ (reached.gripper.zones.get y).faulted = false :=
  ⟨by decide +kernel, fun y => by cases y <;> decide +kernel⟩

/-- The last leg of the CLEAR of a job whose grip failed, in a cell that finishes. -/
def failedClear (j : Job) : State :=
  let s := (lastLeg { j with phase := .clear, gripFailed := true } .Z .rise .idle).setCellRun .finishing
  (s.setPlan .A ⟨[{ layer0 false admitted with placements := [{ place0 admitted with state := .bound }] }], false⟩).setSlot 0
    (.held rec0 0 false)

/-- The last try of a grip, with Z low under a fixture. -/
def gripLow (g : GState) : State :=
  (gripping 2).setGantry { (gripping 2).gantry with
    state := g, axes := { (gripping 2).gantry.axes with z := restAt 20 }
    geometry := { (gripping 2).gantry.geometry with magazine := ⟨0, 0, 500⟩ } }

theorem witness_FailedGripsGiveUpTheirSource :
    ((gripLow .busy).gripper.state = .gripping ∧ (gripLow .busy).gripper.attempt ≠ 1 ∧ (gripLow .busy).job = some job0
      ∧ (gripLow .busy).gantry.state = .busy ∧ (gripLow .busy).inputs.limitHigh.z = false
      ∧ (gripLow .busy).gantry.axes.z.at < (((gripLow .busy).travelHeight : Nat) : Int)
      ∧ (gripLow .stopped).gantry.state ≠ .busy)
    ∧ ((failedClear job0).gantry.axes.z.move = some (newMove false .Z .fallback 100 700)
      ∧ (legOver (failedClear job0) .Z).moving = false ∧ (legOver (failedClear job0) .Z).motion = .rise
      ∧ (failedClear job0).job = some { job0 with phase := .clear, gripFailed := true } ∧ job0.gripped = false)
    ∧ (job0.source = .lane .L1 ∧ (failedClear job0).lanes.l1.pick = .front ∧ (failedClear job0).lanes.l1.fifo = rec0 :: []
      ∧ slotJob.source = .slot 0 ∧ (failedClear slotJob).slots[(0 : Fin 8)] = .held rec0 0 false
      ∧ (failedClear slotJob).link.reports = [] ∧ slotJob.kind ≠ .sheet ∧ slotJob.abandoned = false)
    ∧ (job0.kind = .place ∧ job0.dest = some (.placement .A 1)
      ∧ (failedClear job0).plan.a.find? 1 = some { place0 admitted with state := .bound }
      ∧ (failedClear job0).stack.a.sweep.state ≠ .waiting
      ∧ ((failedClear job0).setSweep .A ⟨.waiting, []⟩).stack.a.sweep.state = .waiting)
    ∧ (sheetJob.station = some .A ∧ sheetJob.source = .magazine ∧ sheetJob.kind = .sheet
      ∧ (failedClear sheetJob).stn.a.mode = .plain .building ∧ sheetJob.station ≠ some .B) := by decide +kernel

/-- R100 by hand: the case runs off, the slot is BLOCKED, the station is held for sheets, and the placement is PENDING again. -/
theorem test_failed_grip_gives_up_its_source :
    (after (.moveEnd (.lin .Z)) (failedClear job0)).lanes.l1.pick = .releasing true .ungrippable
    ∧ (after (.moveEnd (.lin .Z)) (failedClear slotJob)).slots[(0 : Fin 8)] = .blocked
    ∧ (after (.moveEnd (.lin .Z)) (failedClear sheetJob)).stn.a.mode = .plain (.held .sheetsOut)
    ∧ ((after (.moveEnd (.lin .Z)) (failedClear job0)).plan.a.find? 1).map Placement.state = some .pending := by decide +kernel

/-- A release in a try. -/
def releasing (n : Nat) : State :=
  base.setGripper { base.gripper with state := .releasing, attempt := n, timer := some 0, used := ⟨true, false, false, false⟩ }

/-- The release of a job, its zone empty again. -/
def lettingGo (j : Job) : State :=
  (planned (releasing 1) (.plain .building) admitted).setJob (some j) |>.setGantry { base.gantry with state := .busy }

/-- The placement of station A with the job bound to it. -/
def boundPlan : Plan := ⟨[{ layer0 false admitted with placements := [{ place0 admitted with state := .bound }] }], false⟩

def letPlaceGo : State := (lettingGo (laden .release)).setPlan .A boundPlan
def letSheetGo : State :=
  (lettingGo { sheetJob with phase := .release, gripped := true, carried := some .sheet }).setPlan .A
    ⟨[layer0 true .unswept], false⟩
def letSlotGo : State := lettingGo { laden .release with kind := .put, dest := some (.slot 3), reservation := none }
def letSpillGo : State := lettingGo { laden .release with kind := .putaway, dest := some .spill, reservation := none }

/-- A grip of a case whose type is defined. -/
def gripTyped : State := (gripping 1).setDir placing.dir

/-- The grip-fault counter at 3, its decay run for a time. -/
def decaying (n : Nat) : State := base.setGripper { base.gripper with counter := 3, decay := some n }

/-- R147 by hand: the counter falls once 600 s have gone by, and not before. -/
theorem test_decay_needs_its_period :
    (after .decayExpiry (decaying 600000)).gripper.counter = 2 ∧ (after .decayExpiry (decaying 600000)).gripper.decay = some 0
    ∧ (after .decayExpiry (decaying 599999)).gripper = (decaying 599999).gripper := by decide +kernel

/-- R25, R27 and R28 by hand: the commit of the last placement reports PLACED and LAYER_DONE, in this order. -/
theorem test_commit_reports :
    (((after .releaseTimerExpiry letPlaceGo).link.reports.map Report.body).filter (fun r => match r with
      | .placed .. => true
      | .layerDone .. => true
      | _ => false)) = [.placed .A 1 1 0 0 100 none, .layerDone .A 1 1 0 false] := by decide +kernel

theorem witness_ReleasePullInFaultAndDecayAreTaken :
    (base.gripper.state ≠ .releasing
      ∧ ((reads (releasing 1) 11).gripper.state = .releasing ∧ (reads (releasing 1) 11).gripper.used.get .A = true
          ∧ 10 < (reads (releasing 1) 11).inputs.reading.get .A ∧ (releasing 1).gripper.attempt = 1
          ∧ (releasing 2).gripper.attempt ≠ 1)
      ∧ (letPlaceGo.job = some (laden .release) ∧ letPlaceGo.gantry.state = .busy ∧ (laden .release).kind = .place
          ∧ (laden .release).dest = some (.placement .A 1) ∧ (laden .release).carried = some (.case rec0)
          ∧ (laden .release).reservation = some ⟨[], 0, 48, [(.deck, 48)], 110⟩
          ∧ letPlaceGo.plan.a.find? 1 = some { place0 admitted with state := .bound }
          ∧ letPlaceGo.dir.typeAt 0 = some caseType ∧ letPlaceGo.plan.a.queue = [] ++ boundPlan.queue
          ∧ boundPlan.placements.map Placement.id = [1] ∧ letPlaceGo.link.reports = [] ∧ (laden .release).station = some .A)
      ∧ (letSheetGo.job.map Job.kind = some .sheet ∧ letSheetGo.job.bind Job.carried = some .sheet
          ∧ (letSheetGo.job.bind Job.reservation).isSome = true ∧ letSheetGo.plan.a.queue = layer0 true .unswept :: [])
      ∧ (letSlotGo.job.bind Job.dest = some (.slot 3) ∧ letSlotGo.slots[(3 : Fin 8)] = .empty false)
      ∧ letSpillGo.job.bind Job.dest = some .spill
      ∧ (({ base.gripper with zones := base.gripper.zones.set .A ⟨.hold 0, false, false⟩ } : Gripper).zones.get .A).valve = .hold 0
      ∧ ((stood (.fault .A .openLoad) base).inputs.missing (.fault .A .openLoad) = 0 ∧ base.inputs.fault .A .openLoad = false
          ∧ (base.gripper.zones.get .A).faulted = false ∧ base.gripper.used.get .A = false)
      ∧ ((gripping 1).gripper.used.get .A = true ∧ (gripping 1).gripper.state = .gripping ∧ (gripping 1).job = some job0
          ∧ (stood (.fault .A .openLoad) (gripping 1)).inputs.missing (.fault .A .openLoad) = 0
          ∧ (gripTyped.gripNeeds (gripTyped.sourceCase job0)).2 ≤ zoneCount (gripTyped.gripper.used.set .A false)
          ∧ ((gripping 1).gripper.used.set .A false).get .B = true
          ∧ (gripping 1).inputs.reading.get .B < (gripping 1).gripper.set.g
          ∧ reached.inputs.reading = ⟨65, 65, 65, 65⟩ ∧ reached.gripper.set.g = 65)
      ∧ zoneCount ((⟨true, true, false, false⟩ : ZoneSet).set .A false) < (gripTyped.gripNeeds (gripTyped.sourceCase job0)).2
      ∧ (carrying.gripper.used.get .A = true ∧ carrying.watched = true ∧ (stood (.fault .A .openLoad) carrying).inputs.missing (.fault .A .openLoad) = 0)
      ∧ base.gripper.decay = none ∧ (decaying 600000).gripper.decay = some 600000
      ∧ (decaying 599999).gripper.decay = some 599999 ∧ 599999 < 600000)
    ∧ (∀ z, (reads (releasing 1) 10).gripper.used.get z = true → (reads (releasing 1) 10).inputs.reading.get z ≤ 10)
    ∧ (∀ z, letPlaceGo.inputs.reading.get z ≤ 10) ∧ ∀ ms, (base.gripper.zones.get .A).valve ≠ .hold ms :=
  ⟨by decide +kernel, fun z => by cases z <;> decide +kernel, fun z => by cases z <;> decide, fun ms h => by cases h⟩

/-! Laws of every step -/

theorem bounded_base : base.Bounded := by
  refine ⟨by decide, by decide, by decide, fun l => ?_, by decide, by decide, by decide, fun st => ?_, fun st => ?_⟩
  · cases l <;> decide
  · cases st <;> decide
  · cases st <;> decide

theorem witness_BoundsAreKeptByEveryStep : base.Bounded ∧ step base = .next { base with clock := 1 } := ⟨bounded_base, by rfl⟩

/-- A PLACE job holds the reservation of the BOUND placement of station A, which its stack fits. -/
def bound : State := (planned base (.plain .building) admitted).setPlan .A boundPlan |>.setJob (some job0)

theorem bound_placements (st : StationId) (p : Placement) (h : p ∈ (bound.plan.get st).placements) :
    st = .A ∧ p = { place0 admitted with state := .bound } := by
  cases st
  · exact ⟨rfl, List.mem_singleton.mp h⟩
  · exact absurd h (List.not_mem_nil)

theorem witness_BindingLawIsKeptByEveryStep : bound.BindingLaw ∧ step bound = .next { bound with clock := 1 } := by
  refine ⟨fun st => ⟨by cases st <;> decide, fun p hp _ => ?_⟩, by rfl⟩
  obtain ⟨rfl, rfl⟩ := bound_placements st p hp
  exact ⟨job0, rfl, by decide +kernel⟩

/-- A stack that holds nothing meets its laws. -/
theorem bare_stack_law (l : Limits) : (Stack.bare l).Law := by
  refine ⟨Nat.zero_le _, List.nodup_nil, fun i j n x y _ h => by simp [Stack.bare] at h, fun e h => absurd h (List.not_mem_nil),
    fun e h => absurd h (List.not_mem_nil), rfl, Nat.zero_le _, fun n c h => ?_⟩
  obtain rfl : c = ⟨0, .deck⟩ := List.eq_of_mem_replicate (List.mem_of_getElem? h)
  exact ⟨Nat.le_refl _, Nat.zero_le _, .inl ⟨rfl, fun e h => absurd h (List.not_mem_nil)⟩⟩

/-- The verdict of `admitted` fits the bare stack of station A for its placement. -/
theorem bound_fits : bound.FitsPlacement .A { place0 admitted with state := .bound } ⟨[], 0, 48, [(.deck, 48)], 110⟩ := by
  refine ⟨⟨0, 0, 8, 6, 110, 120, 75⟩, by decide +kernel, by decide, rfl, by decide, by decide, ⟨by decide, by decide, by decide,
    by decide, fun q h i hq => ?_⟩, by decide +kernel, by decide, ?_⟩
  · obtain rfl := List.mem_singleton.mp h
    cases hq
  intro i e h
  simp [bound, planned, State.setPlan, State.setJob, State.setStn, State.setDir, base, State.reset, Stack.bare, PerStation.get] at h

/-- The one type and the one placement have a size. -/
theorem bound_sizes : bound.SizeLaw := by
  refine ⟨fun n t h => ?_, fun st p hp => ?_⟩
  · obtain h' : ∀ n : Fin 64, ∀ t ∈ bound.dir.typeAt n.val, 0 < t.len ∧ 0 < t.wid ∧ 0 < t.hei := by decide +kernel
    by_cases hn : n < 64
    · exact h' ⟨n, hn⟩ t h
    · simp [Directory.typeAt, Nat.le_of_not_lt hn] at h
  · obtain ⟨rfl, rfl⟩ := bound_placements st p hp
    decide

theorem witness_StackLawsAreKeptByEveryStep : bound.BindingLaw ∧ bound.StackLaw := by
  refine ⟨witness_BindingLawIsKeptByEveryStep.1, bound_sizes, fun st => ⟨?_, fun p hp => ?_, fun j r hj hr => ?_, fun _ => ⟨?_, ?_⟩⟩⟩
  · cases st <;> exact bare_stack_law _
  · obtain ⟨rfl, rfl⟩ := bound_placements st p hp
    exact ⟨fun h => (by cases h), fun h => absurd h (List.not_mem_nil)⟩
  · obtain rfl : job0 = j := Option.some.inj hj
    cases st
    · obtain rfl : (⟨[], 0, 48, [(.deck, 48)], 110⟩ : WalkResult) = r := Option.some.inj hr
      refine ⟨fun id _ hd => ?_, fun h => (by cases h)⟩
      obtain rfl : id = 1 := by cases hd; rfl
      exact ⟨_, List.mem_singleton.mpr rfl, rfl, rfl, bound_fits⟩
    · cases hr
  · intro l hl p hp _ r hv
    obtain ⟨rfl, rfl⟩ := bound_placements st p (by cases st
                                                   · obtain rfl := List.mem_singleton.mp hl; exact hp
                                                   · exact absurd hl (List.not_mem_nil))
    cases hv
    exact bound_fits
  · cases st <;> exact fun h => (by cases h)

theorem witness_LockoutLawIsKeptByEveryStep :
    ({ base.gripper with state := .lockedOut, counter := 6 } : Gripper).LockoutLaw
    ∧ ({ base.gripper with counter := 5, decay := some 0 } : Gripper).LockoutLaw
    ∧ step base = .next { base with clock := 1 } := by
  refine ⟨?_, ?_, by rfl⟩ <;> (unfold Gripper.LockoutLaw; decide)

theorem witness_NoAxisMovesWhileGuardStopped :
    (inStates (.guardStopped (.ret .run) ⟨true, false, false⟩) .stopped).GuardLaw
    ∧ (inStates (.guardStopped (.ret .run) ⟨true, false, false⟩) .stopped).cell.run.isGuardStopped = true := by
  refine ⟨?_, by decide⟩
  unfold State.GuardLaw
  decide +kernel

theorem witness_LockedSettingsStayUntilPowerOn :
    (after (.lockSettings 1 []) base).link.lock = true ∧ Instr.frameSent ≠ .powerOn := by decide +kernel

end Sys2Proof.Tests
end

section
/-! SUPPORT. What a command, and a sensor command of any input, does with the state it works on, said once: the end of a step
(R91, R103, R170), and the five cases of the bounce filter (R1) as outcomes of `exec`. -/

namespace Sys2Proof.Machine

/-! ### The end of a step -/

/-- A command whose effect leaves nothing to choose ends with the line's choice alone. -/
theorem run_ended (f : State → State) (s : State) (h : (f s.fresh).evalDue = false) (k : (f s.fresh).awaitDue = false) :
    run f s = .next (f s.fresh).ended := by
  rw [run, State.settle_ended _ h k]

/-- The choices that wait at the end of a step: a PUTAWAY job's (R103), then the dispatch evaluation's (R91). -/
def State.chosen (s : State) : State :=
  let s := if s.awaitDue then s.awaitChoice else s
  if s.evalDue then s.evaluate 16 else s

/-- A step ends with the waiting choices and then the line's next frame. -/
theorem State.settle_eq (s : State) : s.settle = s.chosen.ended := rfl

@[simp] theorem State.chosen_fixed (s : State) : s.chosen.fixed = s.fixed := by
  unfold State.chosen
  dsimp only
  (repeat' split) <;> simp

@[simp] theorem State.settle_pending (s : State) : s.settle.pending = s.pending :=
  congrArg Fixed.pending s.chosen_fixed
@[simp] theorem State.settle_clock (s : State) : s.settle.clock = s.clock :=
  congrArg Fixed.clock s.chosen_fixed
@[simp] theorem State.settle_inputs (s : State) : s.settle.inputs = s.inputs :=
  congrArg Fixed.inputs s.chosen_fixed
@[simp] theorem State.settle_draws (s : State) : s.settle.draws = s.draws :=
  congrArg Fixed.draws s.chosen_fixed

/-! ### The change of an input's level -/

/-- The five cases of the filter are complete with this one: a change that has stood for 2 ms is the event even where the
command shows the old level, and the change back begins (R1). -/
theorem filtered_back {x : Sensor} {v : Bool} {s : State} (f : Bool → State → State)
    (h : s.inputs.changing x = some 0) (k : s.inputs.level x = v) :
    filtered x v f s = (s.inputStood x f).setInputs ((s.inputStood x f).inputs.noteChange x) := by
  simp [filtered, h, k]

/-- The state on which the event of an input works: the marks of the step are clear, and the input's change is over. -/
def State.atEvent (s : State) (x : Sensor) : State := s.fresh.setInputs (s.inputs.noteEvent x)

@[simp] theorem State.atEvent_level (s : State) (x y : Sensor) : (s.atEvent x).inputs.level y = s.inputs.level y :=
  Inputs.noteEvent_level _ x y

section sensor

variable {c : Instr} {x : Sensor} {v : Bool}

/-- The command of a two-level input is that input's event behind its bounce filter. -/
theorem exec_sensor (h : c.sensor? = some (x, v)) (s : State) :
    exec c s = run (filtered x v fun v s => s.inputEvent x v) s := by
  cases c <;> cases h <;> rfl

/-- An input that shows the level it has changes nothing. -/
theorem exec_sensor_steady (h : c.sensor? = some (x, v)) {s : State} (hc : s.inputs.changing x = none)
    (hl : s.inputs.level x = v) : exec c s = .next s.ended := by
  have e : filtered x v (fun v s => s.inputEvent x v) s.fresh = s.fresh := filtered_steady _ hc hl
  rw [exec_sensor h, run_ended] <;> rw [e] <;> rfl

/-- A new level begins to stand. -/
theorem exec_sensor_change (h : c.sensor? = some (x, v)) {s : State} (hc : s.inputs.changing x = none)
    (hl : s.inputs.level x ≠ v) : exec c s = .next (s.setInputs (s.inputs.noteChange x)).ended := by
  have e : filtered x v (fun v s => s.inputEvent x v) s.fresh = s.fresh.setInputs (s.inputs.noteChange x) :=
    filtered_change _ hc hl
  rw [exec_sensor h, run_ended] <;> rw [e] <;> rfl

/-- A change that goes back before its 2 ms are over is dropped. -/
theorem exec_sensor_dropped (h : c.sensor? = some (x, v)) {s : State} {n : Nat}
    (hc : s.inputs.changing x = some (n + 1)) (hl : s.inputs.level x = v) :
    exec c s = .next (s.setInputs (s.inputs.noteEvent x)).ended := by
  have e : filtered x v (fun v s => s.inputEvent x v) s.fresh = s.fresh.setInputs (s.inputs.noteEvent x) :=
    filtered_dropped _ hc hl
  rw [exec_sensor h, run_ended] <;> rw [e] <;> rfl

/-- A change that shows itself again before its 2 ms are over goes on standing. -/
theorem exec_sensor_waits (h : c.sensor? = some (x, v)) {s : State} {n : Nat}
    (hc : s.inputs.changing x = some (n + 1)) (hl : s.inputs.level x ≠ v) : exec c s = .next s.ended := by
  have e : filtered x v (fun v s => s.inputEvent x v) s.fresh = s.fresh := filtered_waits _ hc hl
  rw [exec_sensor h, run_ended] <;> rw [e] <;> rfl

/-- A change that has stood for 2 ms and shows itself is the input's event. -/
theorem exec_sensor_stood (h : c.sensor? = some (x, v)) {s : State} (hm : s.inputs.missing x = 0)
    (hl : s.inputs.level x ≠ v) :
    exec c s = .next ((s.atEvent x).inputEvent x v).settle := by
  rw [exec_sensor h, run, filtered_stood (s := s.fresh) _ hm hl]
  rfl

/-- The same where the event leaves nothing to choose at the end of its step. -/
theorem exec_sensor_stood_ended (h : c.sensor? = some (x, v)) {s u : State} (hm : s.inputs.missing x = 0)
    (hl : s.inputs.level x ≠ v) (hu : (s.atEvent x).inputEvent x v = u)
    (he : u.evalDue = false) (ha : u.awaitDue = false) : exec c s = .next u.ended := by
  rw [exec_sensor_stood h hm hl, hu, State.settle_ended _ he ha]

end sensor

end Sys2Proof.Machine
end

section
/-! SUPPORT. An input whose level is set, and the event of an input: it sets that level and touches nothing else of `fixed`. -/

namespace Sys2Proof.Machine

/-! ### An input whose level is set -/

/-- The inputs with one two-level input at a level, its bounce filter aside. -/
def Inputs.withLevel (i : Inputs) (x : Sensor) (v : Bool) : Inputs :=
  match x with
  | .door => { i with door := v }
  | .warning => { i with warning := v }
  | .spillCleared => { i with spillCleared := v }
  | .curtain st => { i with curtain := i.curtain.set st v }
  | .pallet st => { i with pallet := i.pallet.set st v }
  | .casePresent l => { i with casePresent := i.casePresent.set l v }
  | .laneEmpty l => { i with laneEmpty := i.laneEmpty.set l v }
  | .slot k => { i with slotPresence := i.slotPresence.set k v }
  | .home a => i.setHome a v
  | .limit a side => i.setLimit a side v
  | .fault z k => i.setFault z k v

@[simp] theorem Inputs.setHome_home (i : Inputs) (a : Axis) (v : Bool) : (i.setHome a v).home a = v := by
  rcases a with (_ | _ | _) | _ <;> rfl
@[simp] theorem Inputs.setLimit_limit (i : Inputs) (a : LinAxis) (side : AxisEnd) (v : Bool) :
    (i.setLimit a side v).limit a side = v := by
  cases side <;> simp [Inputs.setLimit, Inputs.limit]
@[simp] theorem Inputs.setFault_fault (i : Inputs) (z : Zone) (k : FaultKind) (v : Bool) :
    (i.setFault z k v).fault z k = v := by
  cases k <;> simp [Inputs.setFault, Inputs.fault]

theorem Inputs.setHome_self (i : Inputs) (a : Axis) : i.setHome a (i.home a) = i := by
  rcases a with (_ | _ | _) | _ <;> rfl
theorem Inputs.setLimit_self (i : Inputs) (a : LinAxis) (side : AxisEnd) : i.setLimit a side (i.limit a side) = i := by
  cases side <;> simp [Inputs.setLimit, Inputs.limit]
theorem Inputs.setFault_self (i : Inputs) (z : Zone) (k : FaultKind) : i.setFault z k (i.fault z k) = i := by
  cases k <;> simp [Inputs.setFault, Inputs.fault]

@[simp] theorem Inputs.withLevel_level_self (i : Inputs) (x : Sensor) (v : Bool) : (i.withLevel x v).level x = v := by
  cases x <;> simp [Inputs.withLevel, Inputs.level]

theorem Inputs.setHome_home_ne (i : Inputs) {a b : Axis} (v : Bool) (h : b ≠ a) : (i.setHome a v).home b = i.home b := by
  rcases a with (_ | _ | _) | _ <;> rcases b with (_ | _ | _) | _ <;> first | rfl | exact absurd rfl h
theorem Inputs.setLimit_limit_ne (i : Inputs) {a b : LinAxis} {side other : AxisEnd} (v : Bool)
    (h : b = a → other ≠ side) : (i.setLimit a side v).limit b other = i.limit b other := by
  cases side <;> cases other <;>
    first | rfl | exact PerAxis.get_set_ne _ _ (fun e => h e rfl)
theorem Inputs.setFault_fault_ne (i : Inputs) {z w : Zone} {k other : FaultKind} (v : Bool)
    (h : w = z → other ≠ k) : (i.setFault z k v).fault w other = i.fault w other := by
  cases k <;> cases other <;>
    first | rfl | exact PerZone.get_set_ne _ _ (fun e => h e rfl)

/-- Setting one input's level leaves the level of every other: another field by computation, another place of the same field
by the law of what is kept per place. -/
theorem Inputs.withLevel_level_ne (i : Inputs) {x y : Sensor} (v : Bool) (h : y ≠ x) :
    (i.withLevel x v).level y = i.level y := by
  cases x with
  | door | warning | spillCleared => cases y <;> first | rfl | exact absurd rfl h
  | curtain _ => cases y with | curtain _ => exact PerStation.get_set_ne _ _ (by simpa using h) | _ => rfl
  | pallet _ => cases y with | pallet _ => exact PerStation.get_set_ne _ _ (by simpa using h) | _ => rfl
  | casePresent _ => cases y with | casePresent _ => exact PerLane.get_set_ne _ _ (by simpa using h) | _ => rfl
  | laneEmpty _ => cases y with | laneEmpty _ => exact PerLane.get_set_ne _ _ (by simpa using h) | _ => rfl
  | slot k =>
    cases y with
    | slot n => exact Vector.getElem_set_ne k.isLt n.isLt (by simpa [Fin.ext_iff, eq_comm] using h)
    | _ => rfl
  | home a =>
    cases y with
    | home _ => exact i.setHome_home_ne v (by simpa using h)
    | _ => rcases a with (_ | _ | _) | _ <;> rfl
  | limit _ side => cases y with | limit _ _ => exact i.setLimit_limit_ne v (by simpa using h) | _ => cases side <;> rfl
  | fault _ k => cases y with | fault _ _ => exact i.setFault_fault_ne v (by simpa using h) | _ => cases k <;> rfl

@[simp] theorem Inputs.withLevel_filter (i : Inputs) (x : Sensor) (v : Bool) : (i.withLevel x v).filter = i.filter := by
  rcases x with _ | _ | _ | _ | _ | _ | _ | _ | ((_ | _ | _) | _) | ⟨_, _ | _⟩ | ⟨_, _ | _⟩ <;> rfl

/-- Setting a level touches no bounce filter. -/
@[simp] theorem Inputs.withLevel_changing (i : Inputs) (x y : Sensor) (v : Bool) :
    (i.withLevel x v).changing y = i.changing y := by
  simp [Inputs.changing]

@[simp] theorem Inputs.withLevel_reading (i : Inputs) (x : Sensor) (v : Bool) : (i.withLevel x v).reading = i.reading := by
  rcases x with _ | _ | _ | _ | _ | _ | _ | _ | ((_ | _ | _) | _) | ⟨_, _ | _⟩ | ⟨_, _ | _⟩ <;> rfl

/-- The level an input has already. -/
theorem Inputs.withLevel_of_eq {i : Inputs} {x : Sensor} {v : Bool} (h : i.level x = v) : i.withLevel x v = i := by
  subst h
  cases x
  case home a => exact i.setHome_self a
  case limit a side => exact i.setLimit_self a side
  case fault z k => exact i.setFault_self z k
  all_goals simp [Inputs.withLevel, Inputs.level]

/-! ### The event of an input -/

/-- An event to the level an input has already changes nothing. -/
theorem State.inputEvent_steady {s : State} {x : Sensor} {v : Bool} (h : s.inputs.level x = v) : s.inputEvent x v = s := by
  subst h
  cases x with
  | door => exact if_pos rfl
  | warning => exact if_pos rfl
  | spillCleared => exact if_pos rfl
  | pallet _ => exact if_pos rfl
  | laneEmpty _ => exact if_pos rfl
  | slot _ => exact if_pos rfl
  | home _ => exact if_pos rfl
  | limit _ _ => exact if_pos rfl
  | fault _ _ => exact if_pos rfl
  | curtain st =>
    cases h : s.inputs.curtain.get st <;>
      simp [State.inputEvent, Inputs.level, State.curtainInput, State.curtainBreaks, State.curtainRestored, h]
  | casePresent l =>
    cases h : s.inputs.casePresent.get l <;>
      simp [State.inputEvent, Inputs.level, State.caseInput, State.caseOn, State.caseOff, h]

/-- The inputs of a state with one two-level input at a level. -/
def State.senses (s : State) (x : Sensor) (v : Bool) : State := s.setInputs (s.inputs.withLevel x v)

section other

variable {s : State} {v : Bool}

/-! What the event of each input does when its level has changed, in the state that has the new level. -/

theorem State.inputEvent_door (h : s.inputs.level .door ≠ v) : s.inputEvent .door v =
    if v then (s.senses .door v).guardStop .door none else (s.senses .door v).guardClear .door none := if_neg h

theorem State.inputEvent_warning_toRest {w : RestFor} (h : s.inputs.level .warning ≠ v) (hw : s.gantry.motion = .toRest w) :
    s.inputEvent .warning v = (s.senses .warning v).guardReport .warning v false none :=
  (if_neg h).trans (by simp [hw]; rfl)

theorem State.inputEvent_warning_recap (h : s.inputs.level .warning ≠ v) (hw : ∀ w, s.gantry.motion ≠ .toRest w) :
    s.inputEvent .warning v = ((s.senses .warning v).setGantry
      (s.gantry.recap v ((s.job.map Job.speed).getD 0))).guardReport .warning v false none :=
  (if_neg h).trans (by simp; rfl)

theorem State.inputEvent_spillCleared (h : s.inputs.level .spillCleared ≠ v) : s.inputEvent .spillCleared v =
    if v then ((s.senses .spillCleared v).setSpill 0).slotEvent else s.senses .spillCleared v := if_neg h

theorem State.inputEvent_pallet_exchange {st : StationId} {m : Standing} (h : s.inputs.level (.pallet st) ≠ v)
    (hm : (s.stn.get st).mode = .exchange m) : s.inputEvent (.pallet st) v =
      if v then s.senses (.pallet st) v
      else (s.senses (.pallet st) v).setStn st { s.stn.get st with absentSeen := true } :=
  (if_neg h).trans (by simp [hm]; rfl)

theorem State.inputEvent_pallet_plain {st : StationId} {m : Standing} (h : s.inputs.level (.pallet st) ≠ v)
    (hm : (s.stn.get st).mode = .plain m) : s.inputEvent (.pallet st) v =
      (s.senses (.pallet st) v).stationSet st (.plain .unverified) :=
  (if_neg h).trans (by simp [hm]; rfl)

theorem State.inputEvent_laneEmpty {l : LaneId} (h : s.inputs.level (.laneEmpty l) ≠ v) : s.inputEvent (.laneEmpty l) v =
    if v then (s.senses (.laneEmpty l) v).laneTest l else s.senses (.laneEmpty l) v := if_neg h

theorem State.inputEvent_slot {k : SlotId} (h : s.inputs.level (.slot k) ≠ v) : s.inputEvent (.slot k) v =
    if v then (s.senses (.slot k) v).presenceOn k else (s.senses (.slot k) v).presenceOff k := if_neg h

theorem State.inputEvent_home {a : Axis} (h : s.inputs.level (.home a) ≠ v) : s.inputEvent (.home a) v =
    if v && s.gantry.searching a then (s.senses (.home a) v).homeFound a else s.senses (.home a) v := if_neg h

theorem State.inputEvent_limit {a : LinAxis} {side : AxisEnd} (h : s.inputs.level (.limit a side) ≠ v) :
    s.inputEvent (.limit a side) v =
      if !v then s.senses (.limit a side) v
      else if s.gantry.searching (.lin a) then (s.senses (.limit a side) v).homingFault .limit
      else if (s.gantry.axes.get a).move.isSome then (s.senses (.limit a side) v).faultStop .limit
      else s.senses (.limit a side) v := if_neg h

theorem State.inputEvent_fault {z : Zone} {k : FaultKind} (h : s.inputs.level (.fault z k) ≠ v) :
    s.inputEvent (.fault z k) v =
      if v && !(s.gripper.zones.get z).faulted then
        ((s.senses (.fault z k) v).zoneFault z (faultEvent k)).zoneFaultEffect z
      else s.senses (.fault z k) v := if_neg h

theorem State.inputEvent_caseOn {l : LaneId} (h : s.inputs.casePresent.get l = false) : s.inputEvent (.casePresent l) true =
    if (s.lanes.get l).pick = .empty then (s.senses (.casePresent l) true).caseArrives l
    else s.senses (.casePresent l) true := if_neg (by simp [h])

theorem State.inputEvent_caseOff_empty {l : LaneId} (h : s.inputs.casePresent.get l = true)
    (hp : (s.lanes.get l).pick = .empty) : s.inputEvent (.casePresent l) false = s.senses (.casePresent l) false :=
  (if_neg (by simp [h])).trans (by simp [State.setCasePresent, hp]; rfl)

theorem State.inputEvent_caseOff_front {l : LaneId} (h : s.inputs.casePresent.get l = true)
    (hp : (s.lanes.get l).pick = .front) :
    s.inputEvent (.casePresent l) false = (s.senses (.casePresent l) false).lostAtPick l :=
  (if_neg (by simp [h])).trans (by simp [State.setCasePresent, hp]; rfl)

theorem State.inputEvent_caseOff_picking {l : LaneId} (h : s.inputs.casePresent.get l = true)
    (hp : (s.lanes.get l).pick = .picking) : s.inputEvent (.casePresent l) false =
      (s.senses (.casePresent l) false).setLane l { s.lanes.get l with pick := .empty } :=
  (if_neg (by simp [h])).trans (by simp [State.setCasePresent, hp]; rfl)

theorem State.inputEvent_caseOff_releasing {l : LaneId} {b : Bool} {why : Reason}
    (h : s.inputs.casePresent.get l = true) (hp : (s.lanes.get l).pick = .releasing b why) :
    s.inputEvent (.casePresent l) false = (s.senses (.casePresent l) false).releaseEnd l b why :=
  (if_neg (by simp [h])).trans (by simp [State.setCasePresent, hp]; rfl)

end other

/-- The event of an input to its other level sets that level, and touches nothing else of `fixed` (R1). -/
theorem State.inputEvent_fixed_of_ne {s : State} {x : Sensor} {v : Bool} (h : s.inputs.level x ≠ v) :
    (s.inputEvent x v).fixed = (s.senses x v).fixed := by
  cases x with
  | door => rw [State.inputEvent_door h]; split <;> simp
  | warning =>
    by_cases hw : ∃ w, s.gantry.motion = .toRest w
    · obtain ⟨w, hw⟩ := hw
      simp [State.inputEvent_warning_toRest h hw]
    · rw [State.inputEvent_warning_recap h (fun w e => hw ⟨w, e⟩)]
      exact (State.guardReport_fixed ..).trans (State.setGantry_fixed _ _ rfl rfl rfl rfl rfl rfl)
  | spillCleared => rw [State.inputEvent_spillCleared h]; split <;> simp
  | pallet st =>
    cases hm : (s.stn.get st).mode with
    | exchange m =>
      rw [State.inputEvent_pallet_exchange h hm]
      split
      · rfl
      · exact State.setStn_fixed _ _ _ rfl rfl
    | plain m => simp [State.inputEvent_pallet_plain h hm]
  | laneEmpty l => rw [State.inputEvent_laneEmpty h]; split <;> simp
  | slot k => rw [State.inputEvent_slot h]; split <;> simp
  | home a => rw [State.inputEvent_home h]; split <;> simp
  | limit a side => rw [State.inputEvent_limit h]; (repeat' split) <;> simp
  | fault z k => rw [State.inputEvent_fault h]; split <;> simp
  | casePresent l =>
    cases v with
    | true => rw [State.inputEvent_caseOn (by simpa [Inputs.level] using h)]; split <;> simp
    | false =>
      have hl : s.inputs.casePresent.get l = true := by simpa [Inputs.level] using h
      cases hp : (s.lanes.get l).pick with
      | empty => rw [State.inputEvent_caseOff_empty hl hp]
      | front => simp [State.inputEvent_caseOff_front hl hp]
      | picking => simp [State.inputEvent_caseOff_picking hl hp]
      | releasing b why => simp [State.inputEvent_caseOff_releasing hl hp]
  | curtain st =>
    have hset : ∀ b, s.setCurtain st b = s.senses (.curtain st) b := fun _ => rfl
    cases v with
    | true =>
      have hst : s.inputs.curtain.get st = false := by simpa [Inputs.level] using h
      simp only [State.inputEvent, State.curtainInput, State.curtainBreaks, hst, hset]
      (repeat' split) <;> simp_all
    | false =>
      have hst : s.inputs.curtain.get st = true := by simpa [Inputs.level] using h
      simp [State.inputEvent, State.curtainInput, State.curtainRestored, hst, hset]

/-- The event of an input sets its level, and touches nothing else of `fixed` (R1). -/
theorem State.inputEvent_fixed (s : State) (x : Sensor) (v : Bool) :
    (s.inputEvent x v).fixed = (s.senses x v).fixed := by
  by_cases h : s.inputs.level x = v
  · rw [State.inputEvent_steady h, State.senses, Inputs.withLevel_of_eq h]
    rfl
  · exact State.inputEvent_fixed_of_ne h

@[simp] theorem State.inputEvent_pending (s : State) (x : Sensor) (v : Bool) : (s.inputEvent x v).pending = s.pending :=
  congrArg Fixed.pending (s.inputEvent_fixed x v)
@[simp] theorem State.inputEvent_clock (s : State) (x : Sensor) (v : Bool) : (s.inputEvent x v).clock = s.clock :=
  congrArg Fixed.clock (s.inputEvent_fixed x v)
@[simp] theorem State.inputEvent_draws (s : State) (x : Sensor) (v : Bool) : (s.inputEvent x v).draws = s.draws :=
  congrArg Fixed.draws (s.inputEvent_fixed x v)
@[simp] theorem State.inputEvent_inputs (s : State) (x : Sensor) (v : Bool) :
    (s.inputEvent x v).inputs = s.inputs.withLevel x v :=
  congrArg Fixed.inputs (s.inputEvent_fixed x v)

end Sys2Proof.Machine
end

section
/-! Every command answers a next state, with the queue and the count of free values as they were, and an input changes through its
bounce filter alone (R1). -/

namespace Sys2Proof.Machine

/-! ### What lies outside the part -/

/-- What no command but the change of an input's level touches: the queue, the inputs and the count of free values. -/
def Fixed.outside (f : Fixed) : List Instr × Inputs × Nat := (f.pending, f.inputs, f.draws)

@[simp] theorem State.settle_outside (s : State) : s.settle.fixed.outside = s.fixed.outside := by
  simp [Fixed.outside, State.fixed]

@[simp] theorem State.setLink_outside (s : State) (l : Link) : (s.setLink l).fixed.outside = s.fixed.outside := rfl
@[simp] theorem State.setDir_outside (s : State) (d : Directory) : (s.setDir d).fixed.outside = s.fixed.outside := rfl
@[simp] theorem State.setGantry_outside (s : State) (g : Gantry) : (s.setGantry g).fixed.outside = s.fixed.outside := rfl
@[simp] theorem State.setGripper_outside (s : State) (g : Gripper) : (s.setGripper g).fixed.outside = s.fixed.outside := rfl
@[simp] theorem State.setStack_outside (s : State) (st : StationId) (k : Stack) :
    (s.setStack st k).fixed.outside = s.fixed.outside := rfl
@[simp] theorem State.setStn_outside (s : State) (st : StationId) (n : Station) :
    (s.setStn st n).fixed.outside = s.fixed.outside := rfl
@[simp] theorem State.setAuto_outside (s : State) (b : Bool) : (s.setAuto b).fixed.outside = s.fixed.outside := rfl

/-! ### Requests -/

@[simp] theorem State.refuse_outside (s : State) (r : Result) : (s.refuse r).1.fixed.outside = s.fixed.outside := rfl
@[simp] theorem State.accept_outside (s : State) : s.accept.1.fixed.outside = s.fixed.outside := rfl

@[simp] theorem ownSetCell_outside (b : List Byte) (s : State) : (ownSetCell b s).1.fixed.outside = s.fixed.outside := by
  unfold ownSetCell
  dsimp only
  (repeat' split) <;> simp

@[simp] theorem ownSetStation_outside (b : List Byte) (s : State) :
    (ownSetStation b s).1.fixed.outside = s.fixed.outside := by
  unfold ownSetStation
  dsimp only
  (repeat' split) <;> simp

@[simp] theorem ownSetProfile_outside (b : List Byte) (s : State) :
    (ownSetProfile b s).1.fixed.outside = s.fixed.outside := by
  unfold ownSetProfile
  dsimp only
  (repeat' split) <;> simp

@[simp] theorem ownSetHandling_outside (b : List Byte) (s : State) :
    (ownSetHandling b s).1.fixed.outside = s.fixed.outside := by
  unfold ownSetHandling
  (repeat' split) <;> simp

@[simp] theorem ownSetGripper_outside (b : List Byte) (s : State) :
    (ownSetGripper b s).1.fixed.outside = s.fixed.outside := by
  unfold ownSetGripper
  dsimp only
  (repeat' split) <;> simp

@[simp] theorem ownDefineType_outside (b : List Byte) (s : State) :
    (ownDefineType b s).1.fixed.outside = s.fixed.outside := by
  unfold ownDefineType
  dsimp only
  (repeat' split) <;> simp

@[simp] theorem ownDefineArticle_outside (b : List Byte) (s : State) :
    (ownDefineArticle b s).1.fixed.outside = s.fixed.outside := by
  unfold ownDefineArticle
  dsimp only
  (repeat' split) <;> simp

@[simp] theorem ownDropArticle_outside (b : List Byte) (s : State) :
    (ownDropArticle b s).1.fixed.outside = s.fixed.outside := by
  unfold ownDropArticle
  dsimp only
  (repeat' split) <;> simp

/-- A request whose owner touches nothing outside the part touches nothing outside it. -/
theorem State.request_outside (s : State) (kind : Nat) (tag : Byte) (body : List Byte) {owner : State → State × ReplyBody}
    (h : ∀ t, (owner t).1.fixed.outside = t.fixed.outside) :
    (s.request kind tag body owner).fixed.outside = s.fixed.outside := by
  have hd : ∀ t : State, (t.decide kind body owner).fixed.outside = t.fixed.outside := by
    intro t
    unfold State.decide State.decided
    dsimp only
    (repeat' split) <;> simp [h]
  unfold State.request
  dsimp only
  (repeat' split) <;> simp [hd, State.intake]

@[simp] theorem State.receive_outside (s : State) (bs : List Byte) : (s.receive bs).fixed.outside = s.fixed.outside := rfl
@[simp] theorem State.setFramer_outside (s : State) (r : Receiver) : (s.setFramer r).fixed.outside = s.fixed.outside := rfl

/-! ### Resets -/

theorem State.readPickPoints_fixed (s : State) : s.readPickPoints.fixed = s.fixed :=
  State.foldl_fixed _ (fun t l => by split <;> simp) _ s

@[simp] theorem State.poweredOn_outside (s : State) : s.poweredOn.fixed.outside = s.fixed.outside := by
  rw [State.poweredOn, State.readPickPoints_fixed, State.started, State.report_fixed]
  rfl

@[simp] theorem State.restartClear_outside (s : State) : s.restartClear.fixed.outside = s.fixed.outside := by
  rw [State.restartClear, State.readPickPoints_fixed, State.started, State.report_fixed]
  rfl

@[simp] theorem State.frameSent_outside (s : State) : s.frameSent.fixed.outside = s.fixed.outside := by
  unfold State.frameSent
  (repeat' split) <;> simp

/-! ### Every command -/

/-- A command answers a next state, and what its effect leaves outside the part is left at the end of the step. -/
theorem run_outside {f : State → State} (h : ∀ t, (f t).fixed.outside = t.fixed.outside) (s : State) :
    ∃ t : State, run f s = .next t ∧ t.fixed.outside = s.fixed.outside :=
  ⟨(f s.fresh).settle, rfl, by simp [h]⟩

theorem run_request_outside {kind : Nat} {tag : Byte} {body : List Byte} {owner : State → State × ReplyBody}
    (h : ∀ t, (owner t).1.fixed.outside = t.fixed.outside) (s : State) :
    ∃ t : State, run (fun s => s.request kind tag body owner) s = .next t ∧ t.fixed.outside = s.fixed.outside :=
  run_outside (fun t => t.request_outside kind tag body h) s

/-- A command that is no change of an input's level touches nothing outside the part. -/
theorem exec_outside {c : Instr} (h : c.sensed = false) (s : State) :
    ∃ t : State, exec c s = .next t ∧ t.fixed.outside = s.fixed.outside := by
  cases c with
  | powerOn => exact run_outside State.poweredOn_outside s
  | frameSent => exact run_outside State.frameSent_outside s
  | goodFrame | linkGapTimeout | linkStopBitError | frameCheckMismatch | bodyLengthAbove1020 =>
    simp only [exec, execGoodFrame, execLinkGapTimeout, execLinkStopBitError, execFrameCheckMismatch,
      execBodyLengthAbove1020]
    exact run_outside (by simp) s
  | unknownKind kind tag body =>
    simp only [exec, execUnknownKind]
    refine run_outside (fun t => ?_) s
    split
    · rfl
    · exact t.request_outside _ tag body State.accept_outside
  | withdrawId | withdrawTag | pauseRamped | pauseQuick =>
    simp only [exec, execWithdrawId, execWithdrawTag, execPauseRamped, execPauseQuick]
    refine run_outside (fun t => ?_) s
    split <;> simp [State.request_outside]
  | lockSettings | restart | queryStation | queryLayer | queryPlacement | queryStack | querySurface | queryLane
  | queryShelf | queryGantry | queryGripper | queryType | queryArticle | queryHandling =>
    simp only [exec, execLockSettings, execRestart, execQueryStation, execQueryLayer, execQueryPlacement,
      execQueryStack, execQuerySurface, execQueryLane, execQueryShelf, execQueryGantry, execQueryGripper,
      execQueryType, execQueryArticle, execQueryHandling]
    exact run_request_outside (fun _ => rfl) s
  | setCell | setStation | setProfile | setHandling | setGripper | defineType | defineArticle | dropArticle | loadLayer
  | closePlan | abandonPlan | setDeparture | setSheets | home | start | stop | resume | recover | gripperReset | clearSlot
  | stationHold | stationResume | purgeLane =>
    simp only [exec, execSetCell, execSetStation, execSetProfile, execSetHandling, execSetGripper, execDefineType,
      execDefineArticle, execDropArticle, execLoadLayer, execClosePlan, execAbandonPlan,
      execSetDeparture, execSetSheets, execHome, execStart, execStop, execResume, execRecover,
      execGripperReset, execClearSlot, execStationHold, execStationResume, execPurgeLane]
    exact run_request_outside (by simp) s
  | arrival | scannerGapTimeout | scannerStopBitError | waitExpiry | walkEnd | moveEnd | gripTimerExpiry
  | releaseTimerExpiry | pullInExpiry | decayExpiry | departureTick =>
    simp only [exec, execArrival, execScannerGapTimeout, execScannerStopBitError, execWaitExpiry, execWalkEnd,
      execMoveEnd, execGripTimerExpiry, execReleaseTimerExpiry, execPullInExpiry, execDecayExpiry, execDepartureTick]
    exact run_outside (by simp) s
  | homeSwitchNotFound | duePassed =>
    simp only [exec, execHomeSwitchNotFound, execDuePassed]
    refine run_outside (fun t => ?_) s
    split <;> simp
  | casePresentOn | casePresentOff | accumulationEmpty | slotPresence | spillTableCleared | homeSwitch | endLimit | door
  | curtainBreak | curtainRestore | palletPresent | warningField | vacuumReading | faultInput => cases h

/-! ### The commands of the inputs -/

/-- A reading is noted, and touches nothing else of `fixed`. -/
theorem State.reading_fixed (s : State) (z : Zone) (v : Nat) :
    (s.reading z v).fixed = (s.setInputs { s.inputs with reading := s.inputs.reading.set z v }).fixed := by
  simp [State.reading]

/-- A filtered input leaves the queue and the count of free values as they are, whatever it shows. -/
theorem filtered_keeps (x : Sensor) (v : Bool) (s : State) :
    (filtered x v (fun v s => s.inputEvent x v) s).pending = s.pending
      ∧ (filtered x v (fun v s => s.inputEvent x v) s).draws = s.draws := by
  unfold filtered
  (repeat' split) <;> simp [State.inputStood]

/-- Every command answers a next state and leaves the queue and the count of free values as they are. -/
theorem exec_keeps (c : Instr) (s : State) :
    ∃ t : State, exec c s = .next t ∧ t.pending = s.pending ∧ t.draws = s.draws := by
  cases hc : c.sensed with
  | false =>
    obtain ⟨t, ht, ho⟩ := exec_outside hc s
    exact ⟨t, ht, congrArg Prod.fst ho, congrArg (fun o => o.2.2) ho⟩
  | true =>
    cases hx : c.sensor? with
    | some q =>
      obtain ⟨x, v⟩ := q
      obtain ⟨hp, hd⟩ := filtered_keeps x v s.fresh
      exact ⟨_, exec_sensor hx s, by simp [hp], by simp [hd]⟩
    | none =>
      cases c with
      | vacuumReading z n =>
        have h := s.fresh.reading_fixed z n
        exact ⟨_, rfl, (State.settle_pending _).trans (congrArg Fixed.pending h),
          (State.settle_draws _).trans (congrArg Fixed.draws h)⟩
      | _ => first | exact absurd hx (Option.some_ne_none _) | exact absurd hc Bool.false_ne_true

/-- A change that has stood for 2 ms is the input's event whatever level the command shows: it alters that level alone, and a
command that shows the old level begins the change back (R1). -/
theorem exec_sensor_event {c : Instr} {x : Sensor} {v : Bool} (h : c.sensor? = some (x, v)) {s : State}
    (hc : s.inputs.changing x = some 0) : ∃ t : State, exec c s = .next t ∧ t.clock = s.clock
      ∧ t.inputs = if s.inputs.level x = v then ((s.inputs.noteEvent x).withLevel x (!s.inputs.level x)).noteChange x
          else (s.inputs.noteEvent x).withLevel x (!s.inputs.level x) := by
  by_cases hl : s.inputs.level x = v
  · refine ⟨_, exec_sensor h s, ?_⟩
    rw [filtered_back (s := s.fresh) _ hc hl]
    simp [hl, State.inputStood]
  · refine ⟨_, exec_sensor_stood h (Inputs.missing_eq_zero.mpr hc) hl, ?_⟩
    have hv : v = !s.inputs.level x := by cases h1 : s.inputs.level x <;> cases v <;> simp_all
    simp [hv, State.atEvent]

/-- Settles O3: every command is run to a next state that keeps what lies outside the part, and a filtered input runs through the
five cases of its filter. -/
theorem everyCommandAnswersAndKeepsQueueAndInputs : Obligations.EveryCommandAnswersAndKeepsQueueAndInputs := by
  refine ⟨fun c s => ?_, fun c x v s hx => ⟨fun hc => ⟨exec_sensor_steady hx hc, exec_sensor_change hx hc⟩, ?_, ?_⟩⟩
  · obtain ⟨t, ht, hp, hd⟩ := exec_keeps c s
    refine ⟨t, ht, hp, hd, fun hs => ?_⟩
    obtain ⟨u, hu, ho⟩ := exec_outside hs s
    obtain rfl : t = u := by simpa [ht] using hu
    exact congrArg (fun o => o.2.1) ho
  · intro n hc hn
    obtain ⟨m, rfl⟩ := Nat.exists_eq_succ_of_ne_zero hn
    exact ⟨exec_sensor_waits hx hc, exec_sensor_dropped hx hc⟩
  · intro hc
    obtain ⟨t, ht, hclock, hi⟩ := exec_sensor_event hx hc
    refine ⟨t, ht, ?_, ?_, hclock, ?_, fun y hy => ⟨?_, ?_⟩⟩ <;> rw [hi] <;> split
    · simp
    · simp
    · exact Inputs.changing_noteChange_self (by simp)
    · simp
    · simp
    · simp
    · simp [Inputs.withLevel_level_ne _ _ hy]
    · simp [Inputs.withLevel_level_ne _ _ hy]
    · simp [Inputs.changing_noteChange_ne _ hy, Inputs.changing_noteEvent_ne _ hy]
    · simp [Inputs.changing_noteEvent_ne _ hy]

end Sys2Proof.Machine
end

section
/-! On an empty queue a change that has stood for 2 ms is taken as its event, or one millisecond passes (R1, R78, R134, R147). -/

namespace Sys2Proof.Machine

/-! ### A change that has stood -/

/-- The first change of a list that has stood for 2 ms is the one due, and its input misses nothing. -/
theorem Inputs.due?_eq_some {i : Inputs} {x : Sensor} {before after : List (Sensor × Nat)}
    (h : i.filter = before ++ (x, 0) :: after) (hb : ∀ e ∈ before, e.2 ≠ 0 ∧ e.1 ≠ x) :
    i.due? = some x ∧ i.missing x = 0 := by
  have h1 : before.find? (fun e => e.2 == 0) = none := List.find?_eq_none.mpr fun e he => by simpa using (hb e he).1
  have h2 : before.find? (fun e => e.1 == x) = none := List.find?_eq_none.mpr fun e he => by simpa using (hb e he).2
  exact ⟨by simp [Inputs.due?, h, List.find?_append, h1],
    Inputs.missing_eq_zero.mpr (by simp [Inputs.changing, h, List.find?_append, h2])⟩

/-- Where no listed change has stood for 2 ms none is due. -/
theorem Inputs.due?_eq_none {i : Inputs} (h : ∀ e ∈ i.filter, e.2 ≠ 0) : i.due? = none := by
  simpa [Inputs.due?] using h

/-- On an empty queue the change that is due is taken as the command of its input would take it. -/
theorem step_of_due {s : State} {x : Sensor} {c : Instr} (hp : s.pending = []) (hd : s.inputs.due? = some x)
    (hm : s.inputs.missing x = 0) (hc : c.sensor? = some (x, !s.inputs.level x)) : step s = exec c s := by
  rw [exec_sensor_stood hc hm (by cases s.inputs.level x <;> simp)]
  simp only [step, hp, State.idle, hd]
  rfl

theorem step_of_not_due {s : State} (hp : s.pending = []) (hd : s.inputs.due? = none) : step s = .next s.tick := by
  simp only [step, hp, State.idle, hd]

/-! ### One millisecond of the lanes -/

/-- A lane a millisecond later: a wait that counts grows up to the wait limit, and is never cut down (R78). -/
def Lane.tick (n : Lane) (counts : Bool) (limit : Nat) : Lane :=
  { n with wait := if counts ∧ n.wait < 1000 * limit then n.wait + 1 else n.wait }

theorem State.tickWait_eq (s : State) (l : LaneId) :
    s.tickWait l = s.setLane l ((s.lanes.get l).tick (s.waitCounts l) s.gantry.waitLimit) := by
  unfold State.tickWait Lane.tick
  cases hc : s.waitCounts l with
  | true =>
    simp only [if_true, true_and]
    congr 2
    split <;> omega
  | false => cases l <;> rfl

/-- Neither lane's wait depends on the other's. -/
theorem State.tickWaits_eq (s : State) : (s.tickWait .L1).tickWait .L2 = { s with
    lanes := ⟨s.lanes.l1.tick (s.waitCounts .L1) s.gantry.waitLimit,
      s.lanes.l2.tick (s.waitCounts .L2) s.gantry.waitLimit⟩ } := by
  rw [State.tickWait_eq, State.tickWait_eq]
  rfl

/-! ### One millisecond of an axis -/

/-- On the way toward a place an axis gets no farther from it. -/
theorem distance_toward_le (pos goal : Int) (n : Nat) : distance goal (toward pos goal n) ≤ distance goal pos := by
  unfold distance toward
  split <;> omega

/-- What a millisecond leaves of an axis: one at rest stays, a moving one gets no farther from where its move ends. -/
def LinState.Advances (a b : LinState) : Prop :=
  match a.move with
  | none => b = a
  | some m => ∃ x, b = { a with counter := some x } ∧ distance m.goal x ≤ distance m.goal a.at

theorem LinState.advances_tick (a : LinState) (free : Nat) (h : a.move ≠ none) : a.Advances (a.tick free) := by
  unfold LinState.Advances LinState.tick
  cases hm : a.move with
  | none => exact absurd hm h
  | some m => exact ⟨_, rfl, distance_toward_le _ _ _⟩

theorem LinState.advances_self {a : LinState} (h : a.move = none) : a.Advances a := by
  simp [LinState.Advances, h]

/-- The millisecond of one axis touches that axis and the count of free values alone. -/
theorem State.tickAxis_eq (s : State) (a : LinAxis) : ∃ (x : LinState) (n : Nat), (s.gantry.axes.get a).Advances x
    ∧ s.tickAxis a = { s with draws := n, gantry := { s.gantry with axes := s.gantry.axes.set a x } } := by
  unfold State.tickAxis
  cases h : (s.gantry.axes.get a).move with
  | none => exact ⟨_, s.draws, LinState.advances_self h, by simp [h]⟩
  | some m => exact ⟨_, s.draws + 1, LinState.advances_tick _ _ (by simp [h]), by simp only [h]; rfl⟩

/-- The three axes in turn: each advances from where it stood. -/
theorem State.tickAxes_eq (s : State) : ∃ (x : PerAxis LinState) (n : Nat), (∀ a, (s.gantry.axes.get a).Advances (x.get a))
    ∧ ((s.tickAxis .X).tickAxis .Y).tickAxis .Z = { s with draws := n, gantry := { s.gantry with axes := x } } := by
  obtain ⟨x, n1, hx, e1⟩ := s.tickAxis_eq .X
  obtain ⟨y, n2, hy, e2⟩ := (s.tickAxis .X).tickAxis_eq .Y
  obtain ⟨z, n3, hz, e3⟩ := ((s.tickAxis .X).tickAxis .Y).tickAxis_eq .Z
  refine ⟨⟨x, y, z⟩, n3, fun a => ?_, ?_⟩
  · cases a with
    | X => exact hx
    | Y => rw [e1] at hy; exact hy
    | Z => rw [e2, e1] at hz; exact hz
  · rw [e3, e2, e1]
    rfl

/-! ### One millisecond of the part -/

/-- The part a millisecond later, but for its axes. -/
def State.timed (s : State) : State :=
  { s with
    clock := s.clock + 1
    inputs := s.inputs.tick
    lanes := ⟨s.lanes.l1.tick (s.waitCounts .L1) s.gantry.waitLimit, s.lanes.l2.tick (s.waitCounts .L2) s.gantry.waitLimit⟩
    gripper := s.gripper.tick }

theorem State.tick_eq_tickAxes (s : State) : s.tick = ((s.timed.tickAxis .X).tickAxis .Y).tickAxis .Z := by
  unfold State.tick
  simp only [allLanes, List.foldl, State.tickWaits_eq]
  rfl

/-- One millisecond: the timers run, and every axis advances. -/
theorem State.tick_eq (s : State) : ∃ (x : PerAxis LinState) (n : Nat), (∀ a, (s.gantry.axes.get a).Advances (x.get a))
    ∧ s.tick = { s.timed with draws := n, gantry := { s.gantry with axes := x } } := by
  obtain ⟨x, n, hx, e⟩ := s.timed.tickAxes_eq
  exact ⟨x, n, hx, s.tick_eq_tickAxes.trans e⟩

/-- Settles O2: the event of the change that is due, and otherwise one millisecond, lane by lane and axis by axis. -/
theorem idleStepPassesOneMillisecond : Obligations.IdleStepPassesOneMillisecond := by
  refine ⟨fun s x before after c hp hf hb hc => ?_, fun s hp hf => ?_⟩
  · obtain ⟨hd, hm⟩ := Inputs.due?_eq_some hf hb
    exact step_of_due hp hd hm hc
  · obtain ⟨x, n, hx, ht⟩ := s.tick_eq
    refine ⟨s.tick, step_of_not_due hp (Inputs.due?_eq_none hf), ?_⟩
    rw [ht]
    refine ⟨rfl, fun l => by cases l <;> rfl, rfl, fun z => ?_, rfl, fun a => ?_⟩
    · cases hv : (s.gripper.zones.get z).valve <;> simp [State.timed, Gripper.tick, Valve.tick, hv]
    · have h := hx a
      unfold LinState.Advances at h
      split <;> simp_all

end Sys2Proof.Machine
end

section
/-! SUPPORT. What a halt, a change of the gantry's state and a fault leave of the gantry, said once (R118, R124, R130). -/

namespace Sys2Proof.Machine

/-! ### A halt -/

@[simp] theorem Gantry.halt_moving (g : Gantry) : g.halt.moving = false := rfl
@[simp] theorem Gantry.halt_counters (g : Gantry) : g.halt.counters = g.counters := rfl
@[simp] theorem Gantry.clearMarks_moving (g : Gantry) : g.clearMarks.moving = g.moving := rfl
@[simp] theorem Gantry.clearMarks_counters (g : Gantry) : g.clearMarks.counters = g.counters := rfl
@[simp] theorem Gantry.clearMarks_t_homed (g : Gantry) : g.clearMarks.t.homed = false := rfl
@[simp] theorem Gantry.clearMarks_homed (g : Gantry) (a : LinAxis) : (g.clearMarks.axes.get a).homed = false := by
  cases a <;> rfl

/-! ### A change of state -/

/-- A change of the gantry's state touches that state, the report queue and, on entry to IDLE, the dispatch event alone (R130). -/
theorem State.gantryTo_eq (s : State) (x : GState) : s.gantryTo x = { s with
    gantry := { s.gantry with state := x }, link := (s.gantryTo x).link, evalDue := (s.gantryTo x).evalDue } := by
  unfold State.gantryTo
  by_cases h : s.gantry.state = x
  · subst h
    simp
  · simp only [if_neg h]
    split <;> rfl

@[simp] theorem State.gantryTo_gantry (s : State) (x : GState) : (s.gantryTo x).gantry = { s.gantry with state := x } := by
  rw [s.gantryTo_eq x]
@[simp] theorem State.gantryTo_job (s : State) (x : GState) : (s.gantryTo x).job = s.job := by
  rw [s.gantryTo_eq x]
@[simp] theorem State.gantryTo_lanes (s : State) (x : GState) : (s.gantryTo x).lanes = s.lanes := by
  rw [s.gantryTo_eq x]
@[simp] theorem State.gantryTo_inputs (s : State) (x : GState) : (s.gantryTo x).inputs = s.inputs := by
  rw [s.gantryTo_eq x]
@[simp] theorem State.gantryTo_cell (s : State) (x : GState) : (s.gantryTo x).cell = s.cell := by
  rw [s.gantryTo_eq x]
@[simp] theorem State.gantryTo_gripper (s : State) (x : GState) : (s.gantryTo x).gripper = s.gripper := by
  rw [s.gantryTo_eq x]

/-- Only the entry to IDLE is a dispatch event (R91). -/
theorem State.gantryTo_evalDue (s : State) {x : GState} (h : x ≠ .idle) : (s.gantryTo x).evalDue = s.evalDue := by
  unfold State.gantryTo
  split <;> rfl

/-! ### Faults -/

/-- A fault halts the gantry in FAULTED; beside it only the report queue is touched (R124, R127). -/
theorem State.faultStop_eq (s : State) (c : FaultCause) : s.faultStop c = { s with
    gantry := { s.gantry.halt with heldChange := false, state := .faulted c }, link := (s.faultStop c).link } := by
  have h : (s.faultStop c).evalDue = s.evalDue := State.gantryTo_evalDue _ (by simp)
  rw [State.faultStop, State.gantryTo_eq] at h ⊢
  simp only at h
  rw [h]
  rfl

/-- A homing that fails halts the gantry in FAULTED with its marks cleared; beside it only the report queue is touched (R118). -/
theorem State.homingFault_eq (s : State) (c : FaultCause) : s.homingFault c = { s with
    gantry := { s.gantry.halt.clearMarks with kept := none, state := .faulted c }, link := (s.homingFault c).link } := by
  have h : (s.homingFault c).evalDue = s.evalDue := State.gantryTo_evalDue _ (by simp)
  rw [State.homingFault, State.gantryTo_eq] at h ⊢
  simp only at h
  rw [h]
  rfl

end Sys2Proof.Machine
end

section
/-! End limits (R1, R115, R118, R127). -/

namespace Sys2Proof.Machine

/-! ### The event of an end limit -/

section limit

variable {s : State} {a : LinAxis} {side : AxisEnd} {v : Bool}

/-- The state in which an end limit has just changed its level. -/
def State.limitShown (s : State) (a : LinAxis) (side : AxisEnd) (v : Bool) : State :=
  (s.atEvent (.limit a side)).senses (.limit a side) v

theorem exec_endLimit_stood (hl : s.inputs.limit a side ≠ v) (hm : s.inputs.missing (.limit a side) = 0) :
    exec (.endLimit a side v) s = .next (if !v then s.limitShown a side v
      else if s.gantry.searching (.lin a) then (s.limitShown a side v).homingFault .limit
      else if (s.gantry.axes.get a).move.isSome then (s.limitShown a side v).faultStop .limit
      else s.limitShown a side v).settle := by
  rw [exec_sensor_stood (c := .endLimit a side v) rfl hm hl, State.inputEvent_limit (by rwa [State.atEvent_level])]
  rfl

/-- A limit that clears, or shows on an axis that neither moves nor searches, changes its level alone. -/
theorem exec_endLimit_rest (hl : s.inputs.limit a side ≠ v) (hm : s.inputs.missing (.limit a side) = 0)
    (h : v = false ∨ s.gantry.searching (.lin a) = false ∧ (s.gantry.axes.get a).move = none) :
    exec (.endLimit a side v) s = .next (s.limitShown a side v).ended := by
  have e : (s.limitShown a side v).settle = (s.limitShown a side v).ended := State.settle_ended _ rfl rfl
  rw [exec_endLimit_stood hl hm, ← e]
  rcases h with rfl | ⟨hs, hn⟩
  · rfl
  · simp [hs, hn]

end limit

/-! ### A move that starts toward an active limit -/

/-- A move that starts toward an active end limit is the fault LIMIT (R127). -/
theorem State.startLin_limit {s : State} {a : LinAxis} {m : Move} (ht : m.target ≠ (s.gantry.axes.get a).at)
    (hz : a = .X → s.zoneHit? m.target = none) (hl : s.limitToward a (s.gantry.axes.get a).at m.target = true) :
    s.startLin a m = (s.faultStop .limit, false) := by
  have hz' : (if a = .X then s.zoneHit? m.target else none) = none := by
    split
    · exact hz ‹_›
    · rfl
  simp only [State.startLin, if_neg ht, hz', hl, if_true]

/-- The wrist at the end of a turn, before its switch is read (R115). -/
def State.turned (s : State) (t : Turn) : State :=
  s.setGantry { s.gantry with t := { s.gantry.t with pos := some t, move := none } }

/-- A wrist whose home switch does not agree at the end of its turn is the fault STUCK (R115). -/
theorem exec_moveEnd_stuck {s : State} {t : Turn} (ht : s.gantry.t.move = some t) (hw : s.inputs.homeT ≠ decide (t = .t0)) :
    exec (.moveEnd .T) s = .next ((s.fresh.turned t).faultStop .stuck).settle := by
  have hsw : switchAgrees t s.inputs.homeT = false := by
    cases t <;> cases h : s.inputs.homeT <;> simp_all [switchAgrees]
  simp [exec, execMoveEnd, run, State.moveEnds, ht, hsw, State.turned]

/-- Settles O48: the event of an end limit by the state of its axis, the start of a move, and the fault of the wrist. -/
theorem endLimitIsTakenByAMovingAxis : Obligations.EndLimitIsTakenByAMovingAxis := by
  refine ⟨fun s a side v => ⟨fun hl hc => exec_sensor_steady (c := .endLimit a side v) rfl hc hl, fun hl hm i hi => ?_⟩,
    fun s a m ht hz hl => ?_, fun s t ht hw => ?_⟩
  · subst hi
    refine ⟨fun h => exec_endLimit_rest hl hm h, fun hv hs hn => ?_, fun hv hs => ?_⟩
    · refine ⟨(s.limitShown a side v).faultStop .limit, ?_, by rw [State.faultStop_eq]; rfl, ?_⟩
      · rw [exec_endLimit_stood hl hm]
        simp [hv, hs, Option.isSome_iff_ne_none.mpr hn]
      · rw [State.faultStop_eq]
        exact ⟨rfl, rfl, rfl⟩
    · refine ⟨(s.limitShown a side v).homingFault .limit, ?_, by rw [State.homingFault_eq]; rfl, ?_⟩
      · rw [exec_endLimit_stood hl hm]
        simp [hv, hs]
      · rw [State.homingFault_eq]
        exact ⟨rfl, rfl, fun b => by cases b <;> rfl⟩
  · have h : s.limitToward a (s.gantry.axes.get a).at m.target = true := by
      unfold State.limitToward
      rcases hl with ⟨hlt, h⟩ | ⟨hlt, h⟩
      · rw [if_pos hlt]; exact h
      · rw [if_neg (by omega)]; exact h
    refine ⟨_, State.startLin_limit ht hz h, ?_⟩
    rw [State.faultStop_eq]
    exact ⟨rfl, rfl, rfl, rfl⟩
  · refine ⟨_, exec_moveEnd_stuck ht hw, ?_⟩
    rw [State.faultStop_eq]
    exact ⟨rfl, rfl⟩

end Sys2Proof.Machine
end

section
/-! SUPPORT. What a change of the speed cap makes of a move, and of the axes of the gantry (R113, R128). -/

namespace Sys2Proof.Machine

/-! ### Creep -/

@[simp] theorem Move.creepCap_origin (m : Move) (cap : Bool) (v : Nat) : (m.creepCap cap v).origin = m.origin := by
  unfold Move.creepCap; split <;> rfl
@[simp] theorem Move.creepCap_base (m : Move) (cap : Bool) (v : Nat) : (m.creepCap cap v).base = m.base := by
  unfold Move.creepCap; split <;> rfl
@[simp] theorem Move.creepCap_coord (m : Move) (cap : Bool) (v : Nat) : (m.creepCap cap v).coord = m.coord := by
  unfold Move.creepCap; split <;> rfl

/-- A change of the cap leaves of a plan all but its creep speed to the creep (R128). -/
theorem Move.creepCap_plan (m : Move) (cap : Bool) (v : Nat) :
    (m.creepCap cap v).plan = { m.plan with creepSpeed := (m.creepCap cap v).plan.creepSpeed } := by
  unfold Move.creepCap; split <;> rfl

/-! ### Recap -/

/-- An axis in its final ramp-down that has no creep before it finishes as planned (R128). -/
theorem Move.recap_of_final {m : Move} {pos : Int} (cap : Bool) (v : Nat) (hf : m.final pos = true)
    (hc : m.plan.creepDist = 0) : m.recap cap v pos = m := by
  simp [Move.recap, hf, Move.creepCap, hc]

section planned

variable {m : Move} {pos : Int} (cap : Bool) (v : Nat)

/-- The plan that a change of the cap makes for the rest of a profile move, from where the axis stands on its ramp (R128). -/
def Move.newPlan (m : Move) (cap : Bool) (pos : Int) : MovePlan :=
  profilePlan m.profile m.base (m.place pos) (m.profileLeft pos) (capped cap m.limit)

/-- An axis that is not in its final ramp-down is planned anew from where it stands; its creep distance stays (R128). -/
theorem Move.recap_plan (hf : m.final pos = false) : (m.recap cap v pos).plan =
    { m.newPlan cap pos with
      creepDist := m.plan.creepDist, creepSpeed := (m.recap cap v pos).plan.creepSpeed } := by
  simp only [Move.recap, hf]
  exact Move.creepCap_plan _ cap v

theorem Move.recap_origin (hf : m.final pos = false) : (m.recap cap v pos).origin = pos := by
  simp [Move.recap, hf]
theorem Move.recap_coord (hf : m.final pos = false) : (m.recap cap v pos).coord = m.place pos := by
  simp [Move.recap, hf]
theorem Move.recap_base (hf : m.final pos = false) : (m.recap cap v pos).base = m.base := by
  simp [Move.recap, hf]

end planned

/-! ### Plans on a LINEAR or S_CURVE ramp -/

/-- No peak and no start speed of a LINEAR or S_CURVE plan exceeds its top speed (R113, R128). -/
theorem profilePlan.linearPlan_le (base coord : Int) (d limit v0 vt pr : Nat) :
    (linearPlan base coord d limit v0 vt pr).peak ≤ min vt limit
      ∧ (linearPlan base coord d limit v0 vt pr).start ≤ min vt limit := by
  unfold linearPlan
  dsimp only
  split <;> dsimp only <;> omega

/-- A quotient rounded up is the least number that covers the dividend. -/
theorem ceilDiv_eq {a b q : Nat} (hb : 0 < b) (h : a ≤ q * b) (k : q * b < a + b) : ceilDiv a b = q := by
  unfold ceilDiv
  exact Nat.div_eq_of_lt_le (by omega) (by rw [Nat.succ_mul]; omega)

/-- The place of a speed no lower than the start speed, told by its two bounds (R113). -/
theorem placeOf_eq {v0 vt pr speed full : Nat} (hv : v0 < vt) (hs : v0 ≤ speed)
    (h : (speed * speed - v0 * v0) * pr ≤ full * (vt * vt - v0 * v0))
    (k : full * (vt * vt - v0 * v0) < (speed * speed - v0 * v0) * pr + (vt * vt - v0 * v0)) :
    placeOf v0 vt pr speed = full := by
  have hb : 0 < vt * vt - v0 * v0 := Nat.sub_pos_of_lt (Nat.mul_self_lt_mul_self hv)
  rw [placeOf, if_pos hs, ceilDiv_eq hb h k]

/-- A way long enough for the ramp up and down reaches the top speed (R113). -/
theorem profilePlan.linearPlan_long {base coord : Int} {d limit v0 vt pr full : Nat}
    (hp : placeOf v0 vt pr (min vt limit) = full) (h : 2 * (full : Int) ≤ coord + base + d) :
    (linearPlan base coord d limit v0 vt pr).peak = min vt limit
      ∧ (linearPlan base coord d limit v0 vt pr).ramp = full := by
  have hn : ¬(base < full ∧ coord + base + d < 2 * full) := by omega
  simp only [linearPlan, hp, if_neg hn, and_self]

/-- On a shorter way the axis turns to its ramp-down halfway (R113). -/
theorem profilePlan.linearPlan_short {base coord : Int} {d limit v0 vt pr full : Nat}
    (hp : placeOf v0 vt pr (min vt limit) = full) (hb : base < full) (h : coord + base + d < 2 * (full : Int)) :
    (linearPlan base coord d limit v0 vt pr).ramp = (coord + base + d) / 2 := by
  simp only [linearPlan, hp, if_pos (And.intro hb h)]

/-! ### The axes of the gantry -/

theorem Gantry.recap_axis (g : Gantry) (cap : Bool) (v : Nat) (a : LinAxis) : ((g.recap cap v).axes.get a) =
    { g.axes.get a with move := (g.axes.get a).move.map (fun m => m.recap cap v (g.axes.get a).at) } := by
  simp [Gantry.recap]

/-- Axes at rest take no change of the cap. -/
theorem Gantry.recap_of_rest {g : Gantry} (h : ∀ a, (g.axes.get a).move = none) (cap : Bool) (v : Nat) : g.recap cap v = g := by
  have hx : g.axes.x.move = none := h .X
  have hy : g.axes.y.move = none := h .Y
  have hz : g.axes.z.move = none := h .Z
  obtain ⟨_, _, _, ⟨⟨_, _, _⟩, ⟨_, _, _⟩, ⟨_, _, _⟩⟩, _, _, _, _, _, _, _, _, _, _⟩ := g
  cases hx
  cases hy
  cases hz
  rfl

end Sys2Proof.Machine
end

section
/-! WARNING_FIELD and the speed cap (R1, R113, R128, R155). -/

namespace Sys2Proof.Machine

/-! ### The plan of a move that takes the cap -/

/-- The plan made anew for a LINEAR or S_CURVE profile is that of its ramp (R113). -/
theorem Move.newPlan_ramp {m : Move} {v0 vt pr : Nat} (h : m.profile = .linear v0 vt pr ∨ m.profile = .sCurve v0 vt pr)
    (cap : Bool) (pos : Int) : m.newPlan cap pos =
      profilePlan.linearPlan m.base (m.place pos) (m.profileLeft pos) (capped cap m.limit) v0 vt pr := by
  rcases h with h | h <;> simp only [Move.newPlan, h, profilePlan]

/-- At an activation the peak and the start speed of the new plan lie within the cap (R128). -/
theorem Move.recap_le_cap {m : Move} {pos : Int} (v : Nat) (hf : m.final pos = false) (ht : ∀ t, m.profile ≠ .table t) :
    (m.recap true v pos).plan.peak ≤ 250 ∧ (m.recap true v pos).plan.start ≤ 250 := by
  obtain ⟨v0, vt, pr, hp⟩ : ∃ v0 vt pr, m.profile = .linear v0 vt pr ∨ m.profile = .sCurve v0 vt pr := by
    cases h : m.profile with
    | linear v0 vt pr => exact ⟨v0, vt, pr, .inl rfl⟩
    | sCurve v0 vt pr => exact ⟨v0, vt, pr, .inr rfl⟩
    | table t => exact absurd h (ht t)
  obtain ⟨hpeak, hstart⟩ := profilePlan.linearPlan_le m.base (m.place pos) (m.profileLeft pos) (capped true m.limit) v0 vt pr
  have hcap : capped true m.limit ≤ 250 := Nat.min_le_right _ _
  rw [Move.recap_plan _ _ hf, Move.newPlan_ramp hp]
  exact ⟨by dsimp only; omega, by dsimp only; omega⟩

/-- At a clearing the new plan rises to the top speed of the move where the way is long enough, and ramps down from halfway
where it is not (R113, R128). -/
theorem Move.recap_rises {m : Move} {pos : Int} (v : Nat) {v0 vt pr full : Nat} (hf : m.final pos = false)
    (hp : m.profile = .linear v0 vt pr ∨ m.profile = .sCurve v0 vt pr)
    (hfull : placeOf v0 vt pr (min vt m.limit) = full) :
    (2 * (full : Int) ≤ m.place pos + m.base + m.profileLeft pos →
      (m.recap false v pos).plan.peak = min vt m.limit ∧ (m.recap false v pos).plan.ramp = full)
    ∧ (m.place pos + m.base + m.profileLeft pos < 2 * (full : Int) → m.base < full →
      (m.recap false v pos).plan.peak ≤ min vt m.limit
        ∧ (m.recap false v pos).plan.ramp = (m.place pos + m.base + m.profileLeft pos) / 2) := by
  rw [Move.recap_plan _ _ hf, Move.newPlan_ramp hp]
  exact ⟨fun h => profilePlan.linearPlan_long hfull h, fun h hb =>
    ⟨(profilePlan.linearPlan_le ..).1, profilePlan.linearPlan_short hfull hb h⟩⟩

/-! ### The event of the warning field -/

section warning

variable {s : State} {v : Bool}

/-- The state in which the warning field has just changed its level. -/
def State.warned (s : State) (v : Bool) : State := (s.atEvent .warning).senses .warning v

/-- Axes at rest, and axes that ramp to rest, leave the change to its report (R128, R155). -/
theorem exec_warningField_rest (hl : s.inputs.warning ≠ v) (hm : s.inputs.missing .warning = 0)
    (h : (∀ a, (s.gantry.axes.get a).move = none) ∨ ∃ w, s.gantry.motion = .toRest w) :
    exec (.warningField v) s = .next ((s.warned v).report (.guard .warning v s.cell.run false none none)).ended := by
  refine exec_sensor_stood_ended (c := .warningField v) rfl hm hl ?_ rfl rfl
  by_cases hw : ∃ w, s.gantry.motion = .toRest w
  · obtain ⟨w, hw⟩ := hw
    exact State.inputEvent_warning_toRest (s := s.atEvent _) hl hw
  · rw [State.inputEvent_warning_recap (s := s.atEvent _) hl (fun w e => hw ⟨w, e⟩),
      show (s.atEvent .warning).gantry = s.gantry from rfl, Gantry.recap_of_rest (h.resolve_right hw)]
    rfl

/-- Otherwise every moving axis takes the cap first (R128, R155). -/
theorem exec_warningField_recap (hl : s.inputs.warning ≠ v) (hm : s.inputs.missing .warning = 0)
    (hw : ∀ w, s.gantry.motion ≠ .toRest w) : exec (.warningField v) s =
      .next (((s.warned v).setGantry (s.gantry.recap v ((s.job.map Job.speed).getD 0))).report
        (.guard .warning v s.cell.run false none none)).settle := by
  rw [exec_sensor_stood (c := .warningField v) rfl hm hl, State.inputEvent_warning_recap (s := s.atEvent _) hl hw]
  rfl

end warning

/-- Settles O51: the axes at rest or ramping to rest, and the plan that each moving axis makes anew. -/
theorem warningFieldSetsTheSpeedCap : Obligations.WarningFieldSetsTheSpeedCap := by
  refine fun s v => ⟨fun hl hc => exec_sensor_steady (c := .warningField v) rfl hc hl,
    fun hl hm => ⟨exec_warningField_rest hl hm, ?_⟩⟩
  by_cases hw : ∃ w, s.gantry.motion = .toRest w
  · have he := (exec_warningField_rest hl hm (.inr hw)).trans (congrArg _ (State.settle_ended _ rfl rfl).symm)
    refine ⟨_, he, rfl, fun a => ?_⟩
    cases hmv : (s.gantry.axes.get a).move with
    | none => rfl
    | some m =>
      obtain ⟨w, hw⟩ := hw
      refine ⟨m, ?_, rfl, rfl, rfl, fun _ h => absurd hw (h w), fun _ => rfl, fun _ _ => rfl, fun _ h => absurd hw (h w)⟩
      rw [← hmv]
      rfl
  · have hw' : ∀ w, s.gantry.motion ≠ .toRest w := fun w e => hw ⟨w, e⟩
    refine ⟨_, exec_warningField_recap hl hm hw', rfl, fun a => ?_⟩
    have ha := s.gantry.recap_axis v ((s.job.map Job.speed).getD 0) a
    cases hmv : (s.gantry.axes.get a).move with
    | none => exact ha.trans (by rw [hmv, Option.map_none, ← hmv])
    | some m =>
      rw [hmv] at ha
      refine ⟨_, ha, by simp, by simp, by simp, ?_, fun h => absurd h hw, fun hf hc => ?_, ?_⟩
      · rintro rfl - hf ht
        exact Move.recap_le_cap _ hf ht
      · exact Move.recap_of_final _ _ hf hc
      · rintro rfl - hf
        refine ⟨Move.recap_origin _ _ hf, Move.recap_coord _ _ hf, Move.recap_base _ _ hf, ?_, ?_⟩
        · rw [Move.recap_plan _ _ hf]
        · rintro v0 vt pr top full way hp hv rfl h0 h1 h2 rfl
          exact Move.recap_rises _ hf hp (placeOf_eq hv h0 h1 h2)

end Sys2Proof.Machine
end

section
/-! SUPPORT. What the operations on a station, its plan and its stack leave of the rest of the part: the job, the lanes, the
spill table, the magazine, the gantry, the gripper and the cell. One lemma per operation, beside those about `State.fixed`. -/

namespace Sys2Proof.Machine

/-- The part beside its stations and slots, its inputs and its link. -/
structure Floor where
  job : Option Job
  lanes : PerLane Lane
  spill : Nat
  magazine : Nat
  gantry : Gantry
  gripper : Gripper
  cell : CellGuard
  awaitDue : Bool

def State.floor (s : State) : Floor :=
  ⟨s.job, s.lanes, s.spill, s.magazine, s.gantry, s.gripper, s.cell, s.awaitDue⟩

@[simp] theorem State.setPlan_floor (s : State) (st : StationId) (p : Plan) : (s.setPlan st p).floor = s.floor := rfl
@[simp] theorem State.setStack_floor (s : State) (st : StationId) (k : Stack) : (s.setStack st k).floor = s.floor := rfl
@[simp] theorem State.setStn_floor (s : State) (st : StationId) (n : Station) : (s.setStn st n).floor = s.floor := rfl
@[simp] theorem State.setStall_floor (s : State) (st : StationId) (b : Bool) : (s.setStall st b).floor = s.floor := rfl
@[simp] theorem State.setSlot_floor (s : State) (i : SlotId) (x : Slot) : (s.setSlot i x).floor = s.floor := rfl
@[simp] theorem State.dispatchEvent_floor (s : State) : s.dispatchEvent.floor = s.floor := rfl
@[simp] theorem State.report_floor (s : State) (b : ReportBody) : (s.report b).floor = s.floor := rfl

theorem State.foldl_floor {α : Type} (f : State → α → State) (h : ∀ t a, (f t a).floor = t.floor) (l : List α)
    (s : State) : (l.foldl f s).floor = s.floor := by
  induction l generalizing s with
  | nil => rfl
  | cons a l ih => rw [List.foldl_cons, ih, h]

@[simp] theorem State.reschedule_floor (s : State) (st : StationId) : (s.reschedule st).floor = s.floor := by
  unfold State.reschedule
  dsimp only
  split <;> simp

@[simp] theorem State.stallTest_floor (s : State) (st : StationId) : (s.stallTest st).floor = s.floor := by
  unfold State.stallTest
  dsimp only
  (repeat' split) <;> simp

@[simp] theorem State.setVerdict_floor (s : State) (st : StationId) (c : Cand) (v : Verdict) :
    (s.setVerdict st c v).floor = s.floor := by
  unfold State.setVerdict
  split <;> simp

@[simp] theorem State.setSweep_floor (s : State) (st : StationId) (w : Sweep) : (s.setSweep st w).floor = s.floor := rfl

@[simp] theorem State.sweepEnd_floor (s : State) (st : StationId) : (s.sweepEnd st).floor = s.floor := by
  simp [State.sweepEnd]

@[simp] theorem State.startSweep_floor (s : State) (st : StationId) : (s.startSweep st).floor = s.floor := by
  unfold State.startSweep
  dsimp only
  split <;> simp [State.foldl_floor]

@[simp] theorem State.sweepTrigger_floor (s : State) (st : StationId) : (s.sweepTrigger st).floor = s.floor := by
  unfold State.sweepTrigger
  split <;> simp

@[simp] theorem State.sweepResume_floor (s : State) (st : StationId) : (s.sweepResume st).floor = s.floor := by
  unfold State.sweepResume
  split <;> simp

@[simp] theorem State.noteVoid_floor (s : State) (st : StationId) (id : Nat) : (s.noteVoid st id).floor = s.floor := by
  unfold State.noteVoid
  split <;> simp

@[simp] theorem State.stationSet_floor (s : State) (st : StationId) (m : Mode) (early : Bool) :
    (s.stationSet st m early).floor = s.floor := by
  unfold State.stationSet
  dsimp only
  split <;> simp

@[simp] theorem State.endOfQueue_floor (s : State) (st : StationId) : (s.endOfQueue st).floor = s.floor := by
  unfold State.endOfQueue
  dsimp only
  split <;> simp

@[simp] theorem State.returnToBuilding_floor (s : State) (st : StationId) : (s.returnToBuilding st).floor = s.floor := by
  simp [State.returnToBuilding]

@[simp] theorem State.staleScanSlot_floor (s : State) (i : SlotId) : (s.staleScanSlot i).floor = s.floor := by
  unfold State.staleScanSlot
  (repeat' split) <;> simp

@[simp] theorem State.staleScan_floor (s : State) : s.staleScan.floor = s.floor :=
  State.foldl_floor _ State.staleScanSlot_floor _ s

@[simp] theorem State.layerDone_floor (s : State) (st : StationId) (l : Layer) : (s.layerDone st l).floor = s.floor := by
  unfold State.layerDone
  split <;> simp

@[simp] theorem State.examineLayers_floor (s : State) (st : StationId) : (s.examineLayers st).floor = s.floor := by
  unfold State.examineLayers
  dsimp only
  (repeat' split) <;> simp [State.foldl_floor]

@[simp] theorem State.setPState_floor (s : State) (st : StationId) (id : Nat) (x : PState) :
    (s.setPState st id x).floor = s.floor := by
  simp [State.setPState]

@[simp] theorem State.returnPlacement_floor (s : State) (st : StationId) (id : Nat) (abandoned : Bool) :
    (s.returnPlacement st id abandoned).floor = s.floor := by
  unfold State.returnPlacement
  (repeat' split) <;> simp

@[simp] theorem State.sheetJobOver_floor (s : State) (st : StationId) : (s.sheetJobOver st).floor = s.floor := by
  simp [State.sheetJobOver]

@[simp] theorem State.handBack_floor (s : State) : s.handBack.floor = s.floor := by
  unfold State.handBack
  (repeat' split) <;> simp

/-! ### The end of a job -/

/-- The drop of a reservation touches the job's reservation alone (R54). -/
theorem State.dropReservation_floor {s : State} {j : Job} (h : s.job = some j) :
    s.dropReservation.floor = { s.floor with job := some { j with reservation := none } } := by
  unfold State.dropReservation
  rw [h]
  dsimp only
  split
  · rfl
  · rw [State.sweepResume_floor]
    rfl

theorem State.sheetGone_floor (s : State) (j : Job) :
    (s.sheetGone j).floor = { s.floor with magazine := (s.sheetGone j).magazine } := by
  unfold State.sheetGone
  split <;> rfl

theorem State.finishCell_floor (s : State) : s.finishCell.floor = { s.floor with cell := s.finishCell.cell } := by
  unfold State.finishCell
  split <;> rfl

/-- The job end at its source touches its lane, or its slot with the moment of R103, alone (R76, R82). -/
theorem State.sourceEnd_floor (s : State) (src : Source) : (s.sourceEnd src).floor =
    { s.floor with lanes := (s.sourceEnd src).lanes, awaitDue := (s.sourceEnd src).awaitDue } := by
  unfold State.sourceEnd
  dsimp only
  (repeat' split) <;> rfl

/-- At a source that is no pick point in PICKING it touches no lane. -/
theorem State.sourceEnd_lanes {s : State} {src : Source} (h : ∀ l, src = .lane l → (s.lanes.get l).pick ≠ .picking) :
    (s.sourceEnd src).lanes = s.lanes := by
  unfold State.sourceEnd
  cases src with
  | magazine => rfl
  | lane l => simp only [h l rfl, if_false]
  | slot i => dsimp only; (repeat' split) <;> rfl

/-- The job end up to its source: the placement is handed back, the job record removed, and its station examined (R29, R89, R98). -/
def State.jobOff (s : State) (j : Job) : State :=
  let s := (s.handBack.setJob none).sheetGone j
  let s :=
    match j.kind, j.dest with
    | .sheet, some (.sheet st) => s.sheetJobOver st
    | _, _ => s
  match j.station with
  | some st => s.endOfQueue st
  | none => s

/-- The stall test of the station of a job that has ended, if it was bound to one (R105). -/
def State.stallTestAt (s : State) (st : Option StationId) : State :=
  match st with
  | some st => s.stallTest st
  | none => s

/-- The end of a job in its three parts: at its station, at its source, and at the cell and the Dispatcher. -/
theorem State.jobEnd_eq {s : State} {j : Job} (h : s.job = some j) :
    s.jobEnd = (((s.jobOff j).sourceEnd j.source).stallTestAt j.station).finishCell.dispatchEvent := by
  simp only [State.jobEnd, h]
  rfl

@[simp] theorem State.jobEnd_of_none {s : State} (h : s.job = none) : s.jobEnd = s := by
  simp only [State.jobEnd, h]

@[simp] theorem State.stallTestAt_floor (s : State) (st : Option StationId) : (s.stallTestAt st).floor = s.floor := by
  unfold State.stallTestAt
  split <;> simp

theorem State.jobOff_floor (s : State) (j : Job) :
    (s.jobOff j).floor = { s.floor with job := none, magazine := (s.jobOff j).magazine } := by
  have h : ((s.handBack.setJob none).sheetGone j).floor =
      { s.floor with job := none, magazine := ((s.handBack.setJob none).sheetGone j).magazine } := by
    rw [State.sheetGone_floor, ← s.handBack_floor]
    rfl
  have hs : (s.jobOff j).floor = ((s.handBack.setJob none).sheetGone j).floor := by
    unfold State.jobOff
    dsimp only
    (repeat' split) <;> simp
  have hm : (s.jobOff j).magazine = ((s.handBack.setJob none).sheetGone j).magazine := congrArg Floor.magazine hs
  rw [hs, h, hm]

/-- The end of a job removes its record, and touches neither gantry nor gripper nor spill table. -/
theorem State.jobEnd_floor (s : State) : s.jobEnd.floor = { s.floor with
    job := none, lanes := s.jobEnd.lanes, magazine := s.jobEnd.magazine, cell := s.jobEnd.cell,
    awaitDue := s.jobEnd.awaitDue } := by
  cases h : s.job with
  | none =>
    rw [State.jobEnd_of_none h, ← h]
    rfl
  | some j =>
    have hf := (((s.jobOff j).sourceEnd j.source).stallTestAt j.station).finishCell_floor
    rw [State.stallTestAt_floor, State.sourceEnd_floor, State.jobOff_floor] at hf
    rw [State.jobEnd_eq h, State.dispatchEvent_floor, hf]
    simp only [Floor.mk.injEq, true_and]
    exact ⟨(congrArg Floor.lanes hf).symm, (congrArg Floor.magazine hf).symm, rfl, (congrArg Floor.awaitDue hf).symm⟩

@[simp] theorem State.jobEnd_job (s : State) : s.jobEnd.job = none := congrArg Floor.job s.jobEnd_floor
@[simp] theorem State.jobEnd_gantry (s : State) : s.jobEnd.gantry = s.gantry := congrArg Floor.gantry s.jobEnd_floor
@[simp] theorem State.jobEnd_gripper (s : State) : s.jobEnd.gripper = s.gripper := congrArg Floor.gripper s.jobEnd_floor
@[simp] theorem State.jobEnd_spill (s : State) : s.jobEnd.spill = s.spill := congrArg Floor.spill s.jobEnd_floor

/-- The end of a job whose source is no pick point in PICKING touches no lane (R76). -/
theorem State.jobEnd_lanes {s : State} (h : ∀ j l, s.job = some j → j.source = .lane l → (s.lanes.get l).pick ≠ .picking) :
    s.jobEnd.lanes = s.lanes := by
  cases hj : s.job with
  | none => simp [hj]
  | some j =>
    have ho : (s.jobOff j).lanes = s.lanes := congrArg Floor.lanes (s.jobOff_floor j)
    have hf := (((s.jobOff j).sourceEnd j.source).stallTestAt j.station).finishCell_floor
    rw [State.stallTestAt_floor] at hf
    rw [State.jobEnd_eq hj]
    calc _ = ((s.jobOff j).sourceEnd j.source).lanes := congrArg Floor.lanes hf
      _ = (s.jobOff j).lanes := State.sourceEnd_lanes fun l hl => by rw [ho]; exact h j l hj hl
      _ = s.lanes := ho

end Sys2Proof.Machine
end

section
/-! SUPPORT. How many reports the operations on a station enqueue at most, and of which kinds: where the queue has room for them
they stand behind the reports that waited (R173, R175). -/

namespace Sys2Proof.Machine

/-- Between `s` and `t` at most `n` reports are enqueued, all of a kind `p`: where the queue has room for `n` they stand behind
the reports that waited. -/
def State.Adds (p : ReportBody → Bool) (n : Nat) (s t : State) : Prop :=
  s.link.reports.length + n ≤ Config.reportMax →
    ∃ l, t.link.reports = s.link.reports ++ l ∧ l.length ≤ n ∧ ∀ r ∈ l, p r.body = true

section adds

variable {p : ReportBody → Bool} {n m : Nat} {s t u : State}

theorem State.Adds.of_link_eq (h : t.link = s.link) : State.Adds p 0 s t :=
  fun _ => ⟨[], by simp [h], Nat.le_refl _, fun r hr => absurd hr (List.not_mem_nil)⟩

theorem State.Adds.refl (p : ReportBody → Bool) (s : State) : State.Adds p 0 s s := .of_link_eq rfl

theorem State.Adds.mono (h : State.Adds p n s t) (hn : n ≤ m) : State.Adds p m s t := fun hr =>
  let ⟨l, hl, hlen, hp⟩ := h (by omega)
  ⟨l, hl, by omega, hp⟩

theorem State.Adds.imp {q : ReportBody → Bool} (h : State.Adds p n s t) (hq : ∀ b, p b = true → q b = true) :
    State.Adds q n s t := fun hr =>
  let ⟨l, hl, hlen, hp⟩ := h hr
  ⟨l, hl, hlen, fun r hm => hq _ (hp r hm)⟩

theorem State.Adds.trans (h : State.Adds p n s t) (k : State.Adds p m t u) : State.Adds p (n + m) s u := fun hr => by
  obtain ⟨l, hl, hlen, hp⟩ := h (by omega)
  obtain ⟨l', hl', hlen', hp'⟩ := k (by rw [hl, List.length_append]; omega)
  refine ⟨l ++ l', by rw [hl', hl, List.append_assoc], by rw [List.length_append]; omega, fun r hr => ?_⟩
  exact (List.mem_append.mp hr).elim (hp r) (hp' r)

/-- A change that leaves the queue of reports, ahead of the reports. -/
theorem State.Adds.after (k : State.Adds p n t u) (h : t.link = s.link) : State.Adds p n s u :=
  ((State.Adds.of_link_eq h).trans k).mono (by omega)

/-- A change that leaves the queue of reports, behind the reports. -/
theorem State.Adds.before (k : State.Adds p n s t) (h : u.link = t.link) : State.Adds p n s u :=
  k.trans (.of_link_eq h)

/-- A report that finds room stands last (R173). -/
theorem State.report_reports (s : State) (b : ReportBody) (h : s.link.reports.length < Config.reportMax) :
    (s.report b).link.reports = s.link.reports ++ [⟨b, b.cls, s.clock % 4294967296⟩] := by
  simp [State.report, Link.enqueue, h]

theorem State.adds_report (s : State) {b : ReportBody} (hb : p b = true) : State.Adds p 1 s (s.report b) := fun h =>
  ⟨_, s.report_reports b (by omega), Nat.le_refl _, fun r hr => by rw [List.mem_singleton.mp hr]; exact hb⟩

theorem State.adds_foldl {α : Type} {f : State → α → State} (h : ∀ t a, State.Adds p n t (f t a)) (l : List α) (s : State) :
    State.Adds p (l.length * n) s (l.foldl f s) := by
  induction l generalizing s with
  | nil => exact (State.Adds.refl p s).mono (Nat.zero_le _)
  | cons a l ih =>
    rw [List.length_cons, Nat.succ_mul, Nat.add_comm]
    exact (h s a).trans (ih (f s a))

end adds

/-! ### Operations on a station -/

/-- The kinds of report that an operation on a station or a slot enqueues. -/
def ReportBody.ofStation : ReportBody → Bool
  | .layerDone .. | .stall .. | .station .. | .schedule .. | .slot .. => true
  | _ => false

/-- Between two states an operation on a station enqueues at most `n` reports. -/
abbrev State.AddsStation (n : Nat) (s t : State) : Prop := State.Adds ReportBody.ofStation n s t

section station

variable (s : State) (st : StationId)

theorem State.reschedule_adds : State.AddsStation 1 s (s.reschedule st) := by
  unfold State.reschedule
  dsimp only
  split
  · exact (State.Adds.of_link_eq rfl).mono (Nat.zero_le _)
  · exact (State.adds_report _ rfl).after rfl

theorem State.stallTest_adds : State.AddsStation 1 s (s.stallTest st) := by
  unfold State.stallTest
  dsimp only
  split
  · exact (State.Adds.refl _ s).mono (Nat.zero_le _)
  · split
    · split
      · exact (State.Adds.refl _ s).mono (Nat.zero_le _)
      · split
        · exact (State.adds_report _ rfl).after rfl
        · exact (State.Adds.of_link_eq rfl).mono (Nat.zero_le _)
    · exact (State.Adds.of_link_eq rfl).mono (Nat.zero_le _)

/-- The stall test of a station that is not BUILDING reports nothing (R105). -/
theorem State.stallTest_link (h : (s.stn.get st).mode ≠ .plain .building) : (s.stallTest st).link = s.link := by
  have hs : s.stalled st = false := by simp [State.stalled, h]
  simp [State.stallTest, h, hs]

theorem State.setVerdict_link (c : Cand) (v : Verdict) : (s.setVerdict st c v).link = s.link := by
  unfold State.setVerdict; split <;> rfl

theorem State.sweepEnd_adds : State.AddsStation 1 s (s.sweepEnd st) :=
  (State.stallTest_adds _ st).after rfl

theorem State.startSweep_adds : State.AddsStation 1 s (s.startSweep st) := by
  have hv : State.AddsStation 0 s ((s.plan.get st).candidates.foldl (fun s c => s.setVerdict st c .unswept) s) := by
    simpa using State.adds_foldl (n := 0) (fun t c => .of_link_eq (t.setVerdict_link st c .unswept))
      (s.plan.get st).candidates s
  unfold State.startSweep
  dsimp only
  split
  · exact hv.trans ((State.sweepEnd_adds _ st).after (by rfl))
  · exact (hv.before rfl).mono (Nat.zero_le _)

theorem State.sweepResume_adds : State.AddsStation 1 s (s.sweepResume st) := by
  unfold State.sweepResume
  split
  · exact s.startSweep_adds st
  · exact (State.Adds.refl _ s).mono (Nat.zero_le _)

@[simp] theorem State.reschedule_mode : ((s.reschedule st).stn.get st).mode = (s.stn.get st).mode := by
  unfold State.reschedule
  dsimp only
  split <;> simp

/-- A station that leaves BUILDING reports its change and its schedule alone (R156). -/
theorem State.stationSet_adds {m : Mode} (early : Bool) (h : m ≠ .plain .building) :
    State.AddsStation 2 s (s.stationSet st m early) := by
  unfold State.stationSet
  dsimp only
  split
  · exact (State.Adds.refl _ s).mono (Nat.zero_le _)
  · have hr : State.AddsStation 1 s ((s.setStn st { s.stn.get st with mode := m }).report (.station st (s.stn.get st).mode m early)) :=
      State.adds_report _ rfl
    have hd := (hr.trans (State.reschedule_adds _ st)).before (State.dispatchEvent_link _)
    exact hd.before (State.stallTest_link _ st (by simpa using h))

theorem State.endOfQueue_adds : State.AddsStation 2 s (s.endOfQueue st) := by
  unfold State.endOfQueue
  dsimp only
  split
  · exact s.stationSet_adds st false (by split <;> simp)
  · exact (State.Adds.refl _ s).mono (Nat.zero_le _)

theorem State.staleScanSlot_adds (i : SlotId) : State.AddsStation 1 s (s.staleScanSlot i) := by
  unfold State.staleScanSlot
  split
  · split
    · split
      · exact (State.Adds.refl _ s).mono (Nat.zero_le _)
      · exact (State.adds_report (s.setSlot i _) (b := .slot i .held .stale _) rfl).before rfl
    · exact (State.Adds.of_link_eq rfl).mono (Nat.zero_le _)
  · exact (State.Adds.refl _ s).mono (Nat.zero_le _)

theorem State.staleScan_adds : State.AddsStation 8 s s.staleScan :=
  (State.adds_foldl State.staleScanSlot_adds allSlots s).mono (by decide)

theorem State.setPState_adds (id : Nat) (x : PState) : State.AddsStation 9 s (s.setPState st id x) := by
  unfold State.setPState
  exact (State.reschedule_adds (s.setPlan st _) st).trans (State.staleScan_adds _)

/-- A placement whose plan stands goes back to PENDING with its one schedule and stale scan (R24). -/
theorem State.returnPlacement_adds (id : Nat) : State.AddsStation 9 s (s.returnPlacement st id false) := by
  unfold State.returnPlacement
  split
  · split
    · exact s.setPState_adds st id .pending
    · exact (State.Adds.refl _ s).mono (Nat.zero_le _)
  · exact (State.Adds.refl _ s).mono (Nat.zero_le _)

end station

/-! ### The end of a job -/

theorem State.handBack_adds {s : State} (h : ∀ j, s.job = some j → j.abandoned = false) : State.AddsStation 9 s s.handBack := by
  unfold State.handBack
  split
  · exact (State.Adds.refl _ s).mono (Nat.zero_le _)
  next j hj =>
    split
    next st id _ _ => rw [h j hj]; exact s.returnPlacement_adds st id
    · exact (State.Adds.refl _ s).mono (Nat.zero_le _)

theorem State.dropReservation_adds (s : State) : State.AddsStation 1 s s.dropReservation := by
  unfold State.dropReservation
  dsimp only
  split
  · exact (State.Adds.refl _ s).mono (Nat.zero_le _)
  · split
    · exact (State.Adds.of_link_eq rfl).mono (Nat.zero_le _)
    · exact (State.sweepResume_adds _ _).after rfl

/-- The end of a job that is no SHEET job and whose plan stands, up to its source. -/
theorem State.jobOff_adds {s : State} {j : Job} (hj : s.job = some j) (hk : j.kind ≠ .sheet) (ha : j.abandoned = false) :
    State.AddsStation 11 s (s.jobOff j) := by
  have h1 := State.handBack_adds (s := s) fun k hk => by rw [hj] at hk; cases hk; exact ha
  have h2 : ((s.handBack.setJob none).sheetGone j).link = s.handBack.link := by unfold State.sheetGone; split <;> rfl
  unfold State.jobOff
  dsimp only
  split
  · split
    next hs _ => exact absurd hs hk
    exact h1.trans ((State.endOfQueue_adds _ _).after h2)
  · split
    next hs _ => exact absurd hs hk
    exact (h1.before h2).mono (by omega)

/-- The end of a job that is no SHEET job, whose plan stands, and whose source is a lane that is not in PICKING. -/
theorem State.jobEnd_adds {s : State} {j : Job} {l : LaneId} (hj : s.job = some j) (hk : j.kind ≠ .sheet)
    (ha : j.abandoned = false) (hs : j.source = .lane l) (hp : (s.lanes.get l).pick ≠ .picking) :
    State.AddsStation 12 s s.jobEnd := by
  have hl : (s.jobOff j).lanes = s.lanes := congrArg Floor.lanes (s.jobOff_floor j)
  have hsrc : (s.jobOff j).sourceEnd j.source = s.jobOff j := by simp [State.sourceEnd, hs, hl, hp]
  have htest : State.AddsStation 1 (s.jobOff j) ((s.jobOff j).stallTestAt j.station) := by
    unfold State.stallTestAt
    split
    · exact State.stallTest_adds _ _
    · exact (State.Adds.refl _ _).mono (Nat.zero_le _)
  rw [State.jobEnd_eq hj, hsrc]
  refine ((State.jobOff_adds hj hk ha).trans htest).before ?_
  unfold State.finishCell
  split <;> rfl

end Sys2Proof.Machine
end

section
/-! SUPPORT. The cancel of a job (R99): what it leaves of the gantry, the lanes and the job, and which reports it enqueues. -/

namespace Sys2Proof.Machine

/-! ### The gantry once its job is cancelled -/

theorem LinState.toRest_eq (a : LinState) : a.toRest = a.resting := by
  unfold LinState.toRest LinState.resting
  split
  next h => rw [h]; exact congrArg (LinState.mk a.counter a.homed) h
  next m h => rw [h]; split <;> simp [*]

/-- Axes that ramp to rest already go on as they do. -/
theorem Gantry.ramping_of_toRest {g : Gantry} {v : RestFor} (h : g.motion = .toRest v) (w : RestFor) :
    g.ramping w = { g with motion := .toRest w } := by
  simp only [Gantry.ramping, h]

/-- Any other motion is cut to the ramps of the linear axes. -/
theorem Gantry.ramping_of_ne {g : Gantry} (h : ∀ v, g.motion ≠ .toRest v) (w : RestFor) :
    g.ramping w = { g with motion := .toRest w, axes := g.axes.map LinState.resting } := by
  unfold Gantry.ramping
  split
  next v e => exact absurd e (h v)
  next => rfl

theorem State.rampAll_eq (s : State) (w : RestFor) : s.rampAll w = s.setGantry (s.gantry.ramping w) := by
  have hrest : LinState.toRest = LinState.resting := funext LinState.toRest_eq
  unfold State.rampAll
  dsimp only
  split
  next v h =>
    rw [Gantry.ramping_of_toRest h]
    rfl
  next h => rw [Gantry.ramping_of_ne h, hrest]

theorem State.gantryTo_adds (s : State) (x : GState) {p : ReportBody → Bool}
    (hp : ∀ g c t v j k, p (.gantry g c t v j k) = true) : State.Adds p 1 s (s.gantryTo x) := by
  unfold State.gantryTo
  split
  · exact (State.Adds.refl _ s).mono (Nat.zero_le _)
  · have hr : State.Adds p 1 s ((s.setGantry { s.gantry with state := x }).gantryReport none) :=
      State.adds_report (s.setGantry { s.gantry with state := x }) (hp ..)
    dsimp only
    split
    · exact hr.before rfl
    · exact hr

/-- The gantry's part of a cancel, in its three forms (R123). -/
theorem State.cancelGantry_cases (s : State) :
    s.cancelGantry = s.setGantry s.gantry.cancelled
    ∨ ∃ g, s.cancelGantry = (s.setGantry g).gantryTo .idle ∧ { g with state := .idle } = s.gantry.cancelled := by
  unfold State.cancelGantry
  split
  next h =>
    rw [State.rampAll_eq]
    unfold State.settleMotion
    split
    next hm => exact .inl (by simp_all [Gantry.cancelled])
    next hm =>
      have hm : (s.gantry.ramping .cancel).moving = false := by simpa using hm
      refine .inr ⟨{ s.gantry.ramping .cancel with motion := .none }, rfl, ?_⟩
      simp only [Gantry.cancelled, h, hm]
      rfl
  next h => exact .inr ⟨s.gantry, rfl, by simp [Gantry.cancelled, h]⟩
  next hb hs =>
    have hg : s.gantry.cancelled = s.gantry := by unfold Gantry.cancelled; split <;> simp_all
    rw [hg]
    exact .inl rfl

theorem State.cancelGantry_eq (s : State) : s.cancelGantry = { s with
    gantry := s.gantry.cancelled, link := s.cancelGantry.link, evalDue := s.cancelGantry.evalDue } := by
  obtain h | ⟨g, h, hg⟩ := s.cancelGantry_cases
  · rw [h]
    rfl
  · rw [h, State.gantryTo_eq, ← hg]
    rfl

@[simp] theorem State.cancelGantry_gantry (s : State) : s.cancelGantry.gantry = s.gantry.cancelled := by
  rw [s.cancelGantry_eq]
@[simp] theorem State.cancelGantry_job (s : State) : s.cancelGantry.job = s.job := by rw [s.cancelGantry_eq]
@[simp] theorem State.cancelGantry_lanes (s : State) : s.cancelGantry.lanes = s.lanes := by rw [s.cancelGantry_eq]

theorem State.cancelGantry_adds (s : State) {p : ReportBody → Bool}
    (hp : ∀ g c t v j k, p (.gantry g c t v j k) = true) : State.Adds p 1 s s.cancelGantry := by
  obtain h | ⟨g, h, -⟩ := s.cancelGantry_cases
  · rw [h]
    exact (State.Adds.of_link_eq rfl).mono (Nat.zero_le _)
  · rw [h]
    exact (State.gantryTo_adds _ _ hp).after rfl

/-! ### The job -/

/-- A job's part at its station given up: its placement handed back, its reservation dropped and a grip being built ended (R99). -/
def State.claimOff (s : State) : State := s.handBack.dropReservation.gripAbandon

/-- A grip that is given up touches the gripper alone. -/
theorem State.gripAbandon_eq (s : State) : s.gripAbandon = { s with gripper := s.gripAbandon.gripper } := by
  unfold State.gripAbandon
  split <;> rfl

theorem State.claimOff_floor {s : State} {j : Job} (h : s.job = some j) : s.claimOff.floor =
    { s.floor with job := some { j with reservation := none }, gripper := s.claimOff.gripper } := by
  have hj : s.handBack.job = some j := (congrArg Floor.job s.handBack_floor).trans h
  have hd := State.dropReservation_floor hj
  rw [State.handBack_floor] at hd
  unfold State.claimOff
  rw [State.gripAbandon_eq]
  exact congrArg (fun f : Floor => { f with gripper := s.handBack.dropReservation.gripAbandon.gripper }) hd

section lane

variable {s : State} {j : Job} {l : LaneId}

/-- The cancel of a job whose source is a lane without a front case, in its three parts (R99). -/
theorem State.cancelJob_eq (h : s.job = some j) (hs : j.source = .lane l) (hp : (s.lanes.get l).pick ≠ .front) :
    s.cancelJob = s.claimOff.jobEnd.cancelGantry := by
  have hj : s.handBack.job = some j := (congrArg Floor.job s.handBack_floor).trans h
  have hl : s.handBack.dropReservation.lanes = s.lanes :=
    (congrArg Floor.lanes (State.dropReservation_floor hj)).trans (congrArg Floor.lanes s.handBack_floor)
  simp [State.cancelJob, State.claimOff, State.sourceBack, h, hs, hl, hp]

theorem State.cancelJob_job (h : s.job = some j) : s.cancelJob.job = none := by
  simp [State.cancelJob, h]

theorem State.cancelJob_gantry (h : s.job = some j) (hs : j.source = .lane l) (hp : (s.lanes.get l).pick ≠ .front) :
    s.cancelJob.gantry = s.gantry.cancelled := by
  rw [State.cancelJob_eq h hs hp, State.cancelGantry_gantry, State.jobEnd_gantry]
  exact congrArg (fun f => f.gantry.cancelled) (State.claimOff_floor h)

/-- A cancelled job whose lane has no case at its pick point for it leaves the lanes as they are (R76). -/
theorem State.cancelJob_lanes (h : s.job = some j) (hs : j.source = .lane l) (hp : (s.lanes.get l).pick = .empty) :
    s.cancelJob.lanes = s.lanes := by
  have hf := State.claimOff_floor h
  have hj : s.claimOff.job = some { j with reservation := none } := congrArg Floor.job hf
  have hl : s.claimOff.lanes = s.lanes := congrArg Floor.lanes hf
  rw [State.cancelJob_eq h hs (by simp [hp]), State.cancelGantry_lanes, State.jobEnd_lanes, hl]
  intro k m hk hm
  rw [hj] at hk
  cases hk
  cases hs.symm.trans hm
  simp [hl, hp]

/-- The kinds of report that the cancel of a job enqueues: those of its station and slots, and the gantry's. -/
def ReportBody.ofCancel : ReportBody → Bool
  | .gantry .. => true
  | b => b.ofStation

theorem ReportBody.ofCancel_of_ofStation (b : ReportBody) (h : b.ofStation = true) : b.ofCancel = true := by
  unfold ReportBody.ofCancel
  split
  · rfl
  · exact h

/-- The cancel of a job that is no SHEET job, and whose plan stands, enqueues at most 23 reports. -/
theorem State.cancelJob_adds (h : s.job = some j) (hs : j.source = .lane l) (hp : (s.lanes.get l).pick = .empty)
    (hk : j.kind ≠ .sheet) (ha : j.abandoned = false) : State.Adds ReportBody.ofCancel 23 s s.cancelJob := by
  have hf := State.claimOff_floor h
  have hj : s.claimOff.job = some { j with reservation := none } := congrArg Floor.job hf
  have hl : s.claimOff.lanes = s.lanes := congrArg Floor.lanes hf
  have hback : State.AddsStation 9 s s.handBack := State.handBack_adds fun k e => by rw [h] at e; cases e; exact ha
  have hoff : State.AddsStation 10 s s.claimOff :=
    (hback.trans s.handBack.dropReservation_adds).before (by rw [State.claimOff, State.gripAbandon_eq])
  have hend : State.AddsStation 12 s.claimOff s.claimOff.jobEnd := State.jobEnd_adds hj hk ha hs (by simp [hl, hp])
  rw [State.cancelJob_eq h hs (by simp [hp])]
  exact ((hoff.trans hend).imp ReportBody.ofCancel_of_ofStation).trans (State.cancelGantry_adds _ fun _ _ _ _ _ _ => rfl)

end lane

end Sys2Proof.Machine
end

section
/-! The pick point (R1, R73 to R77): cases arrive and leave. -/

namespace Sys2Proof.Machine

theorem PerLane.set_set {α : Type} (p : PerLane α) (l : LaneId) (v w : α) : (p.set l v).set l w = p.set l w := by
  cases l <;> rfl

section lane

variable {s : State} {l : LaneId} {r : ArrivalRec} {rest : List ArrivalRec} {why : Reason}

/-! ### The test of a purging lane -/

/-- A lane that does not purge, holds a record or holds a case stays as it is (R73). -/
theorem State.laneTest_stays
    (h : (s.lanes.get l).purging = false ∨ (s.lanes.get l).fifo ≠ [] ∨ s.inputs.laneEmpty.get l = false) :
    s.laneTest l = s := by
  unfold State.laneTest
  rcases h with h | h | h <;> simp [h]

/-- A purging lane without a record and without a case, outside a release, returns to RUN (R73). -/
theorem State.laneTest_returns (hp : (s.lanes.get l).purging = true) (hf : (s.lanes.get l).fifo = [])
    (he : s.inputs.laneEmpty.get l = true) (hg : (s.lanes.get l).pick = .empty) :
    s.laneTest l = (s.setLane l { s.lanes.get l with purging := false }).report (.laneRun l) := by
  simp [State.laneTest, Lane.endGate, hp, hf, he, hg]

/-- A case has left a lane, with its report: a lane that goes on purging, or does not purge, keeps what it was left. -/
theorem State.ranOff_stays {n : Lane} {b : ReportBody}
    (h : n.purging = false ∨ n.fifo ≠ [] ∨ s.inputs.laneEmpty.get l = false) :
    ((s.setLane l n).report b).laneTest l = (s.setLane l n).report b :=
  State.laneTest_stays (by simpa using h)

/-- The last case of a purging lane has left it, with its report: the lane returns to RUN, with a report behind that one. -/
theorem State.ranOff_returns {n : Lane} {b : ReportBody} (hp : n.purging = true) (hf : n.fifo = [])
    (he : s.inputs.laneEmpty.get l = true) (hg : n.pick = .empty) : ((s.setLane l n).report b).laneTest l =
      ((s.setLane l { n with purging := false }).report b).report (.laneRun l) := by
  have hn : ((s.setLane l n).report b).lanes.get l = n := by simp
  rw [State.laneTest_returns (by rw [hn, hp]) (by rw [hn, hf]) (by simpa using he) (by rw [hn, hg]), hn]
  simp only [State.setLane, State.report, PerLane.set_set]

/-! ### A release -/

/-- The release of a case with a record, whose record takes the reason it runs off with (R75). -/
theorem State.startRelease_head (hf : (s.lanes.get l).fifo = r :: rest) : s.startRelease l true why =
    s.setLane l { s.lanes.get l with
      fifo := { r with disp := .runOff why } :: rest, pick := .releasing true why, wait := 0 } := by
  simp [State.startRelease, Lane.headRunOff, ArrivalRec.runOff, hf]

theorem State.releaseEnd_head (hf : (s.lanes.get l).fifo = r :: rest) : s.releaseEnd l true why =
    ((s.setLane l { s.lanes.get l with pick := .empty, fifo := rest }).report
      (.runOff l why (some r.seq) r.code r.type)).laneTest l := by
  simp [State.releaseEnd, Lane.pop, hf]

theorem State.releaseEnd_none (s : State) {l : LaneId} {why : Reason} : s.releaseEnd l false why =
    ((s.setLane l { s.lanes.get l with pick := .empty }).report (.runOff l why none none none)).laneTest l := rfl

/-! ### A case arrives -/

theorem State.caseArrives_nil (hf : (s.lanes.get l).fifo = []) : s.caseArrives l =
    s.setLane l { s.lanes.get l with
      pick := .releasing false (if (s.lanes.get l).purging then .purge else .untracked), wait := 0 } := by
  simp [State.caseArrives, State.startRelease, hf]

/-- A case whose record is refused or marked for the purge is released with its reason (R73, R74). -/
theorem State.caseArrives_runOff (hf : (s.lanes.get l).fifo = r :: rest)
    (h : r.disp = .runOff why ∨ r.disp = .accepted ∧ r.purge = true ∧ why = .purge) : s.caseArrives l =
      s.setLane l { s.lanes.get l with
        fifo := { r with disp := .runOff why } :: rest, pick := .releasing true why, wait := 0 } := by
  rw [← State.startRelease_head hf]
  unfold State.caseArrives
  obtain h | ⟨ha, hp, rfl⟩ := h
  · simp [hf, h, ArrivalRec.purgeReason]
  · simp [hf, ha, hp, ArrivalRec.purgeReason]

theorem State.caseArrives_accepted (hf : (s.lanes.get l).fifo = r :: rest) (ha : r.disp = .accepted)
    (hp : r.purge = false) :
    s.caseArrives l = (s.setLane l { s.lanes.get l with pick := .front, wait := 0 }).dispatchEvent := by
  simp [State.caseArrives, hf, ha, hp]

/-! ### A case is taken by hand -/

/-- The lane and the queue of reports once its front case has been taken by hand. -/
def State.caseTaken (s : State) (l : LaneId) (r : ArrivalRec) (rest : List ArrivalRec) : State :=
  (s.setLane l { s.lanes.get l with pick := .empty, fifo := rest, wait := 0 }).report
    (.runOff l .lostAtPick (some r.seq) r.code r.type)

/-- A front case that is taken by hand runs off, and a job that claims it is cancelled (R77). -/
theorem State.lostAtPick_eq (hf : (s.lanes.get l).fifo = r :: rest) (hp : (s.lanes.get l).purging = false) :
    s.lostAtPick l = if s.laneBound l then (s.caseTaken l r rest).cancelJob else s.caseTaken l r rest := by
  have ht : (s.caseTaken l r rest).laneTest l = s.caseTaken l r rest := State.ranOff_stays (.inl hp)
  simp only [State.lostAtPick, Lane.pop, hf]
  exact (congrArg (fun t : State => if s.laneBound l then t.cancelJob else t) ht)

/-- A lane is bound where a job that has not gripped claims its front case (R82). -/
theorem State.laneBound_iff : s.laneBound l = true ↔ ∃ j, s.job = some j ∧ j.source = .lane l ∧ j.gripped = false := by
  unfold State.laneBound
  cases s.job <;> simp

end lane

/-! ### The two commands of a case-present sensor -/

section command

variable {s : State} {l : LaneId} {r : ArrivalRec} {rest : List ArrivalRec} {why : Reason} {v : Bool}

/-- The state in which a case-present sensor has just changed its level. -/
def State.caseShown (s : State) (l : LaneId) (v : Bool) : State :=
  (s.atEvent (.casePresent l)).senses (.casePresent l) v

/-- The marks of the step are its one difference from the state whose inputs alone have changed. -/
theorem State.caseShown_eq : s.caseShown l v = (s.setInputs { s.inputs.noteEvent (.casePresent l) with
    casePresent := s.inputs.casePresent.set l v }).fresh := rfl

theorem State.fresh_setLane (n : Lane) : s.fresh.setLane l n = (s.setLane l n).fresh := rfl
theorem State.fresh_report (b : ReportBody) : s.fresh.report b = (s.report b).fresh := rfl
theorem State.fresh_ended : s.fresh.ended = s.ended := rfl

theorem exec_caseOn (hl : s.inputs.casePresent.get l = false) (hm : s.inputs.missing (.casePresent l) = 0) :
    exec (.casePresentOn l) s = .next (if (s.lanes.get l).pick = .empty then (s.caseShown l true).caseArrives l
      else s.caseShown l true).settle := by
  rw [exec_sensor_stood (c := .casePresentOn l) rfl hm (by simp [Inputs.level, hl]),
    State.inputEvent_caseOn ((State.atEvent_level s (.casePresent l) (.casePresent l)).trans hl)]
  rfl

/-- An arrival at an EMPTY pick point whose work leaves nothing to choose at the end of its step. -/
theorem exec_caseOn_ended {u : State} (hl : s.inputs.casePresent.get l = false)
    (hm : s.inputs.missing (.casePresent l) = 0) (hp : (s.lanes.get l).pick = .empty)
    (hu : (s.caseShown l true).caseArrives l = u) (he : u.evalDue = false) (ha : u.awaitDue = false) :
    exec (.casePresentOn l) s = .next u.ended := by
  rw [exec_caseOn hl hm, if_pos hp, hu, State.settle_ended _ he ha]

theorem exec_caseOff_empty (hl : s.inputs.casePresent.get l = true) (hm : s.inputs.missing (.casePresent l) = 0)
    (hp : (s.lanes.get l).pick = .empty) : exec (.casePresentOff l) s = .next (s.caseShown l false).ended :=
  exec_sensor_stood_ended (c := .casePresentOff l) rfl hm (by simp [Inputs.level, hl])
    (State.inputEvent_caseOff_empty ((State.atEvent_level s (.casePresent l) (.casePresent l)).trans hl) hp) rfl rfl

theorem exec_caseOff_picking (hl : s.inputs.casePresent.get l = true) (hm : s.inputs.missing (.casePresent l) = 0)
    (hp : (s.lanes.get l).pick = .picking) : exec (.casePresentOff l) s =
      .next ((s.caseShown l false).setLane l { s.lanes.get l with pick := .empty }).ended :=
  exec_sensor_stood_ended (c := .casePresentOff l) rfl hm (by simp [Inputs.level, hl])
    (State.inputEvent_caseOff_picking ((State.atEvent_level s (.casePresent l) (.casePresent l)).trans hl) hp) rfl rfl

theorem exec_caseOff_releasing {b : Bool} {u : State} (hl : s.inputs.casePresent.get l = true)
    (hm : s.inputs.missing (.casePresent l) = 0) (hp : (s.lanes.get l).pick = .releasing b why)
    (hu : (s.caseShown l false).releaseEnd l b why = u) (he : u.evalDue = false) (ha : u.awaitDue = false) :
    exec (.casePresentOff l) s = .next u.ended :=
  exec_sensor_stood_ended (c := .casePresentOff l) rfl hm (by simp [Inputs.level, hl])
    ((State.inputEvent_caseOff_releasing ((State.atEvent_level s (.casePresent l) (.casePresent l)).trans hl) hp).trans hu)
    he ha

theorem exec_caseOff_front (hl : s.inputs.casePresent.get l = true) (hm : s.inputs.missing (.casePresent l) = 0)
    (hp : (s.lanes.get l).pick = .front) (hf : (s.lanes.get l).fifo = r :: rest) (hg : (s.lanes.get l).purging = false) :
    exec (.casePresentOff l) s = .next (if s.laneBound l then ((s.caseShown l false).caseTaken l r rest).cancelJob
      else (s.caseShown l false).caseTaken l r rest).settle := by
  rw [exec_sensor_stood (c := .casePresentOff l) rfl hm (by simp [Inputs.level, hl]),
    State.inputEvent_caseOff_front ((State.atEvent_level s (.casePresent l) (.casePresent l)).trans hl) hp]
  exact congrArg _ (congrArg State.settle (State.lostAtPick_eq (s := s.caseShown l false) hf hg))

end command

/-! ### The reports of a case taken by hand -/

/-- A report of a case that runs off. -/
def ReportBody.isRunOff : ReportBody → Bool
  | .runOff .. => true
  | _ => false

theorem ReportBody.not_isRunOff_of_ofCancel {b : ReportBody} (h : b.ofCancel = true) : b.isRunOff = false := by
  cases b with
  | runOff => cases h
  | _ => rfl

/-- The cancel that follows a case taken by hand adds no RUN_OFF report to that case's own. -/
theorem State.caseTaken_cancel_runOff {s : State} {l : LaneId} {r : ArrivalRec} {rest : List ArrivalRec} {j : Job}
    (hr : s.link.reports = []) (hj : s.job = some j) (hs : j.source = .lane l) (hk : j.kind ≠ .sheet)
    (ha : j.abandoned = false) :
    ((s.caseTaken l r rest).cancelJob.link.reports.map Report.body).filter ReportBody.isRunOff =
      [.runOff l .lostAtPick (some r.seq) r.code r.type] := by
  have hone : (s.caseTaken l r rest).link.reports.map Report.body = [.runOff l .lostAtPick (some r.seq) r.code r.type] := by
    rw [State.caseTaken, State.report_reports _ _ (by simp [hr, Config.reportMax])]
    simp [hr]
  have hlen : (s.caseTaken l r rest).link.reports.length + 23 ≤ Config.reportMax := by
    rw [← List.length_map (f := Report.body), hone, List.length_singleton]
    decide
  obtain ⟨rs, hrs, -, hb⟩ :=
    State.cancelJob_adds (s := s.caseTaken l r rest) hj hs (by simp [State.caseTaken]) hk ha hlen
  have hnone : (rs.map Report.body).filter ReportBody.isRunOff = [] := by
    simp only [List.filter_eq_nil_iff, List.forall_mem_map]
    intro b hm
    simp [ReportBody.not_isRunOff_of_ofCancel (hb b hm)]
  rw [hrs, List.map_append, List.filter_append, hone, hnone]
  rfl

/-! ### The statement -/

/-- Settles O37: the event of the sensor in its turn, by the state of the pick point and the head of the lane; the cancel's
reports are counted, so that the RUN_OFF report finds room. -/
theorem casesArriveAtAndLeaveThePickPoint : Obligations.CasesArriveAtAndLeaveThePickPoint := by
  unfold Obligations.CasesArriveAtAndLeaveThePickPoint
  refine ⟨fun s l => ⟨fun hl hc => exec_sensor_steady (c := .casePresentOn l) rfl hc hl, ?_⟩,
    fun s l => ⟨fun hl hc => exec_sensor_steady (c := .casePresentOff l) rfl hc hl, ?_⟩⟩
  · rintro hl hm i rfl
    refine ⟨fun hp => ?_, fun hp => ⟨fun hf => ?_, fun r rest hf => ⟨fun why h => ?_, fun ha hg => ?_⟩⟩⟩
    case refine_1 =>
      rw [exec_caseOn hl hm, if_neg hp, State.settle_ended _ rfl rfl]
      rfl
    case refine_2 =>
      exact (exec_caseOn_ended hl hm hp (State.caseArrives_nil (s := s.caseShown l true) hf) rfl rfl).trans rfl
    case refine_3 =>
      exact (exec_caseOn_ended hl hm hp (State.caseArrives_runOff (s := s.caseShown l true) hf h) rfl rfl).trans rfl
    case refine_4 =>
      rw [exec_caseOn hl hm, if_pos hp, State.caseArrives_accepted (s := s.caseShown l true) hf ha hg]
      rfl
  · rintro hl hm i rfl
    refine ⟨exec_caseOff_empty hl hm, exec_caseOff_picking hl hm, fun why hp hg hf he => ?_, fun why hp h => ?_,
      fun why r rest hp hf h => ?_, fun r why hp hf hg he => ?_, fun r rest hp hf hg => ⟨fun hb => ?_, fun hb => ?_⟩⟩
    case refine_1 =>
      rw [exec_caseOff_releasing hl hm hp ((s.caseShown l false).releaseEnd_none.trans (State.ranOff_returns hg hf he rfl)) rfl rfl]
      simp only [State.caseShown_eq, State.fresh_setLane, State.fresh_report, State.fresh_ended]
      rfl
    case refine_2 =>
      rw [exec_caseOff_releasing hl hm hp ((s.caseShown l false).releaseEnd_none.trans (State.ranOff_stays h)) rfl rfl]
      simp only [State.caseShown_eq, State.fresh_setLane, State.fresh_report, State.fresh_ended]
      rfl
    case refine_3 =>
      rw [exec_caseOff_releasing hl hm hp ((State.releaseEnd_head (s := s.caseShown l false) hf).trans
        (State.ranOff_stays h)) rfl rfl]
      simp only [State.caseShown_eq, State.fresh_setLane, State.fresh_report, State.fresh_ended]
      rfl
    case refine_4 =>
      rw [exec_caseOff_releasing hl hm hp ((State.releaseEnd_head (s := s.caseShown l false) hf).trans
        (State.ranOff_returns hg rfl he rfl)) rfl rfl]
      simp only [State.caseShown_eq, State.fresh_setLane, State.fresh_report, State.fresh_ended]
      rfl
    case refine_5 =>
      rw [exec_caseOff_front hl hm hp hf hg, hb, if_neg Bool.false_ne_true, State.settle_ended _ rfl rfl]
      rfl
    case refine_6 =>
      obtain ⟨j, hj, hs, -⟩ := State.laneBound_iff.mp hb
      have he : ((s.caseShown l false).caseTaken l r rest).lanes.get l =
        { s.lanes.get l with pick := .empty, fifo := rest, wait := 0 } := PerLane.get_set_same _ _ _
      refine ⟨((s.caseShown l false).caseTaken l r rest).cancelJob, by rw [exec_caseOff_front hl hm hp hf hg, if_pos hb],
        State.cancelJob_job hj, State.cancelJob_gantry hj hs (by simp [he]),
        congrArg Fixed.inputs (State.cancelJob_fixed _), State.cancelJob_lanes hj hs (by rw [he]), fun hr hk => ?_⟩
      obtain ⟨hkind, hplan⟩ := hk j hj
      exact State.caseTaken_cancel_runOff (s := s.caseShown l false) hr hj hs hkind hplan

end Sys2Proof.Machine
end

section
/-! SUPPORT. The bounds of the stores (R9, R15, R65, R85, R90, R168, R173), operation by operation: what is filled
is checked for room, and every shared operation of the blocks leaves the stores within their sizes. -/

namespace Sys2Proof.Machine

/-! ### A plan within its sizes -/

/-- A plan within its sizes: its layers and its placement records (R15). -/
def Plan.Bounded (p : Plan) : Prop := p.queue.length ≤ Config.layerMax ∧ p.inUse ≤ Config.poolMax

/-- How many placement records each layer of a plan holds. -/
def Plan.sizes (p : Plan) : List Nat := p.queue.map (fun l => l.placements.length)

theorem Plan.bounded_iff (p : Plan) :
    p.Bounded ↔ p.sizes.length ≤ Config.layerMax ∧ p.sizes.sum ≤ Config.poolMax := by
  simp [Plan.Bounded, Plan.sizes, Plan.inUse]

theorem Plan.bounded_initial : Plan.initial.Bounded := ⟨Nat.zero_le _, Nat.zero_le _⟩

/-- A plan that takes layers away and adds no record stays within its sizes. -/
theorem Plan.Bounded.of_sublist {p q : Plan} (h : p.Bounded) (hs : q.sizes.Sublist p.sizes) : q.Bounded := by
  rw [Plan.bounded_iff] at h ⊢
  exact ⟨hs.length_le.trans h.1, hs.sum_le_sum (fun _ _ => Nat.zero_le _) |>.trans h.2⟩

/-- A plan whose layers change but keep their number of records stays within its sizes. -/
theorem Plan.Bounded.of_map {p q : Plan} {f : Layer → Layer} (h : p.Bounded) (hq : q.queue = p.queue.map f)
    (hf : ∀ l, (f l).placements.length = l.placements.length) : q.Bounded :=
  h.of_sublist (by simp [Plan.sizes, hq, Function.comp_def, hf])

theorem Plan.Bounded.modify {p : Plan} (h : p.Bounded) (id : Nat) (f : Placement → Placement) :
    (p.modify id f).Bounded :=
  h.of_map (f := fun l => { l with placements := l.placements.map (fun q => if q.id = id then f q else q) }) rfl
    (by simp)

theorem Plan.Bounded.sheetCommitted {p : Plan} (h : p.Bounded) : p.sheetCommitted.Bounded := by
  refine h.of_sublist ?_
  cases hq : p.queue <;> simp [Plan.sheetCommitted, Plan.sizes, hq]

theorem Plan.Bounded.sheetJobMade {p : Plan} (h : p.Bounded) : p.sheetJobMade.Bounded := by
  refine h.of_sublist ?_
  cases hq : p.queue <;> simp [Plan.sheetJobMade, Plan.sizes, hq]

@[simp] theorem Layer.settle_placements (l : Layer) : l.settle.placements = l.placements := by
  unfold Layer.settle
  split <;> rfl

/-- The layers that stay are some of the queue's, in its order (R27). -/
theorem splitQueue_sizes (q : List Layer) (pos : Nat) :
    ((splitQueue pos q).1.map (fun l => l.placements.length)).Sublist (q.map (fun l => l.placements.length)) := by
  induction q generalizing pos with
  | nil => simp [splitQueue]
  | cons l rest ih =>
    unfold splitQueue
    split
    · exact (ih pos).cons _
    · simpa using ih (pos + 1)

@[simp] theorem changeTag_sizes (tag : Nat) (q : List Layer) :
    (changeTag tag Layer.withdrawn q).map (fun l => l.placements.length) = q.map (fun l => l.placements.length) := by
  induction q with
  | nil => rfl
  | cons l rest ih =>
    unfold changeTag
    split <;> simp [Layer.withdrawn, ih]

/-- A layer that finds room in the queue and in the pool leaves the plan within its sizes (R21, R22). -/
theorem Plan.Bounded.take {p : Plan} (l : Layer) (hq : p.queue.length < Config.layerMax)
    (hp : p.inUse + l.placements.length ≤ Config.poolMax) : ({ p with queue := p.queue ++ [l] } : Plan).Bounded := by
  simp only [Plan.Bounded, Plan.inUse] at *
  simp
  omega

theorem State.checkPlaces_length {s : State} {st : StationId} {bs : List PlaceBody} {done ps : List Placement}
    (h : s.checkPlaces st done bs = .ok ps) : ps.length = done.length + bs.length := by
  induction bs generalizing done with
  | nil =>
    cases h
    simp
  | cons b rest ih =>
    unfold State.checkPlaces at h
    split at h
    next =>
      have := ih h
      simp only [List.length_append, List.length_cons, List.length_nil] at *
      omega
    next => cases h

theorem placeBodies_length_le (n : Nat) (b : List Byte) : (placeBodies n b).length ≤ n := by
  induction n generalizing b with
  | zero => simp [placeBodies]
  | succ n ih =>
    unfold placeBodies
    split
    · simp
    · simpa using ih _

/-- A LOAD_LAYER body carries no more placements than it counts (R182). -/
theorem layerBody?_places_le {b : List Byte} {v : LayerBody} (h : layerBody? b = some v) :
    v.places.length ≤ v.count := by
  unfold layerBody? at h
  split at h
  next => cases h
  next =>
    dsimp only at h
    split at h
    next =>
      cases h
      exact placeBodies_length_le _ _
    next => cases h

/-! ### A lane's arrivals -/

theorem Lane.headRunOff_length (n : Lane) (w : Reason) : (n.headRunOff w).fifo.length = n.fifo.length := by
  unfold Lane.headRunOff
  split <;> simp_all

theorem Lane.pop_length_le (n : Lane) : n.pop.fifo.length ≤ n.fifo.length := by
  simp [Lane.pop]

/-! ### The report queue and the line -/

/-- A full report queue takes a new report in the place of another, if at all (R175). -/
theorem displaced_length {c : RClass} {rs qs : List Report} (h : displaced c rs = some qs) : qs.length < rs.length := by
  have hd : ∀ {d : RClass} {qs}, dropOldest d rs = some qs → qs.length < rs.length := by
    intro d qs h
    unfold dropOldest at h
    split at h
    next ha =>
      obtain ⟨r, hr, hc⟩ := List.any_eq_true.mp ha
      cases h
      have := List.length_eraseP_of_mem (p := fun r => r.cls == d) hr hc
      have := List.length_pos_of_mem hr
      omega
    next => cases h
  cases c with
  | routine => cases h
  | progress => exact hd h
  | alarm =>
    rcases Option.or_eq_some_iff.mp h with h | ⟨-, h⟩
    · exact hd h
    · exact hd h

/-- The queues of the line within their sizes: the backlog, the BUSY replies and the reports (R168, R173). -/
def Link.Bounded (l : Link) : Prop :=
  l.backlog.length ≤ Config.backlogMax ∧ l.busy.length ≤ Config.busyMax ∧ l.reports.length ≤ Config.reportMax

theorem Link.enqueue_reports_le {l : Link} (r : Report) (h : l.reports.length ≤ Config.reportMax) :
    (l.enqueue r).reports.length ≤ Config.reportMax := by
  unfold Link.enqueue
  split
  next hr => simpa using hr
  next =>
    split
    next qs hd =>
      have := displaced_length hd
      simp
      omega
    next => exact h

theorem Link.Bounded.enqueue {l : Link} (h : l.Bounded) (r : Report) : (l.enqueue r).Bounded := by
  obtain ⟨hb, hy, hr⟩ := h
  exact ⟨by simpa using hb, by simpa using hy, Link.enqueue_reports_le r hr⟩

/-- The line takes its next frame out of a queue (R170). -/
theorem Link.Bounded.choose {l : Link} (h : l.Bounded) : l.choose.Bounded := by
  obtain ⟨hb, hy, hr⟩ := h
  unfold Link.choose
  split
  · exact ⟨hb, hy, hr⟩
  · split
    next hbusy =>
      rw [hbusy] at hy
      exact ⟨hb, (Nat.le_succ _).trans hy, hr⟩
    · split
      · exact ⟨hb, hy, hr⟩
      · split
        · exact ⟨hb, hy, hr⟩
        · exact ⟨hb, hy, (List.length_erase_le).trans hr⟩

/-- A frame is taken where the backlog has room, and answered BUSY where the BUSY replies have (R168). -/
theorem Link.Bounded.intake {l : Link} (h : l.Bounded) (kind tag : Byte) (body : List Byte) :
    (l.intake kind tag body).Bounded := by
  obtain ⟨hb, hy, hr⟩ := h
  unfold Link.intake
  split
  next hroom => exact ⟨by simpa using hroom, hy, hr⟩
  next =>
    split
    next hroom => exact ⟨hb, by simpa using hroom, hr⟩
    next => exact ⟨hb, hy, hr⟩

theorem formReply_length (b : ReplyBody) (l : List Request) : (formReply b l).length = l.length := by
  induction l with
  | nil => rfl
  | cons r rest ih =>
    unfold formReply
    split <;> simp [ih]

theorem Link.Bounded.answer {l : Link} (h : l.Bounded) (b : ReplyBody) : (l.answer b).Bounded :=
  ⟨(formReply_length b l.backlog).trans_le h.1, h.2⟩

theorem Link.Bounded.receive {l : Link} (h : l.Bounded) (bs : List Byte) : (l.receive bs).Bounded := by
  unfold Link.receive
  induction bs generalizing l with
  | nil => exact h
  | cons b rest ih =>
    refine ih ?_
    unfold Link.receiveByte
    split
    · exact h
    next r _ _ _ _ => exact Link.Bounded.intake (l := { l with framer := r }) h _ _ _

/-! ### Updates -/

namespace State.Bounded

section operations

variable {s : State} {st : StationId} {l : LaneId} {i : SlotId} {p : Plan} {n : Lane} {j : Job} {z : Zone}
variable (h : s.Bounded)
include h

theorem setStack {k : Stack} : (s.setStack st k).Bounded := h
theorem setStn {m : Station} : (s.setStn st m).Bounded := h
theorem setSlot {x : Slot} : (s.setSlot i x).Bounded := h
theorem setJob {o : Option Job} : (s.setJob o).Bounded := h
theorem setGantry {g : Gantry} : (s.setGantry g).Bounded := h
theorem setGripper {g : Gripper} : (s.setGripper g).Bounded := h
theorem setInputs {x : Inputs} : (s.setInputs x).Bounded := h
theorem setStall {b : Bool} : (s.setStall st b).Bounded := h
theorem setAuto {b : Bool} : (s.setAuto b).Bounded := h
theorem setCellRun {r : CellRun} : (s.setCellRun r).Bounded := h
theorem dispatchEvent : s.dispatchEvent.Bounded := h
theorem destinationEvent : s.destinationEvent.Bounded := h
theorem slotEvent : s.slotEvent.Bounded := h
theorem fresh : s.fresh.Bounded := h
theorem modifyJob {f : Job → Job} : (s.modifyJob f).Bounded := h
theorem setPhase {x : Phase} : (s.setPhase x).Bounded := h
theorem setMotion {m : Motion} : (s.setMotion m).Bounded := h
theorem setSweep {w : Sweep} : (s.setSweep st w).Bounded := h
theorem computeTravel : s.computeTravel.Bounded := h
theorem clearUsed : s.clearUsed.Bounded := h
theorem setFramer {r : Receiver} : (s.setFramer r).Bounded := h

theorem linkBounded : s.link.Bounded := ⟨h.1, h.2.1, h.2.2.1⟩
theorem fifo_le (l : LaneId) : (s.lanes.get l).fifo.length ≤ Config.fifoMax := h.2.2.2.1 l
theorem magazine_le : s.magazine ≤ Config.magazineMax := h.2.2.2.2.2.1
theorem articles_le : s.dir.articles.length ≤ Config.articleMax := h.2.2.2.2.2.2.1
theorem planBounded (st : StationId) : (s.plan.get st).Bounded := ⟨h.2.2.2.2.2.2.2.1 st, h.2.2.2.2.2.2.2.2 st⟩

theorem setLink {k : Link} (hk : k.Bounded) : (s.setLink k).Bounded := ⟨hk.1, hk.2.1, hk.2.2, h.2.2.2⟩

theorem report {b : ReportBody} : (s.report b).Bounded := h.setLink (h.linkBounded.enqueue _)

theorem setPlan (hp : p.Bounded) : (s.setPlan st p).Bounded := by
  obtain ⟨hb, hy, hr, hf, hs, hm, ha, hl, hi⟩ := h
  obtain ⟨hl', hi'⟩ := hp
  refine ⟨hb, hy, hr, hf, hs, hm, ha, fun x => ?_, fun x => ?_⟩ <;> by_cases hx : x = st
  · subst hx; simpa using hl'
  · simpa [PerStation.get_set_ne _ _ hx] using hl x
  · subst hx; simpa using hi'
  · simpa [PerStation.get_set_ne _ _ hx] using hi x

theorem setLane (hn : n.fifo.length ≤ Config.fifoMax) : (s.setLane l n).Bounded := by
  obtain ⟨hb, hy, hr, hf, hrest⟩ := h
  refine ⟨hb, hy, hr, fun x => ?_, hrest⟩
  by_cases hx : x = l
  · subst hx; simpa using hn
  · simpa [PerLane.get_set_ne _ _ hx] using hf x

theorem setSpill {x : Nat} (hx : x ≤ Config.spillMax) : (s.setSpill x).Bounded := by
  obtain ⟨hb, hy, hr, hf, -, hrest⟩ := h
  exact ⟨hb, hy, hr, hf, hx, hrest⟩

theorem setMagazine {x : Nat} (hx : x ≤ Config.magazineMax) : (s.setMagazine x).Bounded := by
  obtain ⟨hb, hy, hr, hf, hs, -, hrest⟩ := h
  exact ⟨hb, hy, hr, hf, hs, hx, hrest⟩

theorem setDir {d : Directory} (hd : d.articles.length ≤ Config.articleMax) : (s.setDir d).Bounded := by
  obtain ⟨hb, hy, hr, hf, hs, hm, -, hrest⟩ := h
  exact ⟨hb, hy, hr, hf, hs, hm, hd, hrest⟩

omit h in
/-- The first state of a pair is within the sizes, under the name a match gives it. -/
theorem of_fst {r : State × Bool} {t : State} {b : Bool} (h : r.1.Bounded) (e : r = (t, b)) : t.Bounded := by
  subst e
  exact h

omit h in
/-- Operations in turn that each leave the stores within their sizes. -/
theorem foldl {α : Type} {f : State → α → State} (hf : ∀ {t : State} {a}, t.Bounded → (f t a).Bounded) {l : List α}
    (h : s.Bounded) : (l.foldl f s).Bounded := by
  induction l generalizing s with
  | nil => exact h
  | cons a l ih => exact ih (hf h)

/-! ### Stations (R56 to R62, R105, R106, R156, R163) -/

theorem reschedule : (s.reschedule st).Bounded := by
  unfold State.reschedule
  dsimp only
  split
  exacts [h.setStn, h.setStn.report]

theorem stallTest : (s.stallTest st).Bounded := by
  unfold State.stallTest
  dsimp only
  (repeat' split)
  exacts [h, h, h.setStall.report, h.setStall, h.setStall]

theorem setVerdict {c : Cand} {v : Verdict} : (s.setVerdict st c v).Bounded := by
  cases c with
  | sheet => exact h.setStack
  | placement id => exact h.setPlan ((h.planBounded st).modify id _)

theorem sweepEnd : (s.sweepEnd st).Bounded := h.setSweep.dispatchEvent.stallTest

theorem startSweep : (s.startSweep st).Bounded := by
  have hv : ((s.plan.get st).candidates.foldl (fun s c => s.setVerdict st c .unswept) s).Bounded :=
    foldl (fun ht => ht.setVerdict) h
  unfold State.startSweep
  dsimp only
  split
  exacts [hv.setSweep.sweepEnd, hv.setSweep]

theorem sweepTrigger : (s.sweepTrigger st).Bounded := by
  unfold State.sweepTrigger
  split
  exacts [h.setSweep, h.startSweep]

theorem sweepResume : (s.sweepResume st).Bounded := by
  unfold State.sweepResume
  split
  exacts [h.startSweep, h]

theorem noteVoid {id : Nat} : (s.noteVoid st id).Bounded := by
  unfold State.noteVoid
  split
  exacts [h.setSweep, h]

theorem walkEnds : (s.walkEnds st).Bounded := by
  unfold State.walkEnds
  dsimp only
  (repeat' split)
  exacts [h.setVerdict.sweepEnd, h.sweepEnd, h.setVerdict.setSweep, h.setSweep, h]

theorem stationSet {m : Mode} {early : Bool} : (s.stationSet st m early).Bounded := by
  unfold State.stationSet
  dsimp only
  split
  exacts [h, h.setStn.report.reschedule.dispatchEvent.stallTest]

theorem endOfQueue : (s.endOfQueue st).Bounded := by
  unfold State.endOfQueue
  dsimp only
  split
  exacts [h.stationSet, h]

theorem returnToBuilding : (s.returnToBuilding st).Bounded := h.stationSet.sweepTrigger.endOfQueue

theorem staleScanSlot : (s.staleScanSlot i).Bounded := by
  unfold State.staleScanSlot
  (repeat' split)
  exacts [h, h.setSlot.report.dispatchEvent, h.setSlot, h]

theorem staleScan : s.staleScan.Bounded := foldl staleScanSlot h

theorem layerDone {y : Layer} : (s.layerDone st y).Bounded := by
  unfold State.layerDone
  split
  exacts [h.report, h]

/-- Layers are only taken out of the queue (R27). -/
theorem examineLayers : (s.examineLayers st).Bounded := by
  have hp := h.setPlan (st := st) ((h.planBounded st).of_sublist
    (q := { s.plan.get st with queue := (splitQueue 0 (s.plan.get st).queue).1 }) (splitQueue_sizes _ 0))
  have hd : ∀ {t : State} {q : Nat × Layer}, t.Bounded → (t.layerDone st q.2).Bounded := fun ht => ht.layerDone
  unfold State.examineLayers
  dsimp only
  (repeat' split)
  exacts [h, (foldl hd hp.setStack).reschedule.staleScan.sweepTrigger.endOfQueue,
    (foldl hd hp).reschedule.staleScan.sweepTrigger.endOfQueue, (foldl hd hp.setStack).reschedule.staleScan.endOfQueue,
    (foldl hd hp).reschedule.staleScan.endOfQueue]

theorem setPState {id : Nat} {x : PState} : (s.setPState st id x).Bounded :=
  (h.setPlan ((h.planBounded st).modify id _)).reschedule.staleScan

theorem returnPlacement {id : Nat} {b : Bool} : (s.returnPlacement st id b).Bounded := by
  unfold State.returnPlacement
  (repeat' split)
  exacts [h.setPState.setPState.noteVoid.examineLayers, h.setPState, h, h]

theorem sheetJobOver : (s.sheetJobOver st).Bounded :=
  (h.setPlan ((h.planBounded st).of_map (f := fun y => { y with sheetJob := false }) rfl fun _ => rfl)).examineLayers

/-! ### Gantry (R118, R124, R130) -/

theorem gantryReport {o : Option StartInfo} : (s.gantryReport o).Bounded := h.report

theorem gantryTo {g : GState} : (s.gantryTo g).Bounded := by
  unfold State.gantryTo
  (repeat' split)
  exacts [h, h.setGantry.gantryReport.dispatchEvent, h.setGantry.gantryReport]

theorem homingStop : s.homingStop.Bounded := h.setGantry.gantryTo
theorem homingFault {c : FaultCause} : (s.homingFault c).Bounded := h.setGantry.gantryTo
theorem faultStop {c : FaultCause} : (s.faultStop c).Bounded := h.setGantry.gantryTo

/-! ### Infeed (R73 to R76, R79, R82) -/

theorem startRelease {b : Bool} {w : Reason} : (s.startRelease l b w).Bounded := by
  unfold State.startRelease
  dsimp only
  split
  exacts [h.setLane ((Lane.headRunOff_length _ _).trans_le (h.fifo_le l)), h.setLane (h.fifo_le l)]

theorem laneTest : (s.laneTest l).Bounded := by
  unfold State.laneTest
  dsimp only
  split
  exacts [(h.setLane (by exact h.fifo_le l)).report, h]

theorem caseArrives : (s.caseArrives l).Bounded := by
  unfold State.caseArrives
  dsimp only
  (repeat' split)
  exacts [h.startRelease, h.startRelease, h.startRelease, h.startRelease,
    (h.setLane (by exact h.fifo_le l)).dispatchEvent]

theorem ungrippableLane : (s.ungrippableLane l).Bounded := by
  unfold State.ungrippableLane
  split
  exacts [h.startRelease, h]

theorem ungrippableSlot : (s.ungrippableSlot i).Bounded := by
  unfold State.ungrippableSlot
  split
  exacts [h.setSlot.report.slotEvent, h]

theorem sourceEnd {x : Source} : (s.sourceEnd x).Bounded := by
  unfold State.sourceEnd
  dsimp only
  (repeat' split)
  exacts [h, h.startRelease, h.startRelease, h, h.setSlot.report.slotEvent, h.setSlot, h]

theorem sourceBack {x : Source} : (s.sourceBack x).Bounded := by
  unfold State.sourceBack
  dsimp only
  (repeat' split)
  exacts [h.startRelease, h.dispatchEvent, h, h]

/-! ### Jobs (R52 to R54, R81, R85, R90, R98 to R100, R138 to R147) -/

theorem dropReservation : s.dropReservation.Bounded := by
  unfold State.dropReservation
  dsimp only
  (repeat' split)
  exacts [h, h.setJob, h.setJob.sweepResume]

theorem handBack : s.handBack.Bounded := by
  unfold State.handBack
  (repeat' split)
  exacts [h, h.returnPlacement, h]

theorem finishCell : s.finishCell.Bounded := by
  unfold State.finishCell
  split
  exacts [h.setCellRun, h]

theorem sheetGone : (s.sheetGone j).Bounded := by
  unfold State.sheetGone
  split
  exacts [h.setMagazine ((Nat.sub_le _ _).trans h.magazine_le), h]

theorem jobOff : (s.jobOff j).Bounded := by
  unfold State.jobOff
  dsimp only
  (repeat' split)
  exacts [(h.handBack.setJob.sheetGone).sheetJobOver.endOfQueue, (h.handBack.setJob.sheetGone).endOfQueue,
    (h.handBack.setJob.sheetGone).sheetJobOver, h.handBack.setJob.sheetGone]

theorem stallTestAt {o : Option StationId} : (s.stallTestAt o).Bounded := by
  cases o with
  | none => exact h
  | some st => exact h.stallTest

theorem jobEnd : s.jobEnd.Bounded := by
  cases hj : s.job with
  | none => rwa [State.jobEnd_of_none hj]
  | some j =>
    rw [State.jobEnd_eq hj]
    exact h.jobOff.sourceEnd.stallTestAt.finishCell.dispatchEvent

theorem gripReport {e : GripEvent} {o : Option Zone} {r : Option JobRef} {xy : Option Int × Option Int} :
    (s.gripReport e o r xy).Bounded := h.report

theorem lockoutReport : s.lockoutReport.Bounded := by
  unfold State.lockoutReport
  split
  exacts [h.gripReport, h]

theorem dropJob : s.dropJob.Bounded := h.handBack.dropReservation.jobEnd

theorem carryLoss {e : GripEvent} : (s.carryLoss e z).Bounded :=
  h.setGripper.gripReport.lockoutReport.clearUsed.faultStop.dropJob

theorem carryTest : s.carryTest.Bounded := by
  unfold State.carryTest
  (repeat' split)
  exacts [h, h.carryLoss, h.carryLoss, h]

theorem gripFailed {e : GripEvent} : (s.gripFailed e).Bounded :=
  h.setGripper.gripReport.lockoutReport.clearUsed.modifyJob

theorem gripBegin : (s.gripBegin j).1.Bounded := by
  unfold State.gripBegin
  dsimp only
  split
  exacts [h.setGripper, h.setGripper]

theorem takeItem : (s.takeItem j).Bounded := by
  unfold State.takeItem
  cases j.source with
  | magazine => exact h.setJob
  | lane l => exact (h.setJob.setLane (by exact (Lane.pop_length_le _).trans (h.fifo_le l))).laneTest
  | slot i => exact h.setJob.setSlot.slotEvent

theorem gripDone : (s.gripDone j).Bounded := h.setGripper.takeItem

theorem gripAbandon : s.gripAbandon.Bounded := by
  unfold State.gripAbandon
  split
  exacts [h.setGripper.clearUsed, h]

theorem commitCase {q : Placement} {t : CaseType} {r : WalkResult} {c : ArrivalRec} :
    (s.commitCase st q t r c).Bounded :=
  (h.setStack.setPlan ((h.planBounded st).modify q.id _)).report.reschedule.staleScan.examineLayers.modifyJob.startSweep

theorem commitSheet {r : WalkResult} : (s.commitSheet st r).Bounded :=
  ((h.setStack.setMagazine ((Nat.sub_le _ _).trans h.magazine_le)).setPlan
    (h.planBounded st).sheetCommitted).reschedule.examineLayers.modifyJob.startSweep

theorem deliver : (s.deliver j).Bounded := by
  unfold State.deliver
  (repeat' split)
  exacts [h.commitCase, h, h, h.commitSheet, h, h.setSlot.report.slotEvent.staleScanSlot, h,
    h.setSpill (Nat.min_le_right _ _), h]

theorem releaseDone : s.releaseDone.Bounded := by
  unfold State.releaseDone
  dsimp only
  split
  exacts [h.setGripper.clearUsed, h.setGripper.clearUsed.setJob.deliver.modifyJob]

/-! ### Stops and starts of moves (R113, R115, R123 to R127, R151, R154) -/

theorem takeStopped : s.takeStopped.Bounded := by
  unfold State.takeStopped
  (repeat' split)
  exacts [h, h.setPhase.gantryTo.carryTest, h.setPhase.carryTest]

theorem enterStopped : s.enterStopped.Bounded := by
  unfold State.enterStopped
  dsimp only
  (repeat' split)
  exacts [h.setGantry.gantryTo.gantryTo, h.setGantry.gantryTo.takeStopped, h.setGantry.gantryTo]

theorem quickStop : s.quickStop.Bounded := by
  unfold State.quickStop
  dsimp only
  split
  exacts [h.setGantry.enterStopped, h.setGantry.enterStopped, h.setGantry.enterStopped, h.setGantry.homingStop,
    h.setGantry]

theorem rampAll {w : RestFor} : (s.rampAll w).Bounded := by
  unfold State.rampAll
  dsimp only
  split
  exacts [h.setMotion, h.setGantry]

theorem guardReport {g : GuardInput} {v q : Bool} {o : Option Bool} : (s.guardReport g v q o).Bounded := h.report

theorem guardHalt {q : Bool} : (s.guardHalt q).Bounded := by
  unfold State.guardHalt
  (repeat' split)
  exacts [h.quickStop, h.homingStop, h]

theorem guardStop {g : GuardInput} {o : Option Bool} : (s.guardStop g o).Bounded := h.setCellRun.guardReport.guardHalt

theorem startLin {a : LinAxis} {m : Move} : (s.startLin a m).1.Bounded := by
  unfold State.startLin
  dsimp only
  (repeat' split)
  exacts [h, h.guardStop, h.faultStop, h.setGantry]

theorem startMove {a : LinAxis} {f : Profile} {x : Int} : (s.startMove a f x).1.Bounded := h.startLin

theorem startT {t : Turn} : (s.startT t).Bounded := by
  unfold State.startT
  split
  exacts [h, h.setGantry]

theorem startXY {f : Profile} {xy : Int × Int} {t : Turn} : (s.startXY f xy t).1.Bounded := by
  unfold State.startXY
  split
  next hx => exact h.startMove.of_fst hx
  next hx =>
    have hs := h.startMove.of_fst hx
    split
    next hy => exact hs.startMove.of_fst hy
    next hy => exact (hs.startMove.of_fst hy).startT

/-! ### Phases (R121, R122, R126) -/

section next

variable {next : State → State} (hn : ∀ {t : State}, t.Bounded → (next t).Bounded)
include hn

theorem movingOr {m : Motion} : (s.movingOr m next).Bounded := by
  unfold State.movingOr
  split
  exacts [h.setMotion, hn h]

theorem riseOr : (s.riseOr j next).Bounded := by
  unfold State.riseOr
  dsimp only
  split
  · split
    next hz => exact (h.computeTravel.startMove.of_fst hz).setMotion
    next hz => exact h.computeTravel.startMove.of_fst hz
  · exact hn h.computeTravel

theorem descendOr {x : Int} : (s.descendOr j x next).Bounded := by
  unfold State.descendOr
  dsimp only
  split
  next hz => exact (h.startLin.of_fst hz).movingOr hn
  next hz => exact h.startLin.of_fst hz

end next

theorem failedJobEnd : (s.failedJobEnd j).Bounded := by
  have hb := h.handBack.dropReservation
  unfold State.failedJobEnd
  dsimp only
  (repeat' split)
  exacts [hb.ungrippableLane.jobEnd, hb.ungrippableSlot.jobEnd, hb.stationSet.jobEnd, hb.jobEnd, hb.jobEnd]

theorem endClear : s.endClear.Bounded := by
  unfold State.endClear
  (repeat' split)
  exacts [h.gantryTo, h.failedJobEnd.gantryTo, h.jobEnd.gantryTo]

theorem startClear : s.startClear.Bounded := by
  unfold State.startClear
  dsimp only
  split
  exacts [h.setPhase, h.setPhase.riseOr endClear]

theorem startReleasePhase : s.startReleasePhase.Bounded := by
  unfold State.startReleasePhase
  dsimp only
  split
  exacts [h.setPhase.setGripper, h.setPhase]

theorem startSetDown : s.startSetDown.Bounded := by
  unfold State.startSetDown
  dsimp only
  (repeat' split)
  exacts [h.setPhase, h.setPhase, h.setPhase.descendOr startReleasePhase]

theorem travelXY : s.travelXY.Bounded := by
  unfold State.travelXY
  dsimp only
  split
  · exact h.setPhase.modifyJob
  · split
    · exact h.setPhase.modifyJob
    · split
      next hx => exact (h.setPhase.modifyJob.startXY.of_fst hx).movingOr startSetDown
      next hx => exact h.setPhase.modifyJob.startXY.of_fst hx

theorem retravel : s.retravel.Bounded := by
  unfold State.retravel
  dsimp only
  split
  exacts [h.setPhase, h.setPhase.riseOr travelXY]

theorem startPickUp : s.startPickUp.Bounded := by
  unfold State.startPickUp
  dsimp only
  split
  exacts [h.setPhase.carryTest, h.setPhase.carryTest.riseOr travelXY]

theorem startGripPhase : s.startGripPhase.Bounded := by
  unfold State.startGripPhase
  dsimp only
  split
  · exact h.setPhase
  · split
    · split
      next hg => exact h.setPhase.gripBegin.of_fst hg
      next hg => exact (h.setPhase.gripBegin.of_fst hg).gripFailed.startClear
    · exact h.setPhase

theorem startPickDown : s.startPickDown.Bounded := by
  unfold State.startPickDown
  dsimp only
  split
  exacts [h.setPhase, h.setPhase.descendOr startGripPhase]

theorem approachXY : s.approachXY.Bounded := by
  unfold State.approachXY
  split
  · exact h
  · split
    next hx => exact (h.startXY.of_fst hx).movingOr startPickDown
    next hx => exact h.startXY.of_fst hx

theorem startApproach : s.startApproach.Bounded := by
  unfold State.startApproach
  dsimp only
  split
  exacts [h.setPhase, h.setPhase.riseOr approachXY]

theorem gripped : s.gripped.Bounded := by
  unfold State.gripped
  dsimp only
  (repeat' split)
  exacts [h, h.gripDone.startPickUp, h.gripDone]

theorem gripFail {e : GripEvent} : (s.gripFail e).Bounded := by
  unfold State.gripFail
  dsimp only
  split
  exacts [h.gripFailed.startClear, h.gripFailed]

theorem releaseComplete : s.releaseComplete.Bounded := by
  unfold State.releaseComplete
  dsimp only
  split
  exacts [h.releaseDone.startClear, h.releaseDone]

theorem releaseStuck : s.releaseStuck.Bounded := h.setGripper.gripReport.faultStop

theorem gripTest : s.gripTest.Bounded := by
  unfold State.gripTest
  split
  exacts [h.gripped, h]

theorem holdUp : s.holdUp.Bounded := by
  unfold State.holdUp
  (repeat' split)
  exacts [h, h.riseOr id, h]

theorem replan : s.replan.Bounded := by
  have hc := h.computeTravel
  unfold State.replan
  (repeat' split)
  exacts [h, hc.setPhase.gantryTo.carryTest.holdUp, hc.gantryTo.startApproach, hc.gantryTo.startPickDown,
    hc.gantryTo.startPickUp, hc.gantryTo.startClear, hc.gantryTo.startGripPhase, hc.gantryTo.startPickUp,
    hc.gantryTo.carryTest.retravel, hc.gantryTo.startSetDown, hc.gantryTo.startClear, hc.gantryTo.startReleasePhase,
    hc.gantryTo.startClear]

theorem resumeGantry : s.resumeGantry.Bounded := by
  unfold State.resumeGantry
  (repeat' split)
  exacts [h.replan, h, h.holdUp, h]

theorem atRest {b : Bool} : (s.atRest b).Bounded := by
  unfold State.atRest
  dsimp only
  (repeat' split)
  exacts [h.enterStopped, h.endClear, h.setPhase.setGantry.modifyJob.replan, h.setPhase.replan,
    h.setPhase.enterStopped, h.setGantry.modifyJob.replan, h.replan, h.enterStopped]

theorem motionDone : s.motionDone.Bounded := by
  have hm := h.setMotion (m := .none)
  unfold State.motionDone
  dsimp only
  (repeat' split)
  exacts [hm.gantryTo, hm.retravel, hm.holdUp, hm.atRest, hm.approachXY, hm.travelXY, hm.travelXY, hm, hm.endClear,
    hm.startPickDown, hm.startSetDown, hm.startGripPhase, hm.startReleasePhase, hm]

theorem settleMotion : s.settleMotion.Bounded := by
  unfold State.settleMotion
  split
  exacts [h, h.motionDone]

theorem rampedStop : s.rampedStop.Bounded := by
  unfold State.rampedStop
  split
  exacts [h.rampAll.gantryTo.settleMotion, h.rampAll.settleMotion, h]

theorem replanTravel : s.replanTravel.Bounded := h.setPhase.rampAll.settleMotion

theorem gantryTakes : s.gantryTakes.Bounded := by
  unfold State.gantryTakes
  (repeat' split)
  exacts [h, h.setPhase.gantryTo.rampAll.settleMotion, h.replanTravel, h, h.setGantry, h.takeStopped, h,
    h.gantryTo.replanTravel, h, h.gantryTo, h]

/-! ### Jobs that are interrupted (R72, R99, R101 to R103, R158) -/

theorem cancelGantry : s.cancelGantry.Bounded := by
  unfold State.cancelGantry
  split
  exacts [h.rampAll.settleMotion, h.gantryTo, h]

theorem cancelJob : s.cancelJob.Bounded := by
  have hb := h.handBack.dropReservation
  unfold State.cancelJob
  (repeat' split)
  exacts [h, hb.gripAbandon.jobEnd.cancelGantry, hb.sourceBack.gripAbandon.jobEnd.cancelGantry]

theorem toPutaway : s.toPutaway.Bounded := by
  have hm := h.handBack.dropReservation.modifyJob
    (f := fun j => { j with kind := .putaway, turn := .t0, spillK := none, dest := none })
  unfold State.toPutaway
  dsimp only
  (repeat' split)
  exacts [h, hm.sheetJobOver.endOfQueue.stallTest.modifyJob, hm.endOfQueue.stallTest.modifyJob,
    hm.sheetJobOver.modifyJob, hm.modifyJob, hm.sheetJobOver.endOfQueue.stallTest, hm.endOfQueue.stallTest,
    hm.sheetJobOver, hm]

theorem convert : s.convert.Bounded := h.toPutaway.gantryTakes

theorem lossOfTarget : (s.lossOfTarget st).Bounded := by
  unfold State.lossOfTarget
  (repeat' split)
  exacts [h, h, h.cancelJob, h, h.convert]

theorem chooseAgain {x : Item} : (s.chooseAgain j x).Bounded := h.modifyJob.gantryTakes

theorem destLost : (s.destLost i).Bounded := by
  unfold State.destLost
  (repeat' split)
  exacts [h, h, h.cancelJob, h, h.chooseAgain, h]

theorem awaitChoice : s.awaitChoice.Bounded := by
  unfold State.awaitChoice
  (repeat' split)
  exacts [h, h.modifyJob.gantryTakes, h, h]

theorem holdStation {x : Hold} : (s.holdStation st x).Bounded := h.stationSet.lossOfTarget

theorem sheetsOut : (s.sheetsOut st).Bounded := by
  unfold State.sheetsOut
  split
  exacts [h.holdStation, h]

theorem debris : (s.debris st).Bounded := by
  unfold State.debris
  split
  exacts [h, h, h.holdStation, h, h, h.setStn]

theorem enterPurge {c : PurgeCause} : (s.enterPurge l c).Bounded := by
  have hm : (s.setLane l (s.lanes.get l).marked).Bounded := h.setLane (by simpa [Lane.marked] using h.fifo_le l)
  unfold State.enterPurge
  dsimp only
  (repeat' split)
  exacts [hm.cancelJob.report.laneTest, hm.startRelease.report.laneTest, hm.report.laneTest]

/-! ### Guard (R34, R62, R151 to R154, R160, R161) -/

theorem returned : s.returned.Bounded := by
  unfold State.returned
  split
  exacts [h.resumeGantry.dispatchEvent, h.resumeGantry, h]

theorem guardClear {g : GuardInput} {o : Option Bool} : (s.guardClear g o).Bounded := by
  unfold State.guardClear
  dsimp only
  split
  exacts [h.setCellRun.setCellRun.guardReport, h.setCellRun.setCellRun.guardReport.returned,
    h.setCellRun.setCellRun.guardReport]

theorem endReservation : (s.endReservation st).Bounded := by
  unfold State.endReservation
  (repeat' split)
  exacts [h.setJob, h, h]

theorem stationClear {m : Standing} : (s.stationClear st m).Bounded :=
  (h.setPlan Plan.bounded_initial).setStack.endReservation.setStall.setStn.lossOfTarget.staleScan.stationSet.reschedule

theorem exchangeBack {m : Standing} : (s.exchangeBack st m).Bounded := by
  unfold State.exchangeBack
  dsimp only
  (repeat' split)
  exacts [h.returnToBuilding, h.stationSet.stationSet, h.stationSet, h.stationSet]

theorem exchangeEnd : (s.exchangeEnd st).Bounded := by
  unfold State.exchangeEnd
  dsimp only
  (repeat' split)
  exacts [h.stationClear, h.exchangeBack, h.stationClear, h]

/-! ### Dispatcher (R91 to R97) -/

theorem giveUp {c : Choice} : (s.giveUp c).Bounded := by
  unfold State.giveUp
  split
  exacts [h.ungrippableLane, h.ungrippableSlot, h.sheetsOut, h]

theorem claim {c : Choice} : (s.claim c).Bounded := by
  cases c with
  | place st p src => exact h.setPState
  | sheet st => exact h.setPlan (h.planBounded st).sheetJobMade
  | put | putaway => exact h

theorem createJob {c : Choice} : (s.createJob c).Bounded := h.setJob.claim.setGantry.gantryReport.startApproach

theorem holdForSheets : s.holdForSheets.Bounded := by
  unfold State.holdForSheets
  split
  · refine foldl (fun ht => ?_) h
    split
    exacts [ht.sheetsOut, ht]
  · exact h

theorem evaluate (fuel : Nat) : (s.evaluate fuel).Bounded := by
  induction fuel generalizing s with
  | zero => exact h
  | succ n ih =>
    unfold State.evaluate
    dsimp only
    (repeat' split)
    exacts [h.holdForSheets, h.holdForSheets.createJob, ih h.holdForSheets.giveUp, h]

/-! ### Homing (R117, R118) -/

theorem homedWithItem : s.homedWithItem.Bounded := by
  have hp := h.toPutaway.setPhase (x := .travel)
  unfold State.homedWithItem
  dsimp only
  (repeat' split)
  exacts [hp.gantryTo, hp.gantryTo.carryTest, hp.gantryTo.carryTest.retravel, hp.gantryTo.carryTest,
    hp.gantryTo.carryTest]

theorem homingComplete : s.homingComplete.Bounded := by
  unfold State.homingComplete
  dsimp only
  (repeat' split)
  exacts [h.setGantry.gantryTo, h.setGantry.homedWithItem, h.setGantry.cancelJob.gantryTo]

theorem homingXY : s.homingXY.Bounded := by
  unfold State.homingXY
  dsimp only
  (repeat' split)
  exacts [h.setGantry.homingFault, h.setGantry.homingComplete, h.setGantry, h.setGantry.homingComplete, h.setGantry,
    h.setGantry.homingComplete, h.setGantry, h.setGantry.homingComplete, h.setGantry]

theorem homingT : s.homingT.Bounded := by
  unfold State.homingT
  dsimp only
  split
  exacts [h.setGantry.setGantry.homingXY, h.setGantry]

theorem homingZ : s.homingZ.Bounded := by
  unfold State.homingZ
  dsimp only
  (repeat' split)
  exacts [h.setGantry.setGantry.homingT, h.setGantry.homingFault, h.setGantry]

theorem homingStart : s.homingStart.Bounded := h.setGantry.gantryTo.homingZ

theorem homeFound {a : Axis} : (s.homeFound a).Bounded := by
  unfold State.homeFound
  dsimp only
  (repeat' split)
  exacts [h.setGantry.homingT, h.setGantry.homingXY, h.setGantry.homingComplete, h.setGantry]

/-! ### Plan requests (R22, R30 to R33, R90, R162) -/

theorem awaitLayer {y : Layer} : (s.awaitLayer y).Bounded := by
  unfold State.awaitLayer
  (repeat' split)
  exacts [h.destinationEvent, h, h]

/-- A layer is taken where the queue and the pool have room for it (checks 5 and 6 of R21). -/
theorem takeLayer {y : Layer} (hq : (s.plan.get st).queue.length < Config.layerMax)
    (hp : (s.plan.get st).inUse + y.placements.length ≤ Config.poolMax) : (s.takeLayer st y).Bounded := by
  have hl := h.setPlan (st := st) (Plan.Bounded.take y hq hp)
  unfold State.takeLayer
  dsimp only
  (repeat' split)
  exacts [hl.setStack.reschedule.staleScan.dispatchEvent.awaitLayer.stationSet.sweepTrigger,
    hl.setStack.reschedule.staleScan.dispatchEvent.awaitLayer.sweepTrigger,
    hl.reschedule.staleScan.dispatchEvent.awaitLayer.stationSet.sweepTrigger,
    hl.reschedule.staleScan.dispatchEvent.awaitLayer.sweepTrigger,
    hl.setStack.reschedule.staleScan.dispatchEvent.awaitLayer.stationSet,
    hl.setStack.reschedule.staleScan.dispatchEvent.awaitLayer,
    hl.reschedule.staleScan.dispatchEvent.awaitLayer.stationSet, hl.reschedule.staleScan.dispatchEvent.awaitLayer]

theorem ownLoadLayer {b : List Byte} : (ownLoadLayer b s).1.Bounded := by
  unfold Machine.ownLoadLayer
  split
  · exact h
  next v hv =>
    dsimp only
    (repeat' split) <;> try exact h
    next hq hfree _ ps hps =>
      refine h.takeLayer (Nat.lt_of_not_le hq) ?_
      have hlen := State.checkPlaces_length hps
      have hcount := layerBody?_places_le hv
      have hin := (h.planBounded v.st).2
      simp only [LayerBody.record, Plan.free, List.length_nil] at *
      omega

theorem voidPlacement {id : Nat} : (s.voidPlacement st id).Bounded := h.setPState.noteVoid.examineLayers

theorem ownWithdrawId {b : List Byte} : (ownWithdrawId b s).1.Bounded := by
  unfold Machine.ownWithdrawId
  dsimp only
  (repeat' split)
  exacts [h, h, h, h, h, h.voidPlacement, h.voidPlacement]

theorem ownWithdrawTag {b : List Byte} : (ownWithdrawTag b s).1.Bounded := by
  unfold Machine.ownWithdrawTag
  dsimp only
  (repeat' split)
  · exact h
  · exact h
  · exact h
  next st _ _ _ _ _ =>
    have hp := h.setPlan (st := st) ((h.planBounded st).of_sublist
      (q := { s.plan.get st with queue := changeTag (u8 b 2) Layer.withdrawn (s.plan.get st).queue })
      (by simp [Plan.sizes]))
    exact (foldl (fun ht => ht.noteVoid) hp.reschedule.staleScan).examineLayers

theorem closedStation : (s.closedStation st).Bounded := by
  unfold State.closedStation
  split
  exacts [h.stationSet, h.endOfQueue]

theorem ownClosePlan {b : List Byte} : (ownClosePlan b s).1.Bounded := by
  unfold Machine.ownClosePlan
  (repeat' split)
  exacts [h, h, (h.setPlan (by exact h.planBounded _)).closedStation]

theorem markAbandoned : (s.markAbandoned st).Bounded := by
  unfold State.markAbandoned
  (repeat' split)
  exacts [h.setJob, h, h]

theorem ownAbandonPlan {b : List Byte} : (ownAbandonPlan b s).1.Bounded := by
  unfold Machine.ownAbandonPlan
  split
  · exact h
  next st _ =>
    have hp := h.setPlan (st := st) ((h.planBounded st).of_map (f := Layer.abandoned)
      (q := { queue := (s.plan.get st).queue.map Layer.abandoned, closed := true }) rfl
      (fun l => by simp [Layer.abandoned]))
    exact (foldl (fun ht => ht.noteVoid)
      hp.markAbandoned.reschedule.staleScan).examineLayers.lossOfTarget.closedStation

theorem ownSetDeparture {b : List Byte} : (ownSetDeparture b s).1.Bounded := by
  unfold Machine.ownSetDeparture
  dsimp only
  (repeat' split)
  exacts [h, h, h.setStn.reschedule, h.setStn.reschedule]

theorem sheetsIn : (s.sheetsIn st).Bounded := by
  unfold State.sheetsIn
  split
  exacts [h.returnToBuilding, h]

theorem ownSetSheets {b : List Byte} : (ownSetSheets b s).1.Bounded := by
  unfold Machine.ownSetSheets
  dsimp only
  split
  · exact h
  next hn =>
    have hm := h.setMagazine (Nat.le_of_not_lt hn)
    split
    exacts [hm, foldl (fun ht => ht.sheetsIn) hm]

/-! ### Operating requests (R72, R84, R117, R142, R148, R153, R158) -/

theorem ownHome : (ownHome s).1.Bounded := by
  unfold Machine.ownHome
  split
  exacts [h.homingStart, h]

theorem ownStart : (ownStart s).1.Bounded := by
  unfold Machine.ownStart
  (repeat' split)
  exacts [h, h, h, h, h.setCellRun.dispatchEvent]

theorem ownStop : (ownStop s).1.Bounded := h.setCellRun

theorem ownPauseQuick : (ownPauseQuick s).1.Bounded := by
  unfold Machine.ownPauseQuick
  (repeat' split)
  exacts [h, h.setCellRun.quickStop]

theorem ownPauseRamped {b : List Byte} : (ownPauseRamped b s).1.Bounded := by
  unfold Machine.ownPauseRamped
  (repeat' split)
  exacts [h, h, h, h.setCellRun.rampedStop]

theorem ownResume : (ownResume s).1.Bounded := by
  unfold Machine.ownResume
  (repeat' split)
  exacts [h.setCellRun.returned, h.setCellRun.returned, h, h]

theorem answerDrop : s.answerDrop.Bounded := h.setGripper

theorem ownRecover {b : List Byte} : (ownRecover b s).1.Bounded := by
  unfold Machine.ownRecover
  (repeat' split)
  exacts [h, h, h.answerDrop.debris, h.answerDrop.debris, h.answerDrop]

theorem zoneFault {e : GripEvent} : (s.zoneFault z e).Bounded := h.setGripper.gripReport

theorem refault : (s.refault z).Bounded := by
  unfold State.refault
  split
  exacts [h.zoneFault, h]

theorem ownGripperReset : (ownGripperReset s).1.Bounded := by
  have hz : (allZones.foldl State.refault (s.setGripper s.gripper.cleared)).Bounded :=
    foldl (fun ht => ht.refault) h.setGripper
  unfold Machine.ownGripperReset
  dsimp only
  (repeat' split)
  exacts [h, hz.dispatchEvent, hz]

theorem ownClearSlot {b : List Byte} : (ownClearSlot b s).1.Bounded := by
  unfold Machine.ownClearSlot
  (repeat' split)
  exacts [h, h, h, h, h.setSlot.report.slotEvent]

theorem ownStationHold {b : List Byte} : (ownStationHold b s).1.Bounded := by
  unfold Machine.ownStationHold
  (repeat' split)
  exacts [h, h.holdStation, h, h]

theorem ownStationResume {b : List Byte} : (ownStationResume b s).1.Bounded := by
  unfold Machine.ownStationResume
  (repeat' split)
  exacts [h, h, h.returnToBuilding, h]

theorem ownPurgeLane {b : List Byte} : (ownPurgeLane b s).1.Bounded := by
  unfold Machine.ownPurgeLane
  (repeat' split)
  exacts [h, h, h.enterPurge]

/-! ### Settings (R5, R10 to R12, R37, R109, R111, R135, R152) -/

theorem ownSetCell {b : List Byte} : (ownSetCell b s).1.Bounded := by
  unfold Machine.ownSetCell
  dsimp only
  (repeat' split)
  exacts [h, h, h.setGantry]

theorem ownSetStation {b : List Byte} : (ownSetStation b s).1.Bounded := by
  unfold Machine.ownSetStation
  dsimp only
  (repeat' split)
  exacts [h, h, h, h, h, h.setStack.setStn.setAuto.reschedule.sweepTrigger.setCellRun,
    h.setStack.setStn.setAuto.reschedule.sweepTrigger.setCellRun.returned]

theorem ownSetProfile {b : List Byte} : (ownSetProfile b s).1.Bounded := by
  unfold Machine.ownSetProfile
  dsimp only
  (repeat' split) <;> exact h

theorem ownSetHandling {b : List Byte} : (ownSetHandling b s).1.Bounded := by
  unfold Machine.ownSetHandling
  (repeat' split)
  exacts [h.setDir h.articles_le, h, h]

theorem ownSetGripper {b : List Byte} : (ownSetGripper b s).1.Bounded := by
  unfold Machine.ownSetGripper
  dsimp only
  (repeat' split)
  exacts [h, h, h.setGripper.gripTest.carryTest]

theorem ownDefineType {b : List Byte} : (ownDefineType b s).1.Bounded := by
  unfold Machine.ownDefineType
  dsimp only
  (repeat' split)
  exacts [h, h, h, h.setDir h.articles_le]

/-- A new code is taken where the table has room (R10). -/
theorem ownDefineArticle {b : List Byte} : (ownDefineArticle b s).1.Bounded := by
  unfold Machine.ownDefineArticle
  dsimp only
  (repeat' split) <;> try exact h
  · exact h.setDir (by simpa using h.articles_le)
  next hr => exact h.setDir (by simpa using hr)

theorem ownDropArticle {b : List Byte} : (ownDropArticle b s).1.Bounded := by
  unfold Machine.ownDropArticle
  dsimp only
  (repeat' split)
  exacts [h, h.setDir ((List.eraseP_sublist.length_le).trans h.articles_le), h]

/-! ### Events of the infeed and the shelf (R66 to R79, R83, R85) -/

/-- An arrival is stored where the FIFO has room (R70). -/
theorem arrive {f : List Byte} : (s.arrive l f).Bounded := by
  have hn : (if (s.lanes.get l).fifo.length < Config.fifoMax then (s.lanes.get l).fifo ++ [s.arrivalRec l f]
      else (s.lanes.get l).fifo).length ≤ Config.fifoMax := by
    split
    next hr => simpa using hr
    next => exact h.fifo_le l
  unfold State.arrive
  dsimp only
  split
  exacts [(h.setLane (by simpa using hn)).report.enterPurge, (h.setLane (by simpa using hn)).report]

theorem scan {b : Byte} : (s.scan l b).Bounded := by
  unfold State.scan
  dsimp only
  split
  exacts [(h.setLane (by exact h.fifo_le l)).arrive, h.setLane (by exact h.fifo_le l)]

theorem scanAll {bs : List Byte} : (s.scanAll l bs).Bounded := foldl (fun ht => ht.scan) h

theorem scanDrop : (s.scanDrop l).Bounded := h.setLane (h.fifo_le l)

theorem caseOn : (s.caseOn l).Bounded := by
  unfold State.caseOn
  dsimp only
  (repeat' split)
  exacts [h, h.setInputs.caseArrives, h.setInputs]

theorem releaseEnd {b : Bool} {w : Reason} : (s.releaseEnd l b w).Bounded := by
  have hp := (Lane.pop_length_le _).trans (h.fifo_le l)
  unfold State.releaseEnd
  dsimp only
  split
  exacts [(h.setLane (by exact hp)).report.laneTest, (h.setLane (by exact h.fifo_le l)).report.laneTest]

theorem lostAtPick : (s.lostAtPick l).Bounded := by
  have hp := (Lane.pop_length_le _).trans (h.fifo_le l)
  unfold State.lostAtPick
  dsimp only
  split
  exacts [(h.setLane (by exact hp)).report.laneTest.cancelJob, (h.setLane (by exact hp)).report.laneTest]

theorem caseOff : (s.caseOff l).Bounded := by
  unfold State.caseOff
  dsimp only
  (repeat' split)
  exacts [h, h.setInputs, h.setInputs.lostAtPick, h.setInputs.setLane (by exact h.fifo_le l), h.setInputs.releaseEnd]

theorem caseInput {v : Bool} : (s.caseInput l v).Bounded := by
  unfold State.caseInput
  split
  exacts [h.caseOn, h.caseOff]

theorem emptyInput {v : Bool} : (s.emptyInput l v).Bounded := by
  unfold State.emptyInput
  dsimp only
  (repeat' split)
  exacts [h, h.setInputs.laneTest, h.setInputs]

theorem waitExpires : (s.waitExpires l).Bounded := by
  unfold State.waitExpires
  dsimp only
  split
  exacts [h.startRelease, h]

theorem presenceOn : (s.presenceOn i).Bounded := by
  unfold State.presenceOn
  (repeat' split)
  exacts [h, h.setSlot.report.slotEvent.destLost, h]

theorem presenceOff : (s.presenceOff i).Bounded := by
  unfold State.presenceOff
  dsimp only
  (repeat' split)
  exacts [h.setSlot, h.setSlot.report.slotEvent.cancelJob, h.setSlot.report.slotEvent, h]

theorem presence {v : Bool} : (s.presence i v).Bounded := by
  unfold State.presence
  dsimp only
  (repeat' split)
  exacts [h, h.setInputs.presenceOn, h.setInputs.presenceOff]

theorem spillInput {v : Bool} : (s.spillInput v).Bounded := by
  unfold State.spillInput
  dsimp only
  (repeat' split)
  exacts [h, (h.setInputs.setSpill (Nat.zero_le _)).slotEvent, h.setInputs]

/-! ### Events of the gantry and the gripper (R115, R117, R118, R127, R134, R138 to R147) -/

theorem moveEnds {a : Axis} : (s.moveEnds a).Bounded := by
  unfold State.moveEnds
  dsimp only
  (repeat' split)
  exacts [h, h.setGantry.settleMotion, h, h.setGantry.settleMotion, h.setGantry.faultStop]

theorem homeInput {a : Axis} {v : Bool} : (s.homeInput a v).Bounded := by
  unfold State.homeInput
  dsimp only
  (repeat' split)
  exacts [h, h.setInputs.homeFound, h.setInputs]

theorem limitInput {a : LinAxis} {x : AxisEnd} {v : Bool} : (s.limitInput a x v).Bounded := by
  unfold State.limitInput
  dsimp only
  (repeat' split)
  exacts [h, h.setInputs, h.setInputs.homingFault, h.setInputs.faultStop, h.setInputs]

theorem reading {v : Nat} : (s.reading z v).Bounded := h.setInputs.gripTest.carryTest

theorem gripTimerEnds : s.gripTimerEnds.Bounded := by
  unfold State.gripTimerEnds
  dsimp only
  (repeat' split)
  exacts [h.setGripper, h.gripFail, h]

theorem releaseTimerEnds : s.releaseTimerEnds.Bounded := by
  unfold State.releaseTimerEnds
  dsimp only
  (repeat' split)
  exacts [h.setGripper.releaseComplete, h.setGripper.setGripper, h.setGripper.releaseStuck, h]

theorem pullInEnds : (s.pullInEnds z).Bounded := by
  unfold State.pullInEnds
  dsimp only
  split
  exacts [h.setGripper, h]

theorem gripLosesZone : (s.gripLosesZone z).Bounded := by
  unfold State.gripLosesZone
  dsimp only
  (repeat' split)
  exacts [h.setGripper, h.setGripper.gripFail, h.setGripper.gripTest]

theorem zoneFaultEffect : (s.zoneFaultEffect z).Bounded := by
  unfold State.zoneFaultEffect
  (repeat' split)
  exacts [h.gripLosesZone, h.carryTest, h, h]

theorem faultLevel {k : FaultKind} {v : Bool} : (s.faultLevel z k v).Bounded := by
  unfold State.faultLevel
  dsimp only
  (repeat' split)
  exacts [h, h.setInputs.zoneFault.zoneFaultEffect, h.setInputs]

theorem decays : s.decays.Bounded := by
  unfold State.decays
  dsimp only
  (repeat' split)
  exacts [h, h.setGripper, h.setGripper, h]

/-! ### Events of the guards and the stations (R128, R154, R155, R159 to R162) -/

theorem doorInput {v : Bool} : (s.doorInput v).Bounded := by
  unfold State.doorInput
  dsimp only
  (repeat' split)
  exacts [h, h.setInputs.guardStop, h.setInputs.guardClear]

theorem curtainBreaks : (s.curtainBreaks st).Bounded := by
  have hc := (h.setInputs (x := { s.inputs with curtain := s.inputs.curtain.set st true })).setStn (st := st)
    (m := { s.stn.get st with absentSeen := !s.inputs.pallet.get st })
  unfold State.curtainBreaks
  dsimp only
  split
  · exact h
  · split
    exacts [hc.setCellRun.report.stationSet.guardHalt, hc.setCellRun.report.stationSet]

theorem curtainRestored : (s.curtainRestored st).Bounded := by
  unfold State.curtainRestored
  dsimp only
  split
  exacts [h.setInputs.exchangeEnd.guardClear, h]

theorem curtainInput {v : Bool} : (s.curtainInput st v).Bounded := by
  unfold State.curtainInput
  split
  exacts [h.curtainBreaks, h.curtainRestored]

theorem palletInput {v : Bool} : (s.palletInput st v).Bounded := by
  unfold State.palletInput
  dsimp only
  (repeat' split)
  exacts [h, h.setInputs, h.setInputs.setStn, h.setInputs.stationSet]

theorem warningInput {v : Bool} : (s.warningInput v).Bounded := by
  unfold State.warningInput
  dsimp only
  (repeat' split)
  exacts [h, h.setInputs.guardReport, h.setInputs.setGantry.guardReport]

theorem departurePassed : (s.departurePassed st).Bounded := h.setStn.report.reschedule

theorem departureTick : (s.departureTick st).Bounded := by
  unfold State.departureTick
  (repeat' split)
  exacts [h.departurePassed, h.setStn.reschedule, h]

/-- The event of an input leaves the stores within their sizes, whichever input it is. -/
theorem inputEvent {x : Sensor} {v : Bool} : (s.inputEvent x v).Bounded := by
  cases x with
  | door => exact h.doorInput
  | warning => exact h.warningInput
  | spillCleared => exact h.spillInput
  | curtain st => exact h.curtainInput
  | pallet st => exact h.palletInput
  | casePresent l => exact h.caseInput
  | laneEmpty l => exact h.emptyInput
  | slot i => exact h.presence
  | home a => exact h.homeInput
  | limit a side => exact h.limitInput
  | fault z k => exact h.faultLevel

/-! ### The end of a step and the requests (R91, R103, R167 to R170) -/

theorem settle : s.settle.Bounded := by
  have hc : s.chosen.Bounded := by
    unfold State.chosen
    dsimp only
    (repeat' split)
    exacts [h.awaitChoice.evaluate 16, h.awaitChoice, h.evaluate 16, h]
  exact hc.setLink hc.linkBounded.choose

theorem request {kind : Nat} {tag : Byte} {body : List Byte} {owner : State → State × ReplyBody}
    (ho : ∀ {t : State}, t.Bounded → (owner t).1.Bounded) : (s.request kind tag body owner).Bounded := by
  have hd : ∀ {t : State}, t.Bounded → (t.decide kind body owner).Bounded := by
    intro t ht
    have hr : (t.decided kind body owner).1.Bounded := by
      unfold State.decided
      (repeat' split)
      exacts [ht, ht, ht, ho ht]
    exact hr.setLink (hr.linkBounded.answer _)
  have hi : (s.intake (byte kind) tag body).Bounded :=
    h.setLink (Link.Bounded.intake (l := { s.link with framer := .hunting }) h.linkBounded _ _ _)
  unfold State.request
  dsimp only
  (repeat' split)
  exacts [hd h, hd hi, hi]

theorem receive {bs : List Byte} : (s.receive bs).Bounded := h.setLink (h.linkBounded.receive bs)

/-! ### The resets (R87, R178, R179) -/

theorem cleared : s.cleared.Bounded :=
  ⟨Nat.zero_le _, Nat.zero_le _, Nat.zero_le _, fun l => by cases l <;> exact Nat.zero_le _, le_refl _, Nat.zero_le _,
    h.articles_le, fun st => by cases st <;> exact Nat.zero_le _, fun st => by cases st <;> exact Nat.zero_le _⟩

theorem settingsLost : s.settingsLost.Bounded := by
  obtain ⟨-, -, -, hf, hs, hm, -, hp⟩ := h
  exact ⟨Nat.zero_le _, Nat.zero_le _, Nat.zero_le _, hf, hs, hm, Nat.zero_le _, hp⟩

theorem readPickPoints : s.readPickPoints.Bounded := by
  refine foldl (fun ht => ?_) h
  split
  exacts [ht.caseArrives, ht]

theorem poweredOn : s.poweredOn.Bounded := h.settingsLost.cleared.report.readPickPoints

theorem restartClear : s.restartClear.Bounded := h.cleared.report.readPickPoints

theorem frameSent : s.frameSent.Bounded := by
  obtain ⟨hb, hy, hr⟩ := h.linkBounded
  have hs : (s.setLink { s.link with tx := none, backlog := s.link.backlog.drop 1 }).Bounded :=
    h.setLink ⟨by simpa using Nat.le_succ_of_le hb, hy, hr⟩
  unfold State.frameSent
  dsimp only
  (repeat' split)
  exacts [h, hs.restartClear, hs, h.setLink ⟨hb, hy, hr⟩]

/-! ### One millisecond -/

theorem tick : s.tick.Bounded := by
  obtain ⟨x, n, -, ht⟩ := s.tick_eq
  rw [ht]
  obtain ⟨hb, hy, hr, hf, hrest⟩ := h
  refine ⟨hb, hy, hr, fun l => ?_, hrest⟩
  cases l with
  | L1 => exact hf .L1
  | L2 => exact hf .L2

/-! ### Every command -/

theorem inputStood {x : Sensor} : (s.inputStood x fun v s => s.inputEvent x v).Bounded := h.setInputs.inputEvent

theorem filtered {x : Sensor} {v : Bool} : (filtered x v (fun v s => s.inputEvent x v) s).Bounded := by
  unfold Machine.filtered
  dsimp only
  (repeat' split)
  exacts [h, h.setInputs, h.inputStood.setInputs, h.inputStood, h.setInputs, h]

theorem run {f : State → State} (hf : ∀ {t : State}, t.Bounded → (f t).Bounded) {t : State} (ht : run f s = .next t) :
    t.Bounded := by
  cases ht
  exact (hf h.fresh).settle

theorem runRequest {kind : Nat} {tag : Byte} {body : List Byte} {owner : State → State × ReplyBody}
    (ho : ∀ {t : State}, t.Bounded → (owner t).1.Bounded) {t : State}
    (ht : Machine.run (fun s => s.request kind tag body owner) s = .next t) : t.Bounded :=
  h.run (fun hs => hs.request ho) ht

theorem exec {c : Instr} {t : State} (ht : exec c s = .next t) : t.Bounded := by
  cases c with
  | powerOn => exact h.run poweredOn ht
  | frameSent => exact h.run frameSent ht
  | goodFrame | frameCheckMismatch | bodyLengthAbove1020 =>
    exact h.run (f := fun s => s.receive _) (fun hs => hs.receive) ht
  | linkGapTimeout _ e =>
    exact h.run (f := fun s => (s.receive _).setFramer (hunt hostMarker e)) (fun hs => hs.receive.setFramer) ht
  | linkStopBitError => exact h.run (f := fun s => (s.receive _).setFramer .hunting) (fun hs => hs.receive.setFramer) ht
  | unknownKind =>
    simp only [Machine.exec, execUnknownKind] at ht
    exact h.run (fun hs => by split; exacts [hs, hs.request id]) ht
  | withdrawId =>
    simp only [Machine.exec, execWithdrawId] at ht
    exact h.run (fun hs => by split; exacts [hs, hs.request fun ht => ht.ownWithdrawId]) ht
  | withdrawTag =>
    simp only [Machine.exec, execWithdrawTag] at ht
    exact h.run (fun hs => by split; exacts [hs.request fun ht => ht.ownWithdrawTag, hs]) ht
  | pauseRamped =>
    simp only [Machine.exec, execPauseRamped] at ht
    exact h.run (fun hs => by split; exacts [hs, hs.request fun ht => ht.ownPauseRamped]) ht
  | pauseQuick =>
    simp only [Machine.exec, execPauseQuick] at ht
    exact h.run (fun hs => by split; exacts [hs.request fun ht => ht.ownPauseQuick, hs]) ht
  | lockSettings => exact h.runRequest (fun hs => hs.setLink hs.linkBounded) ht
  | restart | queryStation | queryLayer | queryPlacement | queryStack | querySurface | queryLane | queryShelf
  | queryGantry | queryGripper | queryType | queryArticle | queryHandling => exact h.runRequest (fun hs => hs) ht
  | setCell => exact h.runRequest (fun hs => hs.ownSetCell) ht
  | setStation => exact h.runRequest (fun hs => hs.ownSetStation) ht
  | setProfile => exact h.runRequest (fun hs => hs.ownSetProfile) ht
  | setHandling => exact h.runRequest (fun hs => hs.ownSetHandling) ht
  | setGripper => exact h.runRequest (fun hs => hs.ownSetGripper) ht
  | defineType => exact h.runRequest (fun hs => hs.ownDefineType) ht
  | defineArticle => exact h.runRequest (fun hs => hs.ownDefineArticle) ht
  | dropArticle => exact h.runRequest (fun hs => hs.ownDropArticle) ht
  | loadLayer => exact h.runRequest (fun hs => hs.ownLoadLayer) ht
  | closePlan => exact h.runRequest (fun hs => hs.ownClosePlan) ht
  | abandonPlan => exact h.runRequest (fun hs => hs.ownAbandonPlan) ht
  | setDeparture => exact h.runRequest (fun hs => hs.ownSetDeparture) ht
  | setSheets => exact h.runRequest (fun hs => hs.ownSetSheets) ht
  | home => exact h.runRequest (fun hs => hs.ownHome) ht
  | start => exact h.runRequest (fun hs => hs.ownStart) ht
  | stop => exact h.runRequest (fun hs => hs.ownStop) ht
  | resume => exact h.runRequest (fun hs => hs.ownResume) ht
  | recover => exact h.runRequest (fun hs => hs.ownRecover) ht
  | gripperReset => exact h.runRequest (fun hs => hs.ownGripperReset) ht
  | clearSlot => exact h.runRequest (fun hs => hs.ownClearSlot) ht
  | stationHold => exact h.runRequest (fun hs => hs.ownStationHold) ht
  | stationResume => exact h.runRequest (fun hs => hs.ownStationResume) ht
  | purgeLane => exact h.runRequest (fun hs => hs.ownPurgeLane) ht
  | arrival => exact h.run (f := fun s => s.scanAll _ _) (fun hs => hs.scanAll) ht
  | scannerGapTimeout | scannerStopBitError =>
    exact h.run (f := fun s => (s.scanAll _ _).scanDrop _) (fun hs => hs.scanAll.scanDrop) ht
  | waitExpiry => exact h.run (f := fun s => s.waitExpires _) (fun hs => hs.waitExpires) ht
  | walkEnd => exact h.run (f := fun s => s.walkEnds _) (fun hs => hs.walkEnds) ht
  | moveEnd => exact h.run (f := fun s => s.moveEnds _) (fun hs => hs.moveEnds) ht
  | homeSwitchNotFound =>
    simp only [Machine.exec, execHomeSwitchNotFound] at ht
    exact h.run (fun hs => by split; exacts [hs.homingFault, hs]) ht
  | vacuumReading => exact h.run (f := fun s => s.reading _ _) (fun hs => hs.reading) ht
  | gripTimerExpiry => exact h.run gripTimerEnds ht
  | releaseTimerExpiry => exact h.run releaseTimerEnds ht
  | pullInExpiry => exact h.run (f := fun s => s.pullInEnds _) (fun hs => hs.pullInEnds) ht
  | decayExpiry => exact h.run decays ht
  | departureTick => exact h.run (f := fun s => s.departureTick _) (fun hs => hs.departureTick) ht
  | duePassed =>
    simp only [Machine.exec, execDuePassed] at ht
    exact h.run (fun hs => by split; exacts [hs.departurePassed, hs]) ht
  | casePresentOn | casePresentOff | accumulationEmpty | slotPresence | spillTableCleared | homeSwitch | endLimit | door
  | curtainBreak | curtainRestore | palletPresent | warningField | faultInput =>
    rw [exec_sensor rfl] at ht
    exact h.run (fun hs => hs.filtered) ht

end operations

end State.Bounded

/-- Settles O55: a command is run on the state without it, and an idle step takes an input's event or a millisecond. -/
theorem boundsAreKeptByEveryStep : Obligations.BoundsAreKeptByEveryStep := by
  intro s t h ht
  unfold step at ht
  split at ht
  next =>
    unfold State.idle at ht
    split at ht
    · exact h.run (fun hs => hs.inputStood) ht
    · cases ht
      exact h.tick
  next c rest _ => exact State.Bounded.exec (s := { s with pending := rest }) h ht

end Sys2Proof.Machine
end

section
/-! The settings of the article directory: SET_HANDLING, DEFINE_TYPE, DEFINE_ARTICLE and DROP_ARTICLE (R2 to R12). -/

namespace Sys2Proof.Machine

/-! ### A request that changes the directory -/

/-- A kind of one body length fits where the body has it (step 2 of R169). -/
theorem bodyFits_of_length {k n : Nat} {b : List Byte} (h : b.length = n)
    (hk : fixedLength k = some n ∧ k ≠ 0x03 ∧ k ≠ 0x10 ∧ k ≠ 0x11) : bodyFits k b = true := by
  obtain ⟨hn, h3, h10, h11⟩ := hk
  unfold bodyFits
  split <;> simp_all

section request

variable {s : State} {kind : Nat} {tag : Byte} {body : List Byte} {owner : State → State × ReplyBody} {b : ReplyBody}
variable (h : s.link.Ready) (hk : isRequestKind kind = true) (hfit : bodyFits kind body = true)
variable (hl : lockedKind kind = false)
include h hk hfit hl

/-- A request of no lock that its owner answers without a change. -/
theorem run_request_answered (ho : owner (s.taken kind tag body) = (s.taken kind tag body, b)) :
    run (fun s => s.request kind tag body owner) s = .next (s.answered kind tag body b) :=
  run_request_refused s kind tag body b owner h hk hfit (.inl hl) ho

/-- A request of no lock whose owner stores another directory. -/
theorem run_request_setDir {d : Directory} (ho : owner (s.taken kind tag body) = ((s.taken kind tag body).setDir d, b)) :
    run (fun s => s.request kind tag body owner) s = .next (({ s with dir := d } : State).answered kind tag body b) := by
  rw [run_request_owner s kind tag body _ owner h hk hfit (.inl hl) ho rfl rfl, State.settle_ended _ rfl rfl]
  rfl

end request

/-! ### SET_HANDLING (R12) -/

theorem Handling.ok_iff (h : Handling) :
    h.ok = true ↔ h.profile ≤ 7 ∧ 20 ≤ h.speed ∧ h.speed ≤ 400 ∧ h.dist ≤ 200 ∧ 10 ≤ h.cost ∧ h.cost ≤ 600 := by
  simp [Handling.ok, within, and_assoc]

theorem ownSetHandling_range {b : List Byte} (s : State) (h : ¬(u8 b 0 < 6 ∧ (handlingBody b).ok = true)) :
    ownSetHandling b s = (s, .code .range) := by
  unfold ownSetHandling
  split
  next hi =>
    split
    next hok => exact absurd ⟨hi, hok⟩ h
    next => rfl
  next => rfl

theorem ownSetHandling_stores {b : List Byte} (s : State) {n : Fin 6} (hn : u8 b 0 = n.val)
    (hok : (handlingBody b).ok = true) : ownSetHandling b s =
      (s.setDir { s.dir with handling := s.dir.handling.set n (handlingBody b) }, .code .ok) := by
  unfold ownSetHandling
  simp [hok, State.accept, hn]

/-! ### DEFINE_ARTICLE and DROP_ARTICLE (R10, R11) -/

/-- Does an article table hold a code? -/
theorem articles_any_iff (l : List Article) (c : Nat) : l.any (fun a => a.code == c) = true ↔ ∃ a ∈ l, a.code = c := by
  simp

theorem articles_any_eq_false {l : List Article} {c : Nat} (h : ∀ a ∈ l, a.code ≠ c) :
    l.any (fun a => a.code == c) = false := by
  simpa using h

section define

variable {s : State} {b : List Byte} {c : Nat}

theorem ownDefineArticle_range (h : code? b 0 = none ∨ 64 ≤ u8 b 8) : ownDefineArticle b s = (s, .code .range) := by
  unfold ownDefineArticle
  split
  next => rfl
  next c hc =>
    have h8 : ¬u8 b 8 < Config.typeCount := by
      rcases h with h | h
      · exact absurd (hc.symm.trans h) (by simp)
      · exact Nat.not_lt.mpr h
    simp [h8, State.refuse]

section code

variable (hc : code? b 0 = some c) (h8 : u8 b 8 < 64)
include hc h8

theorem ownDefineArticle_undefined (ht : s.dir.typeAt (u8 b 8) = none) :
    ownDefineArticle b s = (s, .code .undefined) := by
  simp [ownDefineArticle, hc, Config.typeCount, h8, ht, State.refuse]

variable (ht : s.dir.typeAt (u8 b 8) ≠ none)
include ht

theorem ownDefineArticle_known (ha : ∃ a ∈ s.dir.articles, a.code = c) : ownDefineArticle b s =
    (s.setDir { s.dir with articles := s.dir.articles.map (fun a => if a.code = c then ⟨c, u8 b 8⟩ else a) },
      .articles s.dir.articles.length) := by
  have hm : s.dir.articles.map (fun a => if a.code = c then { a with type := u8 b 8 } else a)
      = s.dir.articles.map (fun a => if a.code = c then ⟨c, u8 b 8⟩ else a) :=
    List.map_congr_left fun a _ => by split <;> simp_all
  simp only [ownDefineArticle, hc, Config.typeCount, h8, (articles_any_iff _ _).mpr ha, Option.isNone_iff_eq_none, ht]
  simp [hm]

theorem ownDefineArticle_new (ha : ∀ a ∈ s.dir.articles, a.code ≠ c) (hroom : s.dir.articles.length < 256) :
    ownDefineArticle b s =
      (s.setDir { s.dir with articles := s.dir.articles ++ [⟨c, u8 b 8⟩] }, .articles (s.dir.articles.length + 1)) := by
  simp [ownDefineArticle, hc, Config.typeCount, Config.articleMax, h8, ht, articles_any_eq_false ha, hroom]

theorem ownDefineArticle_full (ha : ∀ a ∈ s.dir.articles, a.code ≠ c) (hfull : 256 ≤ s.dir.articles.length) :
    ownDefineArticle b s = (s, .code .full) := by
  simp [ownDefineArticle, hc, Config.typeCount, Config.articleMax, h8, ht, articles_any_eq_false ha,
    Nat.not_lt.mpr hfull, State.refuse]

end code

theorem ownDropArticle_range (hc : code? b 0 = none) : ownDropArticle b s = (s, .code .range) := by
  simp [ownDropArticle, hc, State.refuse]

theorem ownDropArticle_notFound (hc : code? b 0 = some c) (ha : ∀ a ∈ s.dir.articles, a.code ≠ c) :
    ownDropArticle b s = (s, .code .notFound) := by
  simp [ownDropArticle, hc, articles_any_eq_false ha, State.refuse]

/-- The first entry with the code is taken out of the table. -/
theorem ownDropArticle_removes {before after : List Article} {a : Article} (hc : code? b 0 = some c)
    (hs : s.dir.articles = before ++ a :: after) (ha : a.code = c) (hb : ∀ x ∈ before, x.code ≠ c) :
    ownDropArticle b s =
      (s.setDir { s.dir with articles := before ++ after }, .articles (s.dir.articles.length - 1)) := by
  have he : s.dir.articles.eraseP (fun a => a.code == c) = before ++ after := by
    rw [hs, List.eraseP_append_right _ (by simpa using hb), List.eraseP_cons_of_pos (by simpa using ha)]
  have hany : s.dir.articles.any (fun a => a.code == c) = true :=
    (articles_any_iff _ _).mpr ⟨a, by simp [hs], ha⟩
  have hlen : (before ++ after).length = s.dir.articles.length - 1 := by simp [hs]
  simp only [ownDropArticle, hc, hany, he, hlen, if_true]

end define

/-- Settles O20, request by request: the owner's decision, and the reply formed on it. -/
theorem handlingClassesAndArticlesAreStored : Obligations.HandlingClassesAndArticlesAreStored := by
  refine ⟨fun s tag b h hb => ⟨fun hr => ?_, fun n hn h1 h2 h3 h4 h5 h6 => ?_⟩, fun s tag b h hb => ⟨fun hr => ?_, ?_⟩,
    fun s tag b h hb => ⟨fun hc => ?_, fun c hc => ⟨fun ha => ?_, fun before a after hs ha hx => ?_⟩⟩⟩
  · refine run_request_answered h rfl (bodyFits_of_length hb (by decide)) rfl (ownSetHandling_range _ ?_)
    simpa only [Handling.ok_iff, handlingBody] using hr
  · refine run_request_setDir h rfl (bodyFits_of_length hb (by decide)) rfl (ownSetHandling_stores _ hn ?_)
    exact (Handling.ok_iff _).mpr ⟨h1, h2, h3, h4, h5, h6⟩
  · exact run_request_answered h rfl (bodyFits_of_length hb (by decide)) rfl (ownDefineArticle_range hr)
  · intro c hc h8
    have hfit : bodyFits 0x07 b = true := bodyFits_of_length hb (by decide)
    exact ⟨fun ht => run_request_answered h rfl hfit rfl (ownDefineArticle_undefined hc h8 ht), fun ht =>
      ⟨fun ha => run_request_setDir h rfl hfit rfl (ownDefineArticle_known hc h8 ht ha), fun ha =>
        ⟨fun hr => run_request_setDir h rfl hfit rfl (ownDefineArticle_new hc h8 ht ha hr),
          fun hf => run_request_answered h rfl hfit rfl (ownDefineArticle_full hc h8 ht ha hf)⟩⟩⟩
  · exact run_request_answered h rfl (bodyFits_of_length hb (by decide)) rfl (ownDropArticle_range hc)
  · exact run_request_answered h rfl (bodyFits_of_length hb (by decide)) rfl (ownDropArticle_notFound hc ha)
  · exact run_request_setDir h rfl (bodyFits_of_length hb (by decide)) rfl (ownDropArticle_removes hc hs ha hx)

/-! ### DEFINE_TYPE (R2, R4 to R7) -/

theorem mask?_eq_none {n : Nat} (h : 16 ≤ n) : mask? n = none := by
  simp [mask?, Nat.not_lt.mpr h]

/-- The record a HELD slot shows. -/
theorem Slot.record_eq_some {x : Slot} {r : ArrivalRec} : x.record = some r ↔ ∃ t m, x = .held r t m := by
  cases x <;> simp [Slot.record]

theorem mem_allStations (st : StationId) : st ∈ allStations := by cases st <;> decide

theorem mem_allSlots (i : SlotId) : i ∈ allSlots := by revert i; decide

theorem Placement.live_iff (p : Placement) : p.live = true ↔ p.state = .pending ∨ p.state = .bound := by
  simp [Placement.live]

/-- The case of a job: the one it carries, and its source case while it carries nothing (R7, R89). -/
theorem State.jobCase_eq_some {s : State} {j : Job} {r : ArrivalRec} : s.jobCase j = some r ↔
    j.carried = some (.case r) ∨ j.carried = none ∧ s.sourceCase j = some r := by
  unfold State.jobCase
  cases hc : j.carried with
  | none => simp
  | some x => cases x <;> simp

/-- The source case of a job before its grip: the front case of its lane or the case of its slot (R89). -/
theorem State.sourceCase_eq_some {s : State} {j : Job} {r : ArrivalRec} : s.sourceCase j = some r ↔ j.gripped = false
    ∧ ((∃ l rest, j.source = .lane l ∧ (s.lanes.get l).fifo = r :: rest)
      ∨ ∃ i t m, j.source = .slot i ∧ s.slots[i] = .held r t m) := by
  unfold State.sourceCase
  cases j.gripped <;> cases j.source <;> simp [Slot.record_eq_some, List.head?_eq_some_iff]

/-- When a type is referenced, with the job's case named (R7). -/
theorem State.referenced_iff (s : State) (n : Nat) : s.referenced n = true ↔
    (∃ st, ∃ p ∈ (s.plan.get st).placements, (p.state = .pending ∨ p.state = .bound) ∧ p.type = n)
    ∨ (∃ (i : SlotId) (r : ArrivalRec) (t : Nat) (m : Bool), s.slots[i] = .held r t m ∧ r.type = some n)
    ∨ ∃ j, s.job = some j ∧ (j.delivered = some n ∨ ∃ r, s.jobCase j = some r ∧ r.type = some n) := by
  have hplan : allStations.any (fun st => (s.plan.get st).placements.any (fun p => p.live && p.type == n)) = true ↔
      ∃ st, ∃ p ∈ (s.plan.get st).placements, (p.state = .pending ∨ p.state = .bound) ∧ p.type = n := by
    simp [List.any_eq_true, mem_allStations, Placement.live_iff]
  have hslot : allSlots.any (fun i => ((s.slots[i]).record.bind ArrivalRec.type) == some n) = true ↔
      ∃ (i : SlotId) (r : ArrivalRec) (t : Nat) (m : Bool), s.slots[i] = .held r t m ∧ r.type = some n := by
    simp [List.any_eq_true, mem_allSlots, Option.bind_eq_some_iff, Slot.record_eq_some]
  have hjob : (((s.job.bind s.jobCase).bind ArrivalRec.type) == some n || (s.job.bind Job.delivered) == some n) = true ↔
      ∃ j, s.job = some j ∧ (j.delivered = some n ∨ ∃ r, s.jobCase j = some r ∧ r.type = some n) := by
    cases s.job <;> simp [Option.bind_eq_some_iff, or_comm]
  rw [State.referenced, Bool.or_assoc, Bool.or_assoc, Bool.or_eq_true, Bool.or_eq_true, hplan, hslot, hjob]

theorem TypeBody.ok_iff (t : TypeBody) : t.ok = true ↔ t.index < Config.typeCount ∧ 50 ≤ t.len ∧ t.len ≤ 800 ∧ 50 ≤ t.wid
    ∧ t.wid ≤ 800 ∧ 50 ≤ t.hei ∧ t.hei ≤ 600 ∧ 1 ≤ t.wn ∧ t.wn ≤ 600 ∧ t.wtol ≤ 50 ∧ t.dtol ≤ 30 ∧ t.rc ≤ 4000
    ∧ t.stab ≤ 3 ∧ t.hcls ≤ 5 ∧ 1 ≤ zoneCount t.mask ∧ 1 ≤ t.minZones ∧ t.minZones ≤ 4 := by
  simp [TypeBody.ok, within, and_assoc]

/-- The design weight is the weight with its tolerance, rounded up (R4). -/
theorem designWeight_bounds {wn wtol : Nat} (h1 : 1 ≤ wn) (h2 : wn ≤ 600) (h3 : wtol ≤ 50) :
    100 * (designWeight wn wtol - 1) < wn * (100 + wtol) ∧ wn * (100 + wtol) ≤ 100 * designWeight wn wtol
      ∧ 1 ≤ designWeight wn wtol ∧ designWeight wn wtol ≤ 900 := by
  have hlo : 1 * 100 ≤ wn * (100 + wtol) := Nat.mul_le_mul h1 (Nat.le_add_right _ _)
  have hhi : wn * (100 + wtol) ≤ 600 * 150 := Nat.mul_le_mul h2 (by omega)
  unfold designWeight ceilDiv
  omega

section defineType

variable {s : State} {b : List Byte} {t : TypeBody}

theorem ownDefineType_undecodable (h : typeBody? b = none) : ownDefineType b s = (s, .code .range) := by
  simp [ownDefineType, h, State.refuse]

theorem ownDefineType_range (h : typeBody? b = some t) (hok : t.ok = false) :
    ownDefineType b s = (s, .code .range) := by
  simp [ownDefineType, h, hok, State.refuse]

theorem ownDefineType_referenced (h : typeBody? b = some t) (hok : t.ok = true) (hr : s.referenced t.index = true) :
    ownDefineType b s = (s, .code .state) := by
  simp [ownDefineType, h, hok, hr, State.refuse]

theorem ownDefineType_stores (h : typeBody? b = some t) (hok : t.ok = true) (hr : s.referenced t.index = false) :
    ownDefineType b s = (s.setDir { s.dir with types := s.dir.types.setIfInBounds t.index (some t.stored) },
      .typeStored t.index t.stored.minZones t.stored.duty t.stored.wd) := by
  simp [ownDefineType, h, hok, hr]

end defineType

/-- Settles O19: the checks of R5 and R7 in order, and the entry with the clamps of R6 and the design weight of R4. -/
theorem defineTypeStoresClampedWithDesignWeight : Obligations.DefineTypeStoresClampedWithDesignWeight := by
  refine ⟨fun s n => ?_, fun s tag b h hb hm => ?_, fun s tag b m wtol h hb hm hw => ?_⟩
  · rw [State.referenced_iff]
    refine or_congr_right (or_congr_right (exists_congr fun j => and_congr_right fun _ => ?_))
    simp only [State.jobCase_eq_some, State.sourceCase_eq_some]
    grind
  · exact run_request_answered h rfl (bodyFits_of_length hb (by decide)) rfl
      (ownDefineType_undecodable (by simp [typeBody?, mask?_eq_none hm]))
  · have hfit : bodyFits 0x06 b = true := bodyFits_of_length hb (by decide)
    have ht := show typeBody? b = some _ by rw [typeBody?, hm]
    rw [← hw] at ht
    refine ⟨fun hr => run_request_answered h rfl hfit rfl (ownDefineType_range ht ?_), fun hok =>
      have hok' := (TypeBody.ok_iff _).mpr hok
      ⟨fun hr => run_request_answered h rfl hfit rfl (ownDefineType_referenced ht hok' hr), fun hr => ?_⟩⟩
    · rw [Bool.eq_false_iff, ne_eq, TypeBody.ok_iff]
      exact hr
    · obtain ⟨-, -, -, -, -, -, -, h1, h2, h3, -⟩ := hok
      obtain ⟨w1, w2, w3, w4⟩ := designWeight_bounds h1 h2 h3
      exact ⟨_, w1, w2, w3, w4, run_request_setDir h rfl hfit rfl (ownDefineType_stores ht hok' hr)⟩

end Sys2Proof.Machine
end

section
/-! The twelve queries (R7, R14, R35, R64, R88, R131, R149, R165): each answers from the state as it stands. -/

namespace Sys2Proof.Machine

/-! ### A query changes nothing -/

/-- A query's answer is read from the state ahead of its own frame as well as behind it. -/
theorem run_query {s : State} {kind n : Nat} {tag : Byte} {body : List Byte} {f : State → ReplyBody} (h : s.link.Ready)
    (hb : body.length = n) (hk : isRequestKind kind = true)
    (hn : fixedLength kind = some n ∧ kind ≠ 0x03 ∧ kind ≠ 0x10 ∧ kind ≠ 0x11) (hl : lockedKind kind = false)
    (hf : f (s.taken kind tag body) = f s) :
    run (fun s => s.request kind tag body (asked f)) s = .next (s.answered kind tag body (f s)) :=
  run_request_answered h hk (bodyFits_of_length hb hn) hl (by rw [asked, hf])

/-! ### Stations, layers and placements (R35, R165) -/

section station

variable {s : State} {b : List Byte} {st : StationId} (hst : station? (u8 b 0) = some st)

theorem station_queries_range (h : station? (u8 b 0) = none) :
    ansQueryStation b s = .code .range ∧ ansQueryLayer b s = .code .range ∧ ansQueryPlacement b s = .code .range
      ∧ ansQueryStack b s = .code .range ∧ ansQuerySurface b s = .code .range := by
  simp [ansQueryStation, ansQueryLayer, ansQueryPlacement, ansQueryStack, ansQuerySurface, h]

include hst

theorem ansQueryStation_eq : ansQueryStation b s = .station (s.stationView st) := by
  simp only [ansQueryStation, hst]

theorem ansQueryLayer_range (h : 12 ≤ u8 b 1) : ansQueryLayer b s = .code .range := by
  simp [ansQueryLayer, hst, Config.layerMax, h]

theorem ansQueryLayer_notFound (h : u8 b 1 < 12) (hq : (s.plan.get st).queue.length ≤ u8 b 1) :
    ansQueryLayer b s = .code .notFound := by
  simp [ansQueryLayer, hst, Config.layerMax, Nat.not_le.mpr h, List.getElem?_eq_none hq]

theorem ansQueryLayer_found {l : Layer} (h : u8 b 1 < 12) (hl : (s.plan.get st).queue[u8 b 1]? = some l) :
    ansQueryLayer b s = .layer ((s.plan.get st).layerView (u8 b 1) l) := by
  simp [ansQueryLayer, hst, Config.layerMax, Nat.not_le.mpr h, hl]

end station

/-- Of the placements of a pool without equal ids, the one with an id is found by it (R18). -/
theorem Plan.find?_of_mem {p : Plan} {q : Placement} (hq : q ∈ p.placements)
    (hp : p.placements.Pairwise (fun x y => x.id ≠ y.id)) : p.find? q.id = some q := by
  obtain ⟨before, after, hs⟩ := List.append_of_mem hq
  have hb : before.find? (fun x => x.id == q.id) = none := by
    rw [hs, List.pairwise_append] at hp
    simpa using fun x hx => hp.2.2 x hx q (by simp)
  simp [Plan.find?, hs, List.find?_append, hb]

/-- The layer that holds it stands behind layers without its id. -/
theorem Plan.layerOf?_of_mem {p : Plan} {q : Placement} {before after : List Layer} {l : Layer}
    (hs : p.queue = before ++ l :: after) (hq : q ∈ l.placements)
    (hp : p.placements.Pairwise (fun x y => x.id ≠ y.id)) : p.layerOf? q.id = some before.length := by
  have hb : ∀ m ∈ before, ∀ x ∈ m.placements, x.id ≠ q.id := by
    rw [Plan.placements, hs] at hp
    simp only [List.map_append, List.map_cons, List.flatten_append, List.pairwise_append] at hp
    exact fun m hm x hx => hp.2.2 x (by simp; exact ⟨m, hm, hx⟩) q (by simp [hq])
  have hn : before.findIdx? (fun m => m.placements.any (fun x => x.id == q.id)) = none := by
    simpa using hb
  have hl : l.placements.any (fun x => x.id == q.id) = true := by
    simpa using ⟨q, hq, rfl⟩
  simp [Plan.layerOf?, hs, List.findIdx?_append, hn, List.findIdx?_cons, hl]

/-- Where a CASE entry carries an id, `indexOf?` names the index of such an entry (R18, R35). -/
theorem Stack.indexOf?_of_mem {k : Stack} {id : Nat} (h : id ∈ k.caseIds) :
    ∃ i e t, k.indexOf? id = some i ∧ k.table[i]? = some e ∧ e.kind = .case id t := by
  have hany : ∃ e ∈ k.table, ∃ t, e.kind = .case id t := by
    obtain ⟨e, he, hk⟩ := List.mem_filterMap.mp h
    refine ⟨e, he, ?_⟩
    split at hk
    next n t hn => exact ⟨t, by rw [hn]; simp_all⟩
    next => cases hk
  cases hi : k.indexOf? id with
  | none =>
    obtain ⟨e, he, t, hk⟩ := hany
    have := List.findIdx?_eq_none_iff.mp hi e he
    simp [hk] at this
  | some i =>
    obtain ⟨hlt, hp, -⟩ := List.findIdx?_eq_some_iff_getElem.mp hi
    refine ⟨i, k.table[i], ?_⟩
    split at hp
    next n t hk =>
      refine ⟨t, rfl, List.getElem?_eq_getElem hlt, ?_⟩
      rw [hk, beq_iff_eq.mp hp]
    next => cases hp

theorem Stack.indexOf?_of_not_mem {k : Stack} {id : Nat} (h : id ∉ k.caseIds) : k.indexOf? id = none := by
  refine List.findIdx?_eq_none_iff.mpr fun e he => ?_
  split
  next n t hk =>
    refine beq_eq_false_iff_ne.mpr fun hn => h (List.mem_filterMap.mpr ⟨e, he, ?_⟩)
    rw [hk, hn]
  next => rfl

section placement

variable {s : State} {b : List Byte} {st : StationId} (hst : station? (u8 b 0) = some st)
include hst

theorem ansQueryPlacement_queued {before after : List Layer} {l : Layer} {q : Placement}
    (hs : (s.plan.get st).queue = before ++ l :: after) (hq : q ∈ l.placements) (hid : q.id = u16 b 1)
    (hp : (s.plan.get st).placements.Pairwise (fun x y => x.id ≠ y.id)) : ansQueryPlacement b s =
      .placement q before.length l.tag (if q.state = .placed then (s.stack.get st).indexOf? (u16 b 1) else none) := by
  have hm : q ∈ (s.plan.get st).placements := by
    simp only [Plan.placements, hs]
    simp [hq]
  have hf := Plan.find?_of_mem hm hp
  have hl := Plan.layerOf?_of_mem hs hq hp
  rw [hid] at hf hl
  simp [ansQueryPlacement, hst, hf, hl, hs]

section unqueued

variable (hn : ∀ q ∈ (s.plan.get st).placements, q.id ≠ u16 b 1)
include hn

theorem ansQueryPlacement_notFound (h : u16 b 1 ∉ (s.stack.get st).caseIds) :
    ansQueryPlacement b s = .code .notFound := by
  have hf : (s.plan.get st).find? (u16 b 1) = none := by simpa [Plan.find?] using hn
  simp [ansQueryPlacement, hst, hf, Stack.indexOf?_of_not_mem h]

theorem ansQueryPlacement_onStack {i : Nat} (h : (s.stack.get st).indexOf? (u16 b 1) = some i) :
    ansQueryPlacement b s = .placedOnStack i := by
  have hf : (s.plan.get st).find? (u16 b 1) = none := by simpa [Plan.find?] using hn
  simp [ansQueryPlacement, hst, hf, h]

end unqueued

end placement

/-! ### The stack (R64) -/

section stack

variable {s : State} {b : List Byte} {st : StationId} (hst : station? (u8 b 0) = some st)
include hst

theorem ansQueryStack_range (h : 160 ≤ u8 b 1) : ansQueryStack b s = .code .range := by
  simp [ansQueryStack, hst, Config.stackMax, h]

theorem ansQueryStack_notFound (h : u8 b 1 < 160) (ht : (s.stack.get st).table.length ≤ u8 b 1) :
    ansQueryStack b s = .code .notFound := by
  simp [ansQueryStack, hst, Config.stackMax, Nat.not_le.mpr h, List.getElem?_eq_none ht]

theorem ansQueryStack_found {e : Entry} (h : u8 b 1 < 160) (he : (s.stack.get st).table[u8 b 1]? = some e) :
    ansQueryStack b s = .stackEntry (u8 b 1) e (s.stack.get st).table.length := by
  simp [ansQueryStack, hst, Config.stackMax, Nat.not_le.mpr h, he]

theorem ansQuerySurface_range (h : (s.stack.get st).limits.foot.nj ≤ u8 b 1) : ansQuerySurface b s = .code .range := by
  simp [ansQuerySurface, hst, h]

theorem ansQuerySurface_row (h : u8 b 1 < (s.stack.get st).limits.foot.nj) : ansQuerySurface b s =
    .surfaceRow ((List.range (s.stack.get st).limits.foot.ni).map (fun i => (s.stack.get st).cell i (u8 b 1)))
      (s.stack.get st).highest := by
  simp [ansQuerySurface, hst, Nat.not_le.mpr h]

end stack

/-- A row shows the cells of the map that stand in it. -/
theorem Stack.row_getElem? {k : Stack} {i j : Nat} {c x : Cell}
    (hc : ((List.range k.limits.foot.ni).map (fun i => k.cell i j))[i]? = some c)
    (hx : k.map[j * k.limits.foot.ni + i]? = some x) : c = x := by
  obtain ⟨hi, rfl⟩ := List.getElem?_eq_some_iff.mp hc
  simp [Stack.cell, Footprint.at, hx]

/-! ### Lanes, shelf, gantry and gripper (R88, R131, R149) -/

theorem ansQueryLane_eq {s : State} {b : List Byte} {l : LaneId} (h : lane? (u8 b 0) = some l) :
    ansQueryLane b s = .lane {
      purging := (s.lanes.get l).purging, accept := (s.lanes.get l).accept, pick := (s.lanes.get l).pick
      bound := (s.lanes.get l).pick == .front && s.laneBound l, wait := (s.lanes.get l).wait
      limit := s.gantry.waitLimit, seq := (s.lanes.get l).seq, count := (s.lanes.get l).fifo.length
      records := (s.lanes.get l).fifo.map ArrivalRec.view } := by
  simp only [ansQueryLane, h]

theorem getElem?_allSlots (i : SlotId) : allSlots[i.val]? = some i := by
  revert i
  decide

/-- What QUERY_SHELF shows of each slot (R88). -/
theorem State.slotView_cases (s : State) (i : SlotId) :
    match s.slots[i] with
    | .empty _ => (s.slotView i).state = .empty ∧ (s.slotView i).held = none
    | .blocked => (s.slotView i).state = .blocked ∧ (s.slotView i).held = none
    | .held r t _ => (s.slotView i).state = .held
        ∧ (s.slotView i).held = some ⟨r.lane, r.seq, r.type, r.orient, t, !s.wantedRec r⟩ := by
  cases h : s.slots[i] <;> simp [State.slotView, h, Slot.name, State.staleRec]

theorem slot?_eq_none {n : Nat} (h : 8 ≤ n) : slot? n = none := by
  simp [slot?, Nat.not_lt.mpr h]

theorem slot?_val (i : SlotId) : slot? i.val = some i := by
  simp [slot?]

/-! ### The directory (R7, R14) -/

theorem ansQueryType_range {s : State} {b : List Byte} (h : 64 ≤ u8 b 0) : ansQueryType b s = .code .range := by
  simp [ansQueryType, Config.typeCount, Nat.not_lt.mpr h]

theorem ansQueryType_undefined {s : State} {b : List Byte} (h : u8 b 0 < 64) (ht : s.dir.typeAt (u8 b 0) = none) :
    ansQueryType b s = .typeUndefined := by
  simp [ansQueryType, Config.typeCount, h, ht]

theorem ansQueryType_defined {s : State} {b : List Byte} {t : CaseType} (h : u8 b 0 < 64)
    (ht : s.dir.typeAt (u8 b 0) = some t) : ansQueryType b s = .typeDefined t (s.referenced (u8 b 0)) := by
  simp [ansQueryType, Config.typeCount, h, ht]

theorem ansQueryArticle_notFound {s : State} {b : List Byte} {c : Nat} (hc : code? b 0 = some c)
    (ha : ∀ a ∈ s.dir.articles, a.code ≠ c) : ansQueryArticle b s = .code .notFound := by
  have hf : s.dir.articles.find? (fun a => a.code == c) = none := by simpa using ha
  simp [ansQueryArticle, hc, Directory.lookup, hf]

/-- The first entry with a code gives its type. -/
theorem ansQueryArticle_found {s : State} {b : List Byte} {c : Nat} {before after : List Article} {a : Article}
    (hc : code? b 0 = some c) (hs : s.dir.articles = before ++ a :: after) (ha : a.code = c)
    (hb : ∀ x ∈ before, x.code ≠ c) : ansQueryArticle b s = .article a.type s.dir.articles.length := by
  have hn : before.find? (fun a => a.code == c) = none := by simpa using hb
  simp [ansQueryArticle, hc, Directory.lookup, hs, List.find?_append, hn, ha]

/-- Settles O14: each query's answer is that of the state as it stands, and holds the fields its rule names. -/
theorem queriesAnswerAndChangeNothing : Obligations.QueriesAnswerAndChangeNothing := by
  refine ⟨fun s tag b h => ?_, fun s b => station_queries_range, ?_, fun s b => ?_⟩
  · refine ⟨?_, ?_, ?_, ?_, ?_, ?_, ?_, ?_, ?_, ?_, ?_, ?_⟩ <;> intro hb <;>
      exact run_query h hb (by decide) (by decide) (by decide) rfl
  · rintro s b st n p k hst rfl rfl rfl
    refine ⟨ansQueryStation_eq hst, ansQueryLayer_range hst, ansQueryLayer_notFound hst,
      fun l => ansQueryLayer_found hst, fun before l after q hs hq hid hp => ?_, fun hn => ?_, ansQueryStack_range hst,
      ansQueryStack_notFound hst, fun e => ansQueryStack_found hst, ansQuerySurface_range hst, fun h => ?_⟩
    · refine ⟨_, ansQueryPlacement_queued hst hs hq hid hp, fun h => if_neg h, fun h hc => ?_⟩
      obtain ⟨i, e, t, hi, he, ht⟩ := Stack.indexOf?_of_mem hc
      exact ⟨i, e, t, by rw [if_pos h, hi], he, ht⟩
    · refine ⟨ansQueryPlacement_notFound hst hn, fun hc => ?_⟩
      obtain ⟨i, e, t, hi, he, ht⟩ := Stack.indexOf?_of_mem hc
      exact ⟨i, e, t, he, ht, ansQueryPlacement_onStack hst hn hi⟩
    · refine ⟨_, ansQuerySurface_row hst h, by rw [List.length_map, List.length_range]; rfl,
        fun i c hc x hx => Stack.row_getElem? hc ?_⟩
      simpa using hx
  · refine ⟨fun h => by simp [ansQueryLane, h], ?_, ?_, fun h => by simp [ansQueryGantry, slot?_eq_none h], ?_, ?_,
      ansQueryType_range, ansQueryType_undefined, ?_, fun h => by simp [ansQueryArticle, h], fun c hc =>
      ⟨ansQueryArticle_notFound hc, fun before a after => ansQueryArticle_found hc⟩, ?_, ?_⟩
    · rintro l n hl rfl
      exact ansQueryLane_eq hl
    · exact ⟨_, rfl, rfl, fun i => ⟨s.slotView i, by simp [getElem?_allSlots], rfl, s.slotView_cases i⟩⟩
    · intro i hi
      simp only [ansQueryGantry, hi, slot?_val]
      rfl
    · cases hg : s.gripper.state <;> simp [ansQueryGripper, hg, Config.releaseLevel]
    · intro t h ht
      refine ⟨_, ansQueryType_defined h ht, rfl, ?_⟩
      rw [State.referenced_iff]
      simp only [State.jobCase_eq_some]
    · intro h
      simp [ansQueryHandling, Vector.getElem?_eq_none h]
    · intro i hi
      simp [ansQueryHandling, hi]

end Sys2Proof.Machine
end

section
/-! SUPPORT. A job on its way to its source (R121): from its creation to its grip a job keeps its record but for the phase,
and the plans and the stations stay as they are, wherever the gantry is stopped on the way. -/

namespace Sys2Proof.Machine

/-! ### A job on its way -/

/-- A job stands as it was made, but for its phase, and the plans and stations are those of `s`. -/
structure State.Underway (s : State) (j : Job) (t : State) : Prop where
  job : ∃ p, t.job = some { j with phase := p }
  state : t.gantry.state ≠ .idle
  plan : t.plan = s.plan
  stn : t.stn = s.stn

/-- The phases of a job ahead of its grip (R121). -/
def Phase.fetches : Phase → Bool
  | .approach | .pickDown | .grip => true
  | _ => false

theorem Phase.redirected_of_fetches {p : Phase} (h : p.fetches = true) : p.redirected = p := by
  cases p with
  | approach | pickDown | grip => rfl
  | _ => cases h

/-- A job on its way to an item that can be gripped. -/
structure State.Fetching (s : State) (j : Job) (t : State) : Prop where
  job : ∃ p, t.job = some { j with phase := p } ∧ p.fetches = true
  state : t.gantry.state ≠ .idle
  plan : t.plan = s.plan
  stn : t.stn = s.stn
  grips : t.grippable (t.sourceCase j) = true

theorem State.Fetching.underway {s t : State} {j : Job} (h : s.Fetching j t) : s.Underway j t :=
  ⟨h.job.imp fun _ hp => hp.1, h.state, h.plan, h.stn⟩

/-- A job that has not begun to carry is not watched (R141). -/
theorem State.carryTest_of_fetches {t : State} {j : Job} (hj : t.job = some j) (hp : j.phase.fetches = true) :
    t.carryTest = t := by
  have hw : t.watched = false := by
    unfold State.watched
    rw [hj]
    cases hph : j.phase <;> simp_all [Phase.fetches]
  simp [State.carryTest, hw]

namespace State.Fetching

variable {s t : State} {j : Job} (h : s.Fetching j t)
include h

theorem setGantry {g : Gantry} (hg : g.state ≠ .idle) : s.Fetching j (t.setGantry g) :=
  ⟨h.job, hg, h.plan, h.stn, h.grips⟩

theorem setMotion {m : Motion} : s.Fetching j (t.setMotion m) := h.setGantry h.state
theorem computeTravel : s.Fetching j t.computeTravel := h.setGantry h.state
theorem setCellRun {r : CellRun} : s.Fetching j (t.setCellRun r) := ⟨h.job, h.state, h.plan, h.stn, h.grips⟩
theorem report {b : ReportBody} : s.Fetching j (t.report b) := ⟨h.job, h.state, h.plan, h.stn, h.grips⟩

theorem setPhase {p : Phase} (hp : p.fetches = true) : s.Fetching j (t.setPhase p) := by
  obtain ⟨q, hq, -⟩ := h.job
  exact ⟨⟨p, by simp [State.setPhase, hq, State.setJob], hp⟩, h.state, h.plan, h.stn, h.grips⟩

theorem gantryTo {x : GState} (hx : x ≠ .idle) : s.Fetching j (t.gantryTo x) := by
  unfold State.gantryTo
  rw [if_neg hx]
  split
  · exact h
  · exact (h.setGantry hx).report

/-! ### Stops (R118, R124, R127, R154, R159) -/

theorem faultStop {c : FaultCause} : s.Fetching j (t.faultStop c) :=
  (h.setGantry (g := { t.gantry.halt with heldChange := false }) h.state).gantryTo (by simp)

theorem homingStop : s.Fetching j t.homingStop := by
  refine State.Fetching.gantryTo (h.setGantry (g := { t.gantry.halt.clearMarks with kept := none }) h.state) ?_
  split <;> simp

/-- A change held for STOPPED changes nothing before the grip (R123). -/
theorem takeStopped (hd : j.dest ≠ none) : s.Fetching j t.takeStopped := by
  obtain ⟨p, hj, hp⟩ := h.job
  have hr := h.setPhase (p := p.redirected) (by rwa [Phase.redirected_of_fetches hp])
  obtain ⟨q, hq, hqf⟩ := hr.job
  unfold State.takeStopped
  simp only [hj, hd, if_false]
  rwa [State.carryTest_of_fetches hq hqf]

theorem enterStopped (hd : j.dest ≠ none) : s.Fetching j t.enterStopped := by
  have hs := (h.setGantry (g := { t.gantry with heldChange := false }) h.state).gantryTo (x := .stopped) (by simp)
  obtain ⟨p, hj, -⟩ := hs.job
  unfold State.enterStopped
  simp only [hj]
  split
  · exact hs.takeStopped hd
  · exact hs

theorem quickStop (hd : j.dest ≠ none) : s.Fetching j t.quickStop := by
  have hs := h.setGantry (g := t.gantry.halt) h.state
  unfold State.quickStop
  dsimp only
  split
  exacts [hs.enterStopped hd, hs.enterStopped hd, hs.enterStopped hd, hs.homingStop, hs]

theorem guardStop {g : GuardInput} {o : Option Bool} (hd : j.dest ≠ none) : s.Fetching j (t.guardStop g o) := by
  have hs : s.Fetching j ((t.setCellRun (t.cell.run.trip g).1).guardReport g true (t.cell.run.trip g).2 o) :=
    h.setCellRun.report
  unfold State.guardStop State.guardHalt
  dsimp only
  (repeat' split)
  exacts [hs.quickStop hd, hs.homingStop, hs]

/-! ### Starts of moves (R113, R115) -/

theorem startLin {a : LinAxis} {m : Move} (hd : j.dest ≠ none) : s.Fetching j (t.startLin a m).1 := by
  unfold State.startLin
  dsimp only
  (repeat' split)
  exacts [h, h.guardStop hd, h.faultStop, h.setGantry h.state]

theorem startMove {a : LinAxis} {f : Profile} {x : Int} (hd : j.dest ≠ none) : s.Fetching j (t.startMove a f x).1 :=
  h.startLin hd

theorem startT {x : Turn} : s.Fetching j (t.startT x) := by
  unfold State.startT
  split
  exacts [h, h.setGantry h.state]

omit h in
/-- The first state of a pair, under the name a match gives it. -/
theorem of_fst {r : State × Bool} {b : Bool} (h : s.Fetching j r.1) (e : r = (t, b)) : s.Fetching j t := by
  subst e
  exact h

theorem startXY {f : Profile} {xy : Int × Int} {x : Turn} (hd : j.dest ≠ none) :
    s.Fetching j (t.startXY f xy x).1 := by
  unfold State.startXY
  split
  next hx => exact (h.startMove hd).of_fst hx
  next hx =>
    have hs := (h.startMove hd).of_fst hx
    split
    next hy => exact (hs.startMove hd).of_fst hy
    next hy => exact ((hs.startMove hd).of_fst hy).startT

/-! ### Phases (R121) -/

section next

variable {next : State → State} (hn : ∀ {t : State}, s.Fetching j t → s.Underway j (next t))
include hn

theorem movingOr {m : Motion} : s.Underway j (t.movingOr m next) := by
  unfold State.movingOr
  split
  exacts [h.setMotion.underway, hn h]

theorem riseOr {k : Job} (hd : j.dest ≠ none) : s.Underway j (t.riseOr k next) := by
  unfold State.riseOr
  dsimp only
  split
  · split
    next hz => exact ((h.computeTravel.startMove hd).of_fst hz).setMotion.underway
    next hz => exact ((h.computeTravel.startMove hd).of_fst hz).underway
  · exact hn h.computeTravel

theorem descendOr {k : Job} {x : Int} (hd : j.dest ≠ none) : s.Underway j (t.descendOr k x next) := by
  unfold State.descendOr
  dsimp only
  split
  next hz => exact ((h.startLin hd).of_fst hz).movingOr hn
  next hz => exact ((h.startLin hd).of_fst hz).underway

end next

/-- Where the zones are enough the grip begins (R138). -/
theorem startGripPhase : s.Underway j t.startGripPhase := by
  have hs := h.setPhase (p := .grip) rfl
  obtain ⟨p, hj, -⟩ := hs.job
  have hz := Nat.not_lt.mpr (of_decide_eq_true hs.grips)
  unfold State.startGripPhase
  simp only [hj]
  split
  · obtain ⟨g, hg⟩ : ∃ g, (t.setPhase .grip).gripBegin { j with phase := p } = ((t.setPhase .grip).setGripper g, true) :=
      ⟨_, if_neg hz⟩
    rw [hg]
    exact ⟨⟨p, hj⟩, hs.state, hs.plan, hs.stn⟩
  · exact hs.underway

theorem startPickDown (hd : j.dest ≠ none) : s.Underway j t.startPickDown := by
  have hs := h.setPhase (p := .pickDown) rfl
  obtain ⟨p, hj, -⟩ := hs.job
  unfold State.startPickDown
  simp only [hj]
  exact hs.descendOr (fun ht => ht.startGripPhase) hd

theorem approachXY (hd : j.dest ≠ none) : s.Underway j t.approachXY := by
  obtain ⟨p, hj, -⟩ := h.job
  unfold State.approachXY
  simp only [hj]
  split
  next hx => exact ((h.startXY hd).of_fst hx).movingOr (fun ht => ht.startPickDown hd)
  next hx => exact ((h.startXY hd).of_fst hx).underway

theorem startApproach (hd : j.dest ≠ none) : s.Underway j t.startApproach := by
  have hs := h.setPhase (p := .approach) rfl
  obtain ⟨p, hj, -⟩ := hs.job
  unfold State.startApproach
  simp only [hj]
  exact hs.riseOr (fun ht => ht.approachXY hd) hd

end State.Fetching

end Sys2Proof.Machine
end

section
/-! SUPPORT. The claim of a job (R97) and the hold of a station (R158): what each leaves as it was. -/

namespace Sys2Proof.Machine

/-! ### Changes of stations -/

/-- At most the station blocks, the stall marks, the link and the dispatch event differ. -/
def State.StationsOnly (s u : State) : Prop :=
  u = { s with stn := u.stn, stall := u.stall, link := u.link, evalDue := u.evalDue }

namespace State.StationsOnly

variable {s t u : State}

theorem refl (s : State) : s.StationsOnly s := rfl

theorem trans (h : s.StationsOnly t) (k : t.StationsOnly u) : s.StationsOnly u := by
  unfold State.StationsOnly at h
  rw [h] at k
  exact k

theorem ite {c : Prop} [Decidable c] (h : s.StationsOnly t) (k : s.StationsOnly u) :
    s.StationsOnly (if c then t else u) := by
  split
  exacts [h, k]

theorem reschedule (s : State) (st : StationId) : s.StationsOnly (s.reschedule st) := .ite rfl rfl

theorem stallTest (s : State) (st : StationId) : s.StationsOnly (s.stallTest st) := by
  refine .ite rfl (.ite (.ite rfl ?_) rfl)
  dsimp only
  split <;> rfl

theorem stationSet (s : State) (st : StationId) (m : Mode) (early : Bool) : s.StationsOnly (s.stationSet st m early) := by
  have hm : s.StationsOnly ((s.setStn st { s.stn.get st with mode := m }).report
    (.station st (s.stn.get st).mode m early)) := rfl
  have hd (t : State) : t.StationsOnly t.dispatchEvent := rfl
  exact .ite rfl (((hm.trans (reschedule _ st)).trans (hd _)).trans (stallTest _ st))

theorem plan (h : s.StationsOnly u) : u.plan = s.plan := by rw [h]
theorem stack (h : s.StationsOnly u) : u.stack = s.stack := by rw [h]
theorem job (h : s.StationsOnly u) : u.job = s.job := by rw [h]
theorem magazine (h : s.StationsOnly u) : u.magazine = s.magazine := by rw [h]
theorem gantry (h : s.StationsOnly u) : u.gantry = s.gantry := by rw [h]
theorem gripper (h : s.StationsOnly u) : u.gripper = s.gripper := by rw [h]
theorem cell (h : s.StationsOnly u) : u.cell = s.cell := by rw [h]

end State.StationsOnly

section

variable (s : State) (st : StationId)

theorem State.reschedule_stn_of_ne {st' : StationId} (h : st' ≠ st) : (s.reschedule st).stn.get st' = s.stn.get st' := by
  unfold State.reschedule
  dsimp only
  split <;> exact PerStation.get_set_ne _ _ h

/-- A schedule leaves every station's state. -/
@[simp] theorem State.reschedule_modes (st' : StationId) :
    ((s.reschedule st).stn.get st').mode = (s.stn.get st').mode := by
  by_cases h : st' = st
  · subst h
    exact s.reschedule_mode st'
  · rw [s.reschedule_stn_of_ne st h]

@[simp] theorem State.stallTest_stn : (s.stallTest st).stn = s.stn := by
  unfold State.stallTest
  dsimp only
  (repeat' split) <;> rfl

@[simp] theorem State.stationSet_mode (m : Mode) (early : Bool) : ((s.stationSet st m early).stn.get st).mode = m := by
  unfold State.stationSet
  dsimp only
  split
  · assumption
  · simp

theorem State.stationSet_stn_of_ne (m : Mode) (early : Bool) {st' : StationId} (h : st' ≠ st) :
    (s.stationSet st m early).stn.get st' = s.stn.get st' := by
  unfold State.stationSet
  dsimp only
  split
  · rfl
  · simp [State.reschedule_stn_of_ne _ _ h, PerStation.get_set_ne _ _ h]

/-- Without a job a hold has no more to it than the change of state (R101). -/
theorem State.holdStation_of_no_job {s : State} (hj : s.job = none) (st : StationId) (h : Hold) :
    s.holdStation st h = s.stationSet st (.plain (.held h)) := by
  have hn : (s.stationSet st (.plain (.held h))).job = none :=
    (congrArg Floor.job (s.stationSet_floor st _ false)).trans hj
  simp [State.holdStation, State.lossOfTarget, hn]

end

/-! ### The claim -/

section

variable (s : State) (st : StationId)

/-- What a stale scan keeps: plans, stations, and the record of every slot. -/
structure State.KeepsRecords (s u : State) : Prop where
  plan : u.plan = s.plan
  stn : u.stn = s.stn
  record : ∀ i : SlotId, u.slots[i].record = s.slots[i].record

theorem State.KeepsRecords.trans {s t u : State} (h : s.KeepsRecords t) (k : t.KeepsRecords u) : s.KeepsRecords u :=
  ⟨k.plan.trans h.plan, k.stn.trans h.stn, fun i => (k.record i).trans (h.record i)⟩

theorem State.keepsRecords_setSlot {i : SlotId} {x : Slot} (h : x.record = s.slots[i].record) :
    s.KeepsRecords (s.setSlot i x) := by
  refine ⟨rfl, rfl, fun k => ?_⟩
  by_cases hk : i = k
  · subst hk
    simpa using h
  · have hv : i.val ≠ k.val := fun e => hk (Fin.ext e)
    simp [Vector.getElem_set_ne, hv]

theorem State.staleScanSlot_keeps (i : SlotId) : s.KeepsRecords (s.staleScanSlot i) := by
  unfold State.staleScanSlot
  split
  next r x m hx =>
    have h (b : Bool) := s.keepsRecords_setSlot (i := i) (x := .held r x b) (by rw [hx]; rfl)
    split
    · split
      · exact ⟨rfl, rfl, fun _ => rfl⟩
      · exact ⟨(h true).plan, (h true).stn, (h true).record⟩
    · exact h false
  · exact ⟨rfl, rfl, fun _ => rfl⟩

theorem State.staleScan_keeps : s.KeepsRecords s.staleScan := by
  unfold State.staleScan
  generalize allSlots = l
  induction l generalizing s with
  | nil => exact ⟨rfl, rfl, fun _ => rfl⟩
  | cons i l ih => exact (s.staleScanSlot_keeps i).trans (ih _)

/-- A placement changes state: its plan, and no station's state nor slot's record. -/
theorem State.setPState_keeps (id : Nat) (x : PState) :
    (s.setPState st id x).plan = s.plan.set st ((s.plan.get st).modify id (fun q => { q with state := x }))
      ∧ (∀ st', ((s.setPState st id x).stn.get st').mode = (s.stn.get st').mode)
      ∧ ∀ i : SlotId, (s.setPState st id x).slots[i].record = s.slots[i].record := by
  have hr := State.StationsOnly.reschedule (s.setPlan st ((s.plan.get st).modify id (fun q => { q with state := x }))) st
  have hs := ((s.setPlan st ((s.plan.get st).modify id (fun q => { q with state := x }))).reschedule st).staleScan_keeps
  refine ⟨hs.plan.trans ?_, fun st' => ?_, fun i => (hs.record i).trans ?_⟩
  · rw [hr]
    rfl
  · unfold State.setPState
    rw [hs.stn]
    simp
  · rw [hr]
    rfl

end

end Sys2Proof.Machine
end

section
/-! SUPPORT. The Dispatcher's operations: what is chosen (R92), the job made of it (R97), what is given up (R96), and
one round of the evaluation (R91). -/

namespace Sys2Proof.Machine

/-! ### What is chosen (R92 to R95) -/

theorem pick_eq_some {α β : Type} {f : α → Option β} {l : List α} {b : β} (h : pick f l = some b) :
    ∃ a ∈ l, f a = some b := by
  induction l with
  | nil => cases h
  | cons a l ih =>
    rcases Option.or_eq_some_iff.mp h with ha | ⟨-, hl⟩
    · exact ⟨a, List.mem_cons_self, ha⟩
    · obtain ⟨x, hx, hf⟩ := ih hl
      exact ⟨x, List.mem_cons_of_mem a hx, hf⟩

section

variable {s : State} {c : Choice} {st : StationId}

theorem State.frontCase_eq_some {l : LaneId} {r : ArrivalRec} (h : s.frontCase l = some r) :
    (s.lanes.get l).pick = .front := by
  unfold State.frontCase at h
  split at h
  · assumption
  · cases h

/-- A source a case is chosen from is a slot, or a lane whose pick point is FRONT. -/
def State.AtFront (s : State) : Source → Prop
  | .lane l => (s.lanes.get l).pick = .front
  | .slot _ => True
  | .magazine => False

theorem State.chooseSheet_eq_some (h : s.chooseSheet = some c) :
    ∃ st, c = .sheet st ∧ s.magazine ≠ 0 ∧ s.sheetReady st = true := by
  unfold State.chooseSheet at h
  split at h
  · cases h
  next hm =>
    obtain ⟨st, hst, rfl⟩ := Option.map_eq_some_iff.mp h
    exact ⟨st, rfl, hm, List.find?_some hst⟩

theorem State.caseFor_atFront {n : Nat} {src : Source} (h : s.caseFor n = some src) : s.AtFront src := by
  unfold State.caseFor at h
  split at h
  · cases h
    trivial
  · obtain ⟨l, -, hl⟩ := pick_eq_some h
    obtain ⟨r, hr, he⟩ := Option.bind_eq_some_iff.mp hl
    split at he
    · cases he
      exact State.frontCase_eq_some hr
    · cases he

theorem State.pairOf_atFront (h : s.pairOf st = some c) : s.AtFront c.source := by
  unfold State.pairOf at h
  split at h
  · obtain ⟨p, -, hp⟩ := pick_eq_some h
    split at hp
    · obtain ⟨src, hs, rfl⟩ := Option.map_eq_some_iff.mp hp
      exact State.caseFor_atFront hs
    · cases hp
  · cases h

theorem State.choosePut_atFront (h : s.choosePut = some c) : s.AtFront c.source := by
  unfold State.choosePut at h
  split at h
  · cases h
  · obtain ⟨l, -, hl⟩ := pick_eq_some h
    obtain ⟨r, hr, he⟩ := Option.bind_eq_some_iff.mp hl
    split at he
    · cases he
      exact State.frontCase_eq_some hr
    · cases he

theorem State.choosePutaway_atFront (h : s.choosePutaway = some c) : s.AtFront c.source := by
  unfold State.choosePutaway at h
  split at h
  · obtain ⟨i, -, rfl⟩ := Option.map_eq_some_iff.mp h
    trivial
  · cases h

/-- A choice is a sheet that is ready, with a magazine to take it from, or a case. -/
theorem State.choice_cases (h : s.choice = some c) :
    (∃ st, c = .sheet st ∧ s.magazine ≠ 0 ∧ s.sheetReady st = true) ∨ s.AtFront c.source := by
  rcases Option.or_eq_some_iff.mp h with hs | ⟨-, h⟩
  · exact .inl (State.chooseSheet_eq_some hs)
  rcases Option.or_eq_some_iff.mp h with hp | ⟨-, h⟩
  · obtain ⟨st, -, hp⟩ := pick_eq_some hp
    exact .inr (State.pairOf_atFront hp)
  rcases Option.or_eq_some_iff.mp h with hp | ⟨-, h⟩
  · exact .inr (State.choosePut_atFront hp)
  · exact .inr (State.choosePutaway_atFront h)

theorem Verdict.admits_iff {v : Verdict} : v.admits = true ↔ ∃ r, v = .admitted r := by
  cases v <;> simp [Verdict.admits]

theorem State.sheetReady_iff : s.sheetReady st = true ↔ s.SheetStands st := by
  simp [State.sheetReady, State.SheetStands, State.admits, Verdict.admits_iff, and_assoc]

end

/-! ### The job of a choice (R97) -/

theorem Plan.placements_modify (p : Plan) (id : Nat) (f : Placement → Placement) :
    (p.modify id f).placements = p.placements.map (fun q => if q.id = id then f q else q) := by
  simp [Plan.placements, Plan.modify, Plan.mapPlacements, List.map_flatten, Function.comp_def]

theorem State.grippable_congr {s u : State} (hd : u.dir = s.dir) (hg : u.gripper = s.gripper) (r : Option ArrivalRec) :
    u.grippable r = s.grippable r := by
  unfold State.grippable State.gripNeeds
  rw [hd, hg]

section

variable (s : State) (c : Choice)

@[simp] theorem State.claim_floor : (s.claim c).floor = s.floor := by
  cases c <;> simp [State.claim]

/-- A claim changes no station's state and no slot's record. -/
theorem State.claim_keeps : (∀ st, ((s.claim c).stn.get st).mode = (s.stn.get st).mode)
    ∧ ∀ i : SlotId, (s.claim c).slots[i].record = s.slots[i].record := by
  cases c with
  | place st p src => exact (s.setPState_keeps st p.id .bound).2
  | sheet | put | putaway => exact ⟨fun _ => rfl, fun _ => rfl⟩

/-- The claim of a PLACE binds its placement (R23). -/
theorem State.claim_bound (st : StationId) (p : Placement) (src : Source) :
    ∀ q ∈ ((s.claim (.place st p src)).plan.get st).placements, q.id = p.id → q.state = .bound := by
  intro q hq hid
  have hp : (s.claim (.place st p src)).plan.get st =
      (s.plan.get st).modify p.id (fun q => { q with state := .bound }) := by
    simp [State.claim, (s.setPState_keeps st p.id .bound).1]
  rw [hp, Plan.placements_modify] at hq
  obtain ⟨a, -, ha⟩ := List.mem_map.mp hq
  split at ha
  · rw [← ha]
  next hne =>
    subst ha
    exact absurd hid hne

variable {s c}

/-- The case a claimed job goes for is the one it was chosen for (R89). -/
theorem State.sourceCase_claim (hf : s.AtFront c.source ∨ c.source = .magazine) :
    ((s.setJob (some (s.jobOf c))).claim c).sourceCase (s.jobOf c) = s.caseAt c.source := by
  have hl : ((s.setJob (some (s.jobOf c))).claim c).lanes = s.lanes :=
    congrArg Floor.lanes (State.claim_floor (s.setJob (some (s.jobOf c))) c)
  have hs := ((s.setJob (some (s.jobOf c))).claim_keeps c).2
  have hg : (s.jobOf c).gripped = false := rfl
  have hj : (s.jobOf c).source = c.source := rfl
  unfold State.sourceCase
  rw [hg, hj]
  cases hc : c.source with
  | lane l =>
    have hp : (s.lanes.get l).pick = .front := by simpa [hc, State.AtFront] using hf
    simp [hl, State.caseAt, State.frontCase, hp]
  | slot i => exact hs i
  | magazine => rfl

/-- A job that is made goes for its item, wherever its first moves are stopped (R119, R121). -/
theorem State.createJob_underway (hc : s.choice = some c) (hg : s.grippable (s.caseAt c.source) = true) :
    ((s.setJob (some (s.jobOf c))).claim c).Underway (s.jobOf c) (s.createJob c) := by
  have hf : s.AtFront c.source ∨ c.source = .magazine := by
    rcases State.choice_cases hc with ⟨st, rfl, -⟩ | h
    · exact .inr rfl
    · exact .inl h
  have hfloor := State.claim_floor (s.setJob (some (s.jobOf c))) c
  have hd : (s.jobOf c).dest ≠ none := by cases c <;> simp [State.jobOf]
  have hgrip : ((s.setJob (some (s.jobOf c))).claim c).grippable
      (((s.setJob (some (s.jobOf c))).claim c).sourceCase (s.jobOf c)) = true := by
    rw [State.sourceCase_claim hf, State.grippable_congr (s := s)]
    exacts [hg, congrArg Fixed.dir (State.claim_fixed (s.setJob (some (s.jobOf c))) c), congrArg Floor.gripper hfloor]
  refine State.Fetching.startApproach (State.Fetching.report ?_) hd
  exact ⟨⟨.approach, congrArg Floor.job hfloor, rfl⟩, by simp, rfl, rfl, hgrip⟩

theorem State.createJob_mode (hc : s.choice = some c) (hg : s.grippable (s.caseAt c.source) = true) (st : StationId) :
    ((s.createJob c).stn.get st).mode = (s.stn.get st).mode := by
  rw [(State.createJob_underway hc hg).stn, ((s.setJob (some (s.jobOf c))).claim_keeps c).1 st]
  rfl

end

/-! ### Sheets out (R92, R96, R158) -/

section

variable {s t u : State} {st st' : StationId}

theorem State.sheetStands_congr (hm : (u.stn.get st).mode = (s.stn.get st).mode) (hk : u.stack = s.stack)
    (hp : u.plan = s.plan) : u.SheetStands st ↔ s.SheetStands st := by
  simp only [State.SheetStands, hm, hk, hp]

/-- The first part of an evaluation at one station: a sheet that is ready finds the magazine at 0. -/
def State.heldForSheet (s : State) (st : StationId) : State := if s.sheetReady st then s.sheetsOut st else s

theorem State.holdForSheets_of_zero (h : s.magazine = 0) : s.holdForSheets = (s.heldForSheet .A).heldForSheet .B :=
  if_pos h

theorem State.sheetsOut_of_stands (hj : s.job = none) (h : s.SheetStands st) :
    s.sheetsOut st = s.stationSet st (.plain (.held .sheetsOut)) := by
  unfold State.sheetsOut
  rw [if_pos h.1, State.holdStation_of_no_job hj]

theorem State.heldForSheet_of_stands (hj : s.job = none) (h : s.SheetStands st) :
    s.heldForSheet st = s.stationSet st (.plain (.held .sheetsOut)) := by
  rw [← State.sheetsOut_of_stands hj h]
  exact if_pos (State.sheetReady_iff.mpr h)

theorem State.heldForSheet_of_not_stands (h : ¬s.SheetStands st) : s.heldForSheet st = s :=
  if_neg fun hr => h (State.sheetReady_iff.mp hr)

theorem State.heldForSheet_stationsOnly (hj : s.job = none) : s.StationsOnly (s.heldForSheet st) := by
  by_cases h : s.SheetStands st
  · rw [State.heldForSheet_of_stands hj h]
    exact .stationSet s st _ _
  · rw [State.heldForSheet_of_not_stands h]
    exact .refl s

theorem State.heldForSheet_stn_of_ne (hj : s.job = none) (hn : st' ≠ st) :
    (s.heldForSheet st).stn.get st' = s.stn.get st' := by
  by_cases h : s.SheetStands st
  · rw [State.heldForSheet_of_stands hj h, State.stationSet_stn_of_ne _ _ _ _ hn]
  · rw [State.heldForSheet_of_not_stands h]

/-- What a hold for sheets makes of the state of every station. -/
def State.HeldForSheets (s u : State) : Prop :=
  ∀ st, (s.SheetStands st → (u.stn.get st).mode = .plain (.held .sheetsOut))
    ∧ (¬s.SheetStands st → (u.stn.get st).mode = (s.stn.get st).mode)

theorem State.heldForSheet_mode (hj : s.job = none) :
    (s.SheetStands st → ((s.heldForSheet st).stn.get st).mode = .plain (.held .sheetsOut))
      ∧ (¬s.SheetStands st → ((s.heldForSheet st).stn.get st).mode = (s.stn.get st).mode) := by
  refine ⟨fun h => ?_, fun h => ?_⟩
  · rw [State.heldForSheet_of_stands hj h, State.stationSet_mode]
  · rw [State.heldForSheet_of_not_stands h]

theorem State.holdForSheets_stationsOnly (hj : s.job = none) : s.StationsOnly s.holdForSheets := by
  by_cases hm : s.magazine = 0
  · rw [State.holdForSheets_of_zero hm]
    have ha := State.heldForSheet_stationsOnly (st := .A) hj
    exact ha.trans (State.heldForSheet_stationsOnly (ha.job.trans hj))
  · rw [show s.holdForSheets = s from if_neg hm]
    exact .refl s

theorem State.holdForSheets_held (hj : s.job = none) (hm : s.magazine = 0) : s.HeldForSheets s.holdForSheets := by
  rw [State.holdForSheets_of_zero hm]
  have ha := State.heldForSheet_stationsOnly (st := .A) hj
  have hja : (s.heldForSheet .A).job = none := ha.job.trans hj
  intro st
  cases st with
  | A =>
    rw [State.heldForSheet_stn_of_ne hja (by decide)]
    exact State.heldForSheet_mode hj
  | B =>
    have hb := State.heldForSheet_stn_of_ne (s := s) (st := .A) (st' := .B) hj (by decide)
    have hs : (s.heldForSheet .A).SheetStands .B ↔ s.SheetStands .B :=
      State.sheetStands_congr (congrArg Station.mode hb) ha.stack ha.plan
    have hmode := State.heldForSheet_mode (st := .B) hja
    rwa [hs, hb] at hmode

/-- No station waits for a sheet that the magazine cannot give. -/
def State.SheetsServed (s : State) : Prop := s.magazine ≠ 0 ∨ ∀ st, ¬s.SheetStands st

theorem State.holdForSheets_of_served (h : s.SheetsServed) : s.holdForSheets = s := by
  by_cases hm : s.magazine = 0
  · have hn := h.resolve_left (not_not_intro hm)
    rw [State.holdForSheets_of_zero hm, State.heldForSheet_of_not_stands (hn .A),
      State.heldForSheet_of_not_stands (hn .B)]
  · exact if_neg hm

theorem State.holdForSheets_served (hj : s.job = none) (hm : s.magazine = 0) : s.holdForSheets.SheetsServed := by
  refine .inr fun st h => ?_
  have ho := State.holdForSheets_stationsOnly hj
  obtain ⟨hy, hn⟩ := State.holdForSheets_held hj hm st
  by_cases hs : s.SheetStands st
  · simpa [hy hs] using h.1
  · exact hs ((State.sheetStands_congr (hn hs) ho.stack ho.plan).mp h)

end

/-! ### One round of the evaluation (R91) -/

section

variable {s u : State} {c : Choice} {n : Nat}

theorem State.mayDispatch_job (h : s.mayDispatch = true) : s.job = none := by
  simp only [State.mayDispatch, Bool.and_eq_true] at h
  exact Option.isNone_iff_eq_none.mp h.1.1.1

/-- An evaluation is allowed where nothing it asks for has changed. -/
theorem State.mayDispatch_congr (hj : u.job = s.job) (hg : u.gantry = s.gantry) (hc : u.cell = s.cell)
    (hr : u.gripper = s.gripper) : u.mayDispatch = s.mayDispatch := by
  simp only [State.mayDispatch, hj, hg, hc, hr]

theorem State.StationsOnly.mayDispatch (h : s.StationsOnly u) : u.mayDispatch = s.mayDispatch :=
  State.mayDispatch_congr h.job h.gantry h.cell
    h.gripper

theorem State.evaluate_none (hm : s.mayDispatch = true) (hr : s.SheetsServed) (hc : s.choice = none) :
    s.evaluate (n + 1) = s := by
  simp [State.evaluate, hm, State.holdForSheets_of_served hr, hc]

theorem State.evaluate_creates (hm : s.mayDispatch = true) (hr : s.SheetsServed) (hc : s.choice = some c)
    (hg : s.grippable (s.caseAt c.source) = true) : s.evaluate (n + 1) = s.createJob c := by
  simp [State.evaluate, hm, State.holdForSheets_of_served hr, hc, hg]

theorem State.evaluate_givesUp (hm : s.mayDispatch = true) (hr : s.SheetsServed) (hc : s.choice = some c)
    (hg : s.grippable (s.caseAt c.source) = false) : s.evaluate (n + 1) = (s.giveUp c).evaluate n := by
  simp [State.evaluate, hm, State.holdForSheets_of_served hr, hc, hg]

/-- With the magazine at 0 the round begins with the hold for sheets (R92). -/
theorem State.evaluate_holds (hm : s.mayDispatch = true) (hz : s.magazine = 0) :
    s.evaluate (n + 1) = s.holdForSheets.evaluate (n + 1) := by
  have hj := State.mayDispatch_job hm
  have hs := State.holdForSheets_of_served (State.holdForSheets_served hj hz)
  have hd := (State.holdForSheets_stationsOnly hj).mayDispatch
  simp [State.evaluate, hd, hs, hm]

/-- The end of a step whose only waiting choice is an evaluation. -/
theorem State.settle_of_evaluates (h : s.Evaluates) : s.settle = (s.evaluate 16).ended := by
  obtain ⟨ha, he, -⟩ := h
  simp [State.settle_eq, State.chosen, ha, he]

/-! ### What is given up (R96) -/

theorem State.giveUp_lane {l : LaneId} (h : c.source = .lane l) (hf : (s.lanes.get l).pick = .front) :
    s.giveUp c = s.startRelease l true .ungrippable := by
  simp [State.giveUp, h, State.ungrippableLane, hf]

theorem State.giveUp_slot {i : SlotId} (h : c.source = .slot i) : s.giveUp c = s.ungrippableSlot i := by
  simp [State.giveUp, h]

theorem State.giveUp_sheet {st : StationId} (hj : s.job = none) (h : s.SheetStands st) :
    s.giveUp (.sheet st) = s.stationSet st (.plain (.held .sheetsOut)) :=
  State.sheetsOut_of_stands hj h

/-- What an item that is given up leaves as it was: what the next round asks for ahead of its choice. -/
structure State.KeepsRound (s u : State) : Prop where
  mayDispatch : u.mayDispatch = s.mayDispatch
  magazine : u.magazine = s.magazine
  plan : u.plan = s.plan
  stack : u.stack = s.stack

theorem State.giveUp_keeps (hj : s.job = none) (hc : s.choice = some c) : s.KeepsRound (s.giveUp c) := by
  rcases State.choice_cases hc with ⟨st, rfl, -, hr⟩ | hf
  · rw [State.giveUp_sheet hj (State.sheetReady_iff.mp hr)]
    have ho := State.StationsOnly.stationSet s st (.plain (.held .sheetsOut)) false
    exact ⟨ho.mayDispatch, ho.magazine, ho.plan, ho.stack⟩
  · cases hs : c.source with
    | lane l =>
      rw [hs] at hf
      rw [State.giveUp_lane hs hf]
      exact ⟨rfl, rfl, rfl, rfl⟩
    | slot i =>
      rw [State.giveUp_slot hs]
      unfold State.ungrippableSlot
      split <;> exact ⟨rfl, rfl, rfl, rfl⟩
    | magazine => simp [hs, State.AtFront] at hf

/-- A case that is given up changes no station. -/
theorem State.giveUp_stn (hf : s.AtFront c.source) : (s.giveUp c).stn = s.stn := by
  cases hs : c.source with
  | lane l =>
    rw [hs] at hf
    rw [State.giveUp_lane hs hf]
    rfl
  | slot i =>
    rw [State.giveUp_slot hs]
    unfold State.ungrippableSlot
    split <;> rfl
  | magazine => simp [hs, State.AtFront] at hf

theorem State.giveUp_served (hj : s.job = none) (hc : s.choice = some c) (hr : s.SheetsServed) :
    (s.giveUp c).SheetsServed := by
  have hk := State.giveUp_keeps hj hc
  by_cases hz : s.magazine = 0
  · rcases State.choice_cases hc with ⟨-, -, hm, -⟩ | hf
    · exact absurd hz hm
    · refine .inr fun st h => hr.resolve_left (not_not_intro hz) st ?_
      exact (State.sheetStands_congr (by rw [State.giveUp_stn hf]) hk.stack hk.plan).mp h
  · exact .inl (by rwa [hk.magazine])

/-- Without a sheet to wait for and with the magazine at 0 an evaluation changes no station's state. -/
theorem State.evaluate_mode (hz : s.magazine = 0) (hr : s.SheetsServed) (st : StationId) :
    ((s.evaluate n).stn.get st).mode = (s.stn.get st).mode := by
  induction n generalizing s with
  | zero => rfl
  | succ n ih =>
    by_cases hm : s.mayDispatch = true
    · cases hc : s.choice with
      | none => rw [State.evaluate_none hm hr hc]
      | some c =>
        have hj := State.mayDispatch_job hm
        cases hg : s.grippable (s.caseAt c.source) with
        | true => rw [State.evaluate_creates hm hr hc hg, State.createJob_mode hc hg]
        | false =>
          have hf : s.AtFront c.source := (State.choice_cases hc).resolve_left fun ⟨_, _, h, _⟩ => h hz
          rw [State.evaluate_givesUp hm hr hc hg, ih ((State.giveUp_keeps hj hc).magazine.trans hz)
            (State.giveUp_served hj hc hr), State.giveUp_stn hf]
    · simp [State.evaluate, hm]

end

end Sys2Proof.Machine
end

section
/-! THEOREM. O6: what an evaluation makes of its choice. -/

namespace Sys2Proof.Machine

section

variable {s : State} {c : Choice}

/-- The class of a case is that of its type (R13). -/
theorem State.caseClass_of_type {r : ArrivalRec} {t : CaseType} (h : r.type.bind s.dir.typeAt = some t) :
    s.caseClass (some r) = t.hcls := by
  simp [State.caseClass, h]

theorem Directory.effectiveClass_of_type {d : Directory} {p : Placement} {t : CaseType} (h : d.typeAt p.type = some t) :
    d.effectiveClass p = p.override.getD t.hcls := by
  simp [Directory.effectiveClass, h]

theorem Directory.classAt_of_get {d : Directory} {n : Nat} {h : Handling} (hh : d.handling[n]? = some h) :
    d.classAt n = h := by
  simp [Directory.classAt, hh]

/-- The terms of a SHEET job (R97). -/
theorem State.jobTerms_sheet (st : StationId) {r : WalkResult} (h : (s.stack.get st).sheetVerdict = .admitted r) :
    s.jobTerms (.sheet st) = (0, .t0, some r) := by
  simp [State.jobTerms, h]

/-- A job of a lane or slot to a slot or the spill table has turn T0, no reservation and its case's class (R97). -/
theorem State.jobTerms_of_put_or_putaway (h : (s.jobOf c).kind = .put ∨ (s.jobOf c).kind = .putaway) :
    s.jobTerms c = (s.caseClass (s.caseAt c.source), .t0, none) := by
  cases c with
  | put | putaway => rfl
  | place | sheet => simp [State.jobOf] at h

/-- The profiles of a job are those of its class, with slot 0 or the fallback in place of an undefined one (R112). -/
theorem State.jobOf_profiles {h : Handling} {zero : Resolved} (hh : s.dir.handling[(s.jobOf c).cls]? = some h)
    (hz : zero = if s.gantry.defined 0 then .slot 0 else .fallback) :
    (s.jobOf c).profile = h.profile ∧ (s.jobOf c).speed = h.speed ∧ (s.jobOf c).dist = h.dist
      ∧ (s.jobOf c).laden = (if s.gantry.defined h.profile then .slot h.profile else zero) ∧ (s.jobOf c).unladen = zero
      ∧ (s.jobOf c).subst = (!s.gantry.defined h.profile || !s.gantry.defined 0) := by
  have hc : s.dir.classAt (s.jobTerms c).1 = h := Directory.classAt_of_get hh
  subst hz
  simp [State.jobOf, hc, Gantry.resolve]

/-- An item that is given up at its lane runs off, and its pick point releases it (R79). -/
theorem State.giveUp_front {l : LaneId} {r : ArrivalRec} {rest : List ArrivalRec} (hc : s.choice = some c)
    (hl : c.source = .lane l) (hf : (s.lanes.get l).fifo = r :: rest) :
    s.giveUp c = { s with
      lanes := s.lanes.set l { s.lanes.get l with
        pick := .releasing true .ungrippable, wait := 0, fifo := { r with disp := .runOff .ungrippable } :: rest } } := by
  have hp : (s.lanes.get l).pick = .front := by
    rcases State.choice_cases hc with ⟨st, rfl, -⟩ | h
    · cases hl
    · rwa [hl] at h
  rw [State.giveUp_lane hl hp, State.startRelease_head hf]
  rfl

/-- A slot whose case is given up is BLOCKED (R82). -/
theorem State.giveUp_held {i : SlotId} {r : ArrivalRec} {t : Nat} {m : Bool} (hi : c.source = .slot i)
    (hs : s.slots[i] = .held r t m) :
    s.giveUp c = ({ s with slots := s.slots.set i .blocked, evalDue := true, awaitDue := true } : State).report
      (.slot i .blocked .ungrippable (some ⟨r.lane, r.seq, r.type⟩)) := by
  rw [State.giveUp_slot hi]
  unfold State.ungrippableSlot
  rw [hs]
  rfl

end

/-- Settles O6: the job is made in the first round of the evaluation and keeps its record on its first moves; what is given
up leaves the next round as the evaluation of the state it left; and after the hold for sheets no round changes a station. -/
theorem chosenJobsAreMadeOrGivenUp : Obligations.ChosenJobsAreMadeOrGivenUp := by
  refine ⟨fun s c he hr hc hg => ?_, fun s c he hr hc hg => ?_, fun s he hz => ?_⟩
  · have hu := State.createJob_underway hc hg
    obtain ⟨p, hj⟩ := hu.job
    refine ⟨s.createJob c, { s.jobOf c with phase := p }, ?_, hj, hu.state, s.createJob_fixed c, rfl, rfl, rfl, rfl,
      ?_, ?_, ?_, ?_, ?_, fun h zero => State.jobOf_profiles⟩
    · rw [State.settle_of_evaluates he, State.evaluate_creates he.2.2 hr hc hg]
    · rintro st rfl
      exact ⟨rfl, rfl, rfl, rfl, fun r h => congrArg (·.2.2) (State.jobTerms_sheet st h)⟩
    · rintro st q src rfl
      refine ⟨rfl, rfl, fun r h => ?_, fun r h => ?_, fun t => Directory.effectiveClass_of_type, ?_⟩
      · simp [State.jobOf, State.jobTerms, h]
      · simp [State.jobOf, State.jobTerms, h]
      · rw [hu.plan]
        exact State.claim_bound _ st q src
    · rintro l i rfl
      exact ⟨rfl, rfl⟩
    · rintro i rfl
      exact ⟨rfl, rfl⟩
    · intro hk
      have ht := State.jobTerms_of_put_or_putaway (s := s) hk
      refine ⟨congrArg (·.2.1) ht, congrArg (·.2.2) ht, fun r t h hty => ?_⟩
      rw [← State.caseClass_of_type hty, ← h]
      exact congrArg (·.1) ht
  · have hj := State.mayDispatch_job he.2.2
    have hk := State.giveUp_keeps hj hc
    have hm := hk.mayDispatch.trans he.2.2
    have hsv := State.giveUp_served hj hc hr
    have hs : s.settle = ((s.giveUp c).evaluate 15).ended := by
      rw [State.settle_of_evaluates he, State.evaluate_givesUp he.2.2 hr hc hg]
    refine ⟨s.giveUp c, fun hd => ?_, fun d hd hdg => ?_, fun l r rest => State.giveUp_front hc,
      fun i r t m => State.giveUp_held, ?_⟩
    · rw [hs, State.evaluate_none hm hsv hd]
    · rw [hs, State.evaluate_creates hm hsv hd hdg]
    · rintro st rfl
      have hst : s.SheetStands st := by
        rcases State.choice_cases hc with ⟨st', he', -, h⟩ | h
        · cases he'
          exact State.sheetReady_iff.mp h
        · exact h.elim
      rw [State.giveUp_sheet hj hst]
      exact ⟨s.stationSet_mode st _ _, State.StationsOnly.stationSet s st _ _, fun st' => s.stationSet_stn_of_ne st _ _⟩
  · have hj := State.mayDispatch_job he.2.2
    have ho := State.holdForSheets_stationsOnly hj
    refine ⟨s.evaluate 16, State.settle_of_evaluates he, fun st => ?_⟩
    rw [State.evaluate_holds he.2.2 hz,
      State.evaluate_mode (ho.magazine.trans hz) (State.holdForSheets_served hj hz)]
    exact State.holdForSheets_held hj hz st

end Sys2Proof.Machine
end

section
/-! SUPPORT. What the laws of bindings and of the stacks depend on, the ground of a state: the case types, the plans, the stacks, and
what the job says of its target. Most operations of the part leave the ground as it is; here each of them is named once. -/

namespace Sys2Proof.Machine

/-- What a job says of its target: kind, destination and reservation (R89). -/
def Job.target (j : Job) : JobKind × Option Dest × Option WalkResult := (j.kind, j.dest, j.reservation)

/-- The part of the state that the laws of bindings and of the stacks speak of. -/
structure Ground where
  types : Vector (Option CaseType) 64
  plan : PerStation Plan
  stack : PerStation Stack
  target : Option (JobKind × Option Dest × Option WalkResult)

def State.ground (s : State) : Ground := ⟨s.dir.types, s.plan, s.stack, s.job.map Job.target⟩

/-! ### Updates -/

section
variable (s : State)

@[simp] theorem State.setStn_ground (st : StationId) (n : Station) : (s.setStn st n).ground = s.ground := rfl
@[simp] theorem State.setLane_ground (l : LaneId) (n : Lane) : (s.setLane l n).ground = s.ground := rfl
@[simp] theorem State.setSlot_ground (i : SlotId) (x : Slot) : (s.setSlot i x).ground = s.ground := rfl
@[simp] theorem State.setGantry_ground (g : Gantry) : (s.setGantry g).ground = s.ground := rfl
@[simp] theorem State.setGripper_ground (g : Gripper) : (s.setGripper g).ground = s.ground := rfl
@[simp] theorem State.setLink_ground (l : Link) : (s.setLink l).ground = s.ground := rfl
@[simp] theorem State.setInputs_ground (i : Inputs) : (s.setInputs i).ground = s.ground := rfl
@[simp] theorem State.setSpill_ground (n : Nat) : (s.setSpill n).ground = s.ground := rfl
@[simp] theorem State.setMagazine_ground (n : Nat) : (s.setMagazine n).ground = s.ground := rfl
@[simp] theorem State.setStall_ground (st : StationId) (b : Bool) : (s.setStall st b).ground = s.ground := rfl
@[simp] theorem State.setAuto_ground (b : Bool) : (s.setAuto b).ground = s.ground := rfl
@[simp] theorem State.setCellRun_ground (r : CellRun) : (s.setCellRun r).ground = s.ground := rfl
@[simp] theorem State.dispatchEvent_ground : s.dispatchEvent.ground = s.ground := rfl
@[simp] theorem State.destinationEvent_ground : s.destinationEvent.ground = s.ground := rfl
@[simp] theorem State.slotEvent_ground : s.slotEvent.ground = s.ground := rfl
@[simp] theorem State.report_ground (b : ReportBody) : (s.report b).ground = s.ground := rfl
@[simp] theorem State.setMotion_ground (m : Motion) : (s.setMotion m).ground = s.ground := rfl
@[simp] theorem State.computeTravel_ground : s.computeTravel.ground = s.ground := rfl
@[simp] theorem State.clearUsed_ground : s.clearUsed.ground = s.ground := rfl
@[simp] theorem State.fresh_ground : s.fresh.ground = s.ground := rfl
@[simp] theorem State.ended_ground : s.ended.ground = s.ground := rfl

/-- A change of the job that leaves its target. -/
theorem State.modifyJob_ground {f : Job → Job} (hf : ∀ j, (f j).target = j.target) :
    (s.modifyJob f).ground = s.ground := by
  simp [State.ground, Function.comp_def, hf]

@[simp] theorem State.setPhase_ground (p : Phase) : (s.setPhase p).ground = s.ground := s.modifyJob_ground fun _ => rfl

/-- The job replaced by one with the same target. -/
theorem State.setJob_ground {s : State} {j k : Job} (hj : s.job = some j) (hk : k.target = j.target) :
    (s.setJob (some k)).ground = s.ground := by
  simp [State.ground, hj, hk]

theorem State.foldl_ground {α : Type} {f : State → α → State} (hf : ∀ t a, (f t a).ground = t.ground) (l : List α) :
    (l.foldl f s).ground = s.ground := by
  induction l generalizing s with
  | nil => rfl
  | cons a l ih => rw [List.foldl_cons, ih, hf]

/-! ### Operations on stations, slots and lanes -/

@[simp] theorem State.reschedule_ground (st : StationId) : (s.reschedule st).ground = s.ground := by
  unfold State.reschedule
  dsimp only
  split <;> rfl

@[simp] theorem State.stallTest_ground (st : StationId) : (s.stallTest st).ground = s.ground := by
  unfold State.stallTest
  dsimp only
  (repeat' split) <;> rfl

@[simp] theorem State.stationSet_ground (st : StationId) (m : Mode) (early : Bool) :
    (s.stationSet st m early).ground = s.ground := by
  unfold State.stationSet
  dsimp only
  split <;> simp

@[simp] theorem State.endOfQueue_ground (st : StationId) : (s.endOfQueue st).ground = s.ground := by
  unfold State.endOfQueue
  dsimp only
  split <;> simp

@[simp] theorem State.staleScanSlot_ground (i : SlotId) : (s.staleScanSlot i).ground = s.ground := by
  unfold State.staleScanSlot
  (repeat' split) <;> rfl

@[simp] theorem State.staleScan_ground : s.staleScan.ground = s.ground := s.foldl_ground State.staleScanSlot_ground _

@[simp] theorem State.layerDone_ground (st : StationId) (l : Layer) : (s.layerDone st l).ground = s.ground := by
  unfold State.layerDone
  split <;> rfl

@[simp] theorem State.startRelease_ground (l : LaneId) (b : Bool) (w : Reason) : (s.startRelease l b w).ground = s.ground := rfl

@[simp] theorem State.laneTest_ground (l : LaneId) : (s.laneTest l).ground = s.ground := by
  unfold State.laneTest
  dsimp only
  split <;> rfl

@[simp] theorem State.caseArrives_ground (l : LaneId) : (s.caseArrives l).ground = s.ground := by
  unfold State.caseArrives
  dsimp only
  (repeat' split) <;> rfl

@[simp] theorem State.ungrippableLane_ground (l : LaneId) : (s.ungrippableLane l).ground = s.ground := by
  unfold State.ungrippableLane
  split <;> rfl

@[simp] theorem State.ungrippableSlot_ground (i : SlotId) : (s.ungrippableSlot i).ground = s.ground := by
  unfold State.ungrippableSlot
  split <;> rfl

@[simp] theorem State.sourceEnd_ground (x : Source) : (s.sourceEnd x).ground = s.ground := by
  unfold State.sourceEnd
  dsimp only
  (repeat' split) <;> rfl

@[simp] theorem State.sourceBack_ground (x : Source) : (s.sourceBack x).ground = s.ground := by
  unfold State.sourceBack
  dsimp only
  (repeat' split) <;> rfl

@[simp] theorem State.finishCell_ground : s.finishCell.ground = s.ground := by
  unfold State.finishCell
  split <;> rfl

@[simp] theorem State.sheetGone_ground (j : Job) : (s.sheetGone j).ground = s.ground := by
  unfold State.sheetGone
  split <;> rfl

@[simp] theorem State.stallTestAt_ground (o : Option StationId) : (s.stallTestAt o).ground = s.ground := by
  cases o with
  | none => rfl
  | some st => exact s.stallTest_ground st

@[simp] theorem State.markAbandoned_ground (st : StationId) : (s.markAbandoned st).ground = s.ground := by
  unfold State.markAbandoned
  split
  next j hj =>
    split
    · exact State.setJob_ground hj rfl
    · rfl
  next => rfl

/-! ### Operations on the gantry and the gripper -/

@[simp] theorem State.gantryReport_ground (o : Option StartInfo) : (s.gantryReport o).ground = s.ground := rfl

@[simp] theorem State.gantryTo_ground (x : GState) : (s.gantryTo x).ground = s.ground := by
  unfold State.gantryTo
  dsimp only
  (repeat' split) <;> rfl

@[simp] theorem State.homingStop_ground : s.homingStop.ground = s.ground := by simp [State.homingStop]
@[simp] theorem State.homingFault_ground (c : FaultCause) : (s.homingFault c).ground = s.ground := by
  simp [State.homingFault]
@[simp] theorem State.faultStop_ground (c : FaultCause) : (s.faultStop c).ground = s.ground := by simp [State.faultStop]

@[simp] theorem State.gripReport_ground (e : GripEvent) (z : Option Zone) (j : Option JobRef)
    (xy : Option Int × Option Int) : (s.gripReport e z j xy).ground = s.ground := rfl

@[simp] theorem State.lockoutReport_ground : s.lockoutReport.ground = s.ground := by
  unfold State.lockoutReport
  split <;> rfl

@[simp] theorem State.gripFailed_ground (e : GripEvent) : (s.gripFailed e).ground = s.ground := by
  unfold State.gripFailed
  dsimp only
  rw [State.modifyJob_ground]
  · simp
  · exact fun _ => rfl

@[simp] theorem State.gripBegin_ground (j : Job) : (s.gripBegin j).1.ground = s.ground := by
  unfold State.gripBegin
  dsimp only
  split <;> rfl

@[simp] theorem State.gripAbandon_ground : s.gripAbandon.ground = s.ground := by
  unfold State.gripAbandon
  split <;> rfl

theorem State.gripDone_ground {s : State} {j : Job} (hj : s.job = some j) : (s.gripDone j).ground = s.ground := by
  have ht : ∀ item, ((s.setGripper { s.gripper.mapUsed (ZoneRec.setValve (.hold 0)) with
      state := .holding, timer := none, duty := s.holdDuty j }).setJob
      (some { j with gripped := true, carried := item })).ground = s.ground :=
    fun _ => State.setJob_ground (j := j) hj rfl
  unfold State.gripDone State.takeItem
  cases j.source with
  | magazine => exact ht (some .sheet)
  | lane l => exact (State.laneTest_ground _ l).trans (ht ((s.sourceCase j).map Item.case))
  | slot i => exact ht ((s.sourceCase j).map Item.case)

@[simp] theorem State.rampAll_ground (w : RestFor) : (s.rampAll w).ground = s.ground := by
  unfold State.rampAll
  dsimp only
  split <;> rfl

@[simp] theorem State.guardReport_ground (i : GuardInput) (v q : Bool) (o : Option Bool) :
    (s.guardReport i v q o).ground = s.ground := rfl

@[simp] theorem State.startT_ground (t : Turn) : (s.startT t).ground = s.ground := by
  unfold State.startT
  split <;> rfl

@[simp] theorem State.zoneFault_ground (z : Zone) (e : GripEvent) : (s.zoneFault z e).ground = s.ground := rfl

@[simp] theorem State.refault_ground (z : Zone) : (s.refault z).ground = s.ground := by
  unfold State.refault
  split <;> simp

@[simp] theorem State.releaseStuck_ground : s.releaseStuck.ground = s.ground := by simp [State.releaseStuck]

/-! ### Events -/

@[simp] theorem State.releaseEnd_ground (l : LaneId) (b : Bool) (w : Reason) : (s.releaseEnd l b w).ground = s.ground := by
  simp [State.releaseEnd]

@[simp] theorem State.waitExpires_ground (l : LaneId) : (s.waitExpires l).ground = s.ground := by
  unfold State.waitExpires
  dsimp only
  split <;> rfl

@[simp] theorem State.departurePassed_ground (st : StationId) : (s.departurePassed st).ground = s.ground := by
  simp [State.departurePassed]

@[simp] theorem State.departureTick_ground (st : StationId) : (s.departureTick st).ground = s.ground := by
  unfold State.departureTick
  (repeat' split) <;> simp

@[simp] theorem State.warningInput_ground (v : Bool) : (s.warningInput v).ground = s.ground := by
  unfold State.warningInput
  dsimp only
  (repeat' split) <;> rfl

@[simp] theorem State.palletInput_ground (st : StationId) (v : Bool) : (s.palletInput st v).ground = s.ground := by
  unfold State.palletInput
  dsimp only
  (repeat' split) <;> simp

@[simp] theorem State.spillInput_ground (v : Bool) : (s.spillInput v).ground = s.ground := by
  unfold State.spillInput
  dsimp only
  (repeat' split) <;> rfl

@[simp] theorem State.emptyInput_ground (l : LaneId) (v : Bool) : (s.emptyInput l v).ground = s.ground := by
  unfold State.emptyInput
  dsimp only
  (repeat' split) <;> simp

@[simp] theorem State.limitInput_ground (a : LinAxis) (x : AxisEnd) (v : Bool) : (s.limitInput a x v).ground = s.ground := by
  unfold State.limitInput
  dsimp only
  (repeat' split) <;> simp

@[simp] theorem State.caseOn_ground (l : LaneId) : (s.caseOn l).ground = s.ground := by
  unfold State.caseOn
  dsimp only
  (repeat' split) <;> first | rfl | exact State.caseArrives_ground _ l

@[simp] theorem State.pullInEnds_ground (z : Zone) : (s.pullInEnds z).ground = s.ground := by
  unfold State.pullInEnds
  dsimp only
  split <;> rfl

@[simp] theorem State.decays_ground : s.decays.ground = s.ground := by
  unfold State.decays
  dsimp only
  (repeat' split) <;> rfl

@[simp] theorem State.readPickPoints_ground : s.readPickPoints.ground = s.ground :=
  s.foldl_ground (fun t l => by split <;> simp) _

@[simp] theorem State.awaitLayer_ground (l : Layer) : (s.awaitLayer l).ground = s.ground := by
  unfold State.awaitLayer
  (repeat' split) <;> rfl

@[simp] theorem State.closedStation_ground (st : StationId) : (s.closedStation st).ground = s.ground := by
  unfold State.closedStation
  split <;> simp

theorem State.tick_ground : s.tick.ground = s.ground := by
  obtain ⟨x, n, -, ht⟩ := s.tick_eq
  rw [ht]
  rfl

end

end Sys2Proof.Machine
end

section
/-! SUPPORT. What a step can do to the ground of a state, said once: it is a chain of the changes listed here, between operations that
leave the ground as it is. A law that each of these changes keeps is kept by every step. -/

namespace Sys2Proof.Machine

/-- The layer stands last in the queue of a station, whose sheet verdict is UNSWEPT where the layer is its first (R22, R56). -/
def State.layerTaken (s : State) (st : StationId) (l : Layer) : State :=
  let p := s.plan.get st
  let t := s.setPlan st { p with queue := p.queue ++ [l] }
  if p.queue.length = 0 then t.setStack st ((t.stack.get st).setSheetVerdict .unswept) else t

/-- A queue is changed, the sweep is told of voided placements, and the layers are examined (R31, R33, R60, R27). -/
def State.requeue (s : State) (st : StationId) (p : Plan) (ids : List Nat) : State :=
  (ids.foldl (fun s id => s.noteVoid st id) (((s.setPlan st p).reschedule st).staleScan)).examineLayers st

/-- A station's plan and stack are emptied and its reservation ends (R161, R34, R62). -/
def State.vacated (s : State) (st : StationId) : State :=
  ((s.setPlan st .initial).setStack st (.bare (s.stack.get st).limits)).endReservation st

/-- The ground of a state `s` is changed into that of another, change by change. -/
inductive State.Changes (s : State) : State → Prop
  | refl : s.Changes s
  /-- The ground stays. -/
  | keep {t u : State} : s.Changes t → u.ground = t.ground → s.Changes u
  /-- A trigger of a sweep (R58). -/
  | sweepTrigger {t : State} {st : StationId} : s.Changes t → s.Changes (t.sweepTrigger st)
  /-- The end of a walk (R59). -/
  | walkEnds {t : State} {st : StationId} : s.Changes t → s.Changes (t.walkEnds st)
  /-- The sheet job of a station's layers is over (R27). -/
  | sheetJobOver {t : State} {st : StationId} : s.Changes t → s.Changes (t.sheetJobOver st)
  /-- The placement of the job is handed back and its reservation dropped (R24, R54). -/
  | unclaim {t : State} : s.Changes t → s.Changes t.handBack.dropReservation
  /-- The placement of the job is handed back and the job is removed (R24, R89). -/
  | unjob {t : State} : s.Changes t → s.Changes (t.handBack.setJob none)
  /-- The job gives up its claim and is no longer bound to a station (R102). -/
  | putaway {t : State} {f : Job → Job} : s.Changes t → (∀ j, (f j).station = none) →
      s.Changes (t.handBack.dropReservation.modifyJob f)
  /-- A job that is bound to no station changes (R103). -/
  | rejob {t : State} {j k : Job} : s.Changes t → t.job = some j → j.station = none → k.station = none →
      s.Changes (t.setJob (some k))
  /-- The commit of the case of a PLACE job (R52). -/
  | commitCase {t : State} {j : Job} {st : StationId} {id : Nat} {p : Placement} {y : CaseType} {r : WalkResult}
      {c : ArrivalRec} : s.Changes t → t.job = some j → j.kind = .place → j.dest = some (.placement st id) →
      j.reservation = some r → (t.plan.get st).find? id = some p → t.dir.typeAt p.type = some y →
      s.Changes (t.commitCase st p y r c)
  /-- The commit of the sheet of a SHEET job (R53). -/
  | commitSheet {t : State} {j : Job} {st : StationId} {r : WalkResult} : s.Changes t → t.job = some j →
      j.kind = .sheet → j.dest = some (.sheet st) → j.reservation = some r → s.Changes (t.commitSheet st r)
  /-- A job is made of a choice and claims its target (R97). -/
  | claim {t : State} {c : Choice} : s.Changes t → t.job = none → t.choice = some c →
      s.Changes ((t.setJob (some (t.jobOf c))).claim c)
  /-- A station is cleared (R161). -/
  | vacated {t : State} {st : StationId} : s.Changes t → s.Changes (t.vacated st)
  /-- A layer with checked placements is taken (R21, R22). -/
  | layerTaken {t : State} {st : StationId} {bs : List PlaceBody} {l : Layer} : s.Changes t →
      t.checkPlaces st [] bs = .ok l.placements → s.Changes (t.layerTaken st l)
  /-- A PENDING placement is withdrawn (R30). -/
  | voidPlacement {t : State} {st : StationId} {id : Nat} {q : Placement} : s.Changes t →
      (t.plan.get st).find? id = some q → q.state = .pending → s.Changes (t.voidPlacement st id)
  /-- The first layer with a tag is withdrawn (R31). -/
  | withdrawn {t : State} {st : StationId} {tag : Nat} {l : Layer} {ids : List Nat} : s.Changes t →
      (t.plan.get st).queue.find? (fun l => l.tag == tag) = some l → l.inFlight = false →
      s.Changes (t.requeue st { t.plan.get st with queue := changeTag tag Layer.withdrawn (t.plan.get st).queue } ids)
  /-- The plan is closed (R32). -/
  | closed {t : State} {st : StationId} : s.Changes t → s.Changes (t.setPlan st (t.plan.get st).close)
  /-- A plan is abandoned (R33). -/
  | abandoned {t u : State} {st : StationId} {ids : List Nat} : s.Changes t →
      u.ground = (t.setPlan st { queue := (t.plan.get st).queue.map Layer.abandoned, closed := true }).ground →
      s.Changes ((ids.foldl (fun s id => s.noteVoid st id) u).examineLayers st)
  /-- The limits of an empty stack change, and its station is swept (R37). -/
  | setLimits {t u : State} {st : StationId} {l : Limits} : s.Changes t → (t.stack.get st).table = [] →
      t.outstanding st = none → u.ground = (t.setStack st ((t.stack.get st).setLimits l)).ground →
      s.Changes (u.sweepTrigger st)
  /-- A type that is not referenced is defined (R7). -/
  | defineType {t : State} {b : TypeBody} : s.Changes t → b.ok = true → t.referenced b.index = false →
      s.Changes (t.setDir { t.dir with types := t.dir.types.setIfInBounds b.index (some b.stored) })
  /-- A reset (R178, R179). -/
  | reset {t u : State} : s.Changes t → u.plan = ⟨.initial, .initial⟩ → (∀ st, u.stack.get st = .bare (u.stack.get st).limits) →
      u.job = none → (u.dir.types = t.dir.types ∨ u.dir.types = Directory.initial.types) → s.Changes u

namespace State.Changes

variable {s₀ s : State} {st : StationId} {l : LaneId} {i : SlotId} {j : Job} {z : Zone}

/-! ### Combinators -/

/-- The state is one part of a pair. -/
theorem of_fst {r : State × Bool} {t : State} {b : Bool} (h : s₀.Changes r.1) (e : r = (t, b)) : s₀.Changes t := by
  subst e
  exact h

section operations

variable (h : s₀.Changes s)
include h

theorem foldl {α : Type} {f : State → α → State} (hf : ∀ {t : State} {a}, s₀.Changes t → s₀.Changes (f t a))
    {l : List α} : s₀.Changes (l.foldl f s) := by
  induction l generalizing s with
  | nil => exact h
  | cons a l ih => exact ih (hf h)

/-! ### Jobs (R98 to R103, R139 to R143) -/

theorem jobOff : s₀.Changes (s.jobOff j) := by
  have hu : s₀.Changes ((s.handBack.setJob none).sheetGone j) := h.unjob.keep (by simp)
  unfold State.jobOff
  dsimp only
  (repeat' split)
  next => exact (hu.sheetJobOver (st := _)).keep (State.endOfQueue_ground ..)
  next => exact hu.keep (State.endOfQueue_ground ..)
  next => exact hu.sheetJobOver
  next => exact hu

theorem jobEnd : s₀.Changes s.jobEnd := by
  cases hj : s.job with
  | none => rwa [State.jobEnd_of_none hj]
  | some j =>
    rw [State.jobEnd_eq hj]
    have ho := h.jobOff (j := j)
    exact ho.keep (by simp)

theorem dropJob : s₀.Changes s.dropJob := h.unclaim.jobEnd

theorem carryTest : s₀.Changes s.carryTest := by
  unfold State.carryTest State.carryLoss
  (repeat' split)
  exacts [h, (h.keep (by simp)).dropJob, (h.keep (by simp)).dropJob, h]

theorem deliver {k : Job} (hj : s.job = some k) (hk : j.target = k.target) : s₀.Changes (s.deliver j) := by
  obtain ⟨hkind, hdest, hres⟩ : j.kind = k.kind ∧ j.dest = k.dest ∧ j.reservation = k.reservation := by
    simpa [Job.target] using hk
  unfold State.deliver
  split
  next st id c ek ed _ =>
    split
    next r p er ep =>
      split
      next y ey => exact h.commitCase hj (hkind ▸ ek) (hdest ▸ ed) (hres ▸ er) ep ey
      next => exact h
    next => exact h
  next st ek ed _ =>
    split
    next r er => exact h.commitSheet hj (hkind ▸ ek) (hdest ▸ ed) (hres ▸ er)
    next => exact h
  next =>
    split
    exacts [h.keep (by simp), h]
  next => exact h.keep (by simp)
  next => exact h

theorem releaseDone : s₀.Changes s.releaseDone := by
  unfold State.releaseDone
  dsimp only
  split
  next => exact h.keep (by simp)
  next j hj =>
    have hr := h.keep (State.setJob_ground (s := (s.setGripper { s.gripper with state := .idle, timer := none }).clearUsed)
      (k := { j with released := true }) hj rfl)
    exact (hr.deliver (State.setJob_job ..) rfl).keep (State.modifyJob_ground _ fun _ => rfl)

/-! ### Stops and starts of moves (R113, R115, R123 to R127, R151, R154) -/

theorem takeStopped : s₀.Changes s.takeStopped := by
  unfold State.takeStopped
  (repeat' split)
  exacts [h, (h.keep (by simp)).carryTest, (h.keep (by simp)).carryTest]

theorem enterStopped : s₀.Changes s.enterStopped := by
  unfold State.enterStopped
  dsimp only
  (repeat' split)
  exacts [h.keep (by simp), (h.keep (by simp)).takeStopped, h.keep (by simp)]

theorem quickStop : s₀.Changes s.quickStop := by
  have hh : s₀.Changes (s.setGantry s.gantry.halt) := h.keep (by simp)
  unfold State.quickStop
  dsimp only
  split
  exacts [hh.enterStopped, hh.enterStopped, hh.enterStopped, hh.keep (by simp), hh]

theorem guardHalt {q : Bool} : s₀.Changes (s.guardHalt q) := by
  unfold State.guardHalt
  (repeat' split)
  exacts [h.quickStop, h.keep (by simp), h]

theorem guardStop {g : GuardInput} {o : Option Bool} : s₀.Changes (s.guardStop g o) := (h.keep (by simp)).guardHalt

theorem startLin {a : LinAxis} {m : Move} : s₀.Changes (s.startLin a m).1 := by
  unfold State.startLin
  dsimp only
  (repeat' split)
  exacts [h, h.guardStop, h.keep (by simp), h.keep (by simp)]

theorem startMove {a : LinAxis} {f : Profile} {x : Int} : s₀.Changes (s.startMove a f x).1 := h.startLin

theorem startXY {f : Profile} {xy : Int × Int} {t : Turn} : s₀.Changes (s.startXY f xy t).1 := by
  unfold State.startXY
  split
  next hx => exact of_fst h.startMove hx
  next hx =>
    have hs := of_fst h.startMove hx
    split
    next hy => exact of_fst hs.startMove hy
    next hy => exact (of_fst hs.startMove hy).keep (by simp)

/-! ### Phases (R121, R122, R126) -/

section next

variable {next : State → State} (hn : ∀ {t : State}, s₀.Changes t → s₀.Changes (next t))
include hn

theorem movingOr {m : Motion} : s₀.Changes (s.movingOr m next) := by
  unfold State.movingOr
  split
  exacts [h.keep (by simp), hn h]

theorem riseOr : s₀.Changes (s.riseOr j next) := by
  have hc : s₀.Changes s.computeTravel := h.keep (by simp)
  unfold State.riseOr
  dsimp only
  split
  · split
    next hz => exact (of_fst hc.startMove hz).keep (by simp)
    next hz => exact of_fst hc.startMove hz
  · exact hn hc

theorem descendOr {x : Int} : s₀.Changes (s.descendOr j x next) := by
  unfold State.descendOr
  dsimp only
  split
  next hz => exact (of_fst h.startLin hz).movingOr hn
  next hz => exact of_fst h.startLin hz

end next

theorem failedJobEnd : s₀.Changes (s.failedJobEnd j) := by
  have hu := h.unclaim
  unfold State.failedJobEnd
  dsimp only
  (repeat' split)
  exacts [(hu.keep (by simp)).jobEnd, (hu.keep (by simp)).jobEnd, (hu.keep (by simp)).jobEnd, hu.jobEnd, hu.jobEnd]

theorem endClear : s₀.Changes s.endClear := by
  unfold State.endClear
  (repeat' split)
  exacts [h.keep (by simp), h.failedJobEnd.keep (State.gantryTo_ground ..), h.jobEnd.keep (by simp)]

/-- A phase starts for the job, where there is one. -/
theorem setPhase {p : Phase} : s₀.Changes (s.setPhase p) := h.keep (by simp)

theorem startClear : s₀.Changes s.startClear := by
  unfold State.startClear
  dsimp only
  split
  exacts [h.setPhase, h.setPhase.riseOr endClear]

theorem startReleasePhase : s₀.Changes s.startReleasePhase := by
  unfold State.startReleasePhase
  dsimp only
  split
  exacts [h.keep (by simp), h.setPhase]

theorem startSetDown : s₀.Changes s.startSetDown := by
  unfold State.startSetDown
  dsimp only
  (repeat' split)
  exacts [h.setPhase, h.setPhase, h.setPhase.descendOr startReleasePhase]

theorem travelXY : s₀.Changes s.travelXY := by
  have ht : s₀.Changes ((s.setPhase .travel).modifyJob
      (fun j => if j.dest = some .spill ∧ j.spillK = none then { j with spillK := some s.spill } else j)) :=
    h.setPhase.keep (State.modifyJob_ground _ fun _ => by split <;> rfl)
  unfold State.travelXY
  dsimp only
  split
  · exact ht
  · split
    · exact ht
    · split
      next hx => exact (of_fst ht.startXY hx).movingOr startSetDown
      next hx => exact of_fst ht.startXY hx

theorem retravel : s₀.Changes s.retravel := by
  unfold State.retravel
  dsimp only
  split
  exacts [h.setPhase, h.setPhase.riseOr travelXY]

theorem startPickUp : s₀.Changes s.startPickUp := by
  unfold State.startPickUp
  dsimp only
  split
  exacts [h.setPhase.carryTest, h.setPhase.carryTest.riseOr travelXY]

theorem startGripPhase : s₀.Changes s.startGripPhase := by
  have hb : ∀ k, s₀.Changes ((s.setPhase .grip).gripBegin k).1 := fun k => h.keep (by simp)
  unfold State.startGripPhase
  dsimp only
  split
  · exact h.setPhase
  · split
    · split
      next hg => exact of_fst (hb _) hg
      next hg => exact ((of_fst (hb _) hg).keep (by simp)).startClear
    · exact h.setPhase

theorem startPickDown : s₀.Changes s.startPickDown := by
  unfold State.startPickDown
  dsimp only
  split
  exacts [h.setPhase, h.setPhase.descendOr startGripPhase]

theorem approachXY : s₀.Changes s.approachXY := by
  unfold State.approachXY
  split
  · exact h
  · split
    next hx => exact (of_fst h.startXY hx).movingOr startPickDown
    next hx => exact of_fst h.startXY hx

theorem startApproach : s₀.Changes s.startApproach := by
  unfold State.startApproach
  dsimp only
  split
  exacts [h.setPhase, h.setPhase.riseOr approachXY]

theorem gripped : s₀.Changes s.gripped := by
  unfold State.gripped
  dsimp only
  split
  · exact h
  next hj =>
    have hg := h.keep (State.gripDone_ground hj)
    split
    exacts [hg.startPickUp, hg]

theorem gripFail {e : GripEvent} : s₀.Changes (s.gripFail e) := by
  have hg : s₀.Changes (s.gripFailed e) := h.keep (by simp)
  unfold State.gripFail
  dsimp only
  split
  exacts [hg.startClear, hg]

theorem releaseComplete : s₀.Changes s.releaseComplete := by
  unfold State.releaseComplete
  dsimp only
  split
  exacts [h.releaseDone.startClear, h.releaseDone]

theorem gripTest : s₀.Changes s.gripTest := by
  unfold State.gripTest
  split
  exacts [h.gripped, h]

theorem holdUp : s₀.Changes s.holdUp := by
  unfold State.holdUp
  (repeat' split)
  exacts [h, h.riseOr id, h]

theorem replan : s₀.Changes s.replan := by
  have hb : s₀.Changes (s.computeTravel.gantryTo .busy) := h.keep (by simp)
  unfold State.replan
  (repeat' split)
  exacts [h, ((h.keep (by simp)).carryTest).holdUp, hb.startApproach, hb.startPickDown, hb.startPickUp, hb.startClear,
    hb.startGripPhase, hb.startPickUp, hb.carryTest.retravel, hb.startSetDown, hb.startClear, hb.startReleasePhase,
    hb.startClear]

theorem resumeGantry : s₀.Changes s.resumeGantry := by
  unfold State.resumeGantry
  (repeat' split)
  exacts [h.replan, h, h.holdUp, h]

theorem atRest {b : Bool} : s₀.Changes (s.atRest b) := by
  have hr : ∀ {t : State}, s₀.Changes t → s₀.Changes ((t.setGantry { t.gantry with heldChange := false }).modifyJob
      (fun j => { j with phase := j.phase.redirected })) :=
    fun ht => ht.keep (State.modifyJob_ground _ fun _ => rfl)
  unfold State.atRest
  dsimp only
  (repeat' split)
  exacts [h.enterStopped, h.endClear, (hr h.setPhase).replan, h.setPhase.replan, h.setPhase.enterStopped, (hr h).replan,
    h.replan, h.enterStopped]

theorem motionDone : s₀.Changes s.motionDone := by
  have hm : s₀.Changes (s.setMotion .none) := h.keep (by simp)
  unfold State.motionDone
  dsimp only
  (repeat' split)
  exacts [hm.keep (by simp), hm.retravel, hm.holdUp, hm.atRest, hm.approachXY, hm.travelXY, hm.travelXY, hm, hm.endClear,
    hm.startPickDown, hm.startSetDown, hm.startGripPhase, hm.startReleasePhase, hm]

theorem settleMotion : s₀.Changes s.settleMotion := by
  unfold State.settleMotion
  split
  exacts [h, h.motionDone]

theorem rampedStop : s₀.Changes s.rampedStop := by
  unfold State.rampedStop
  split
  exacts [(h.keep (by simp)).settleMotion, (h.keep (by simp)).settleMotion, h]

theorem replanTravel : s₀.Changes s.replanTravel := (h.keep (by simp)).settleMotion

theorem gantryTakes : s₀.Changes s.gantryTakes := by
  unfold State.gantryTakes
  (repeat' split)
  exacts [h, (h.keep (by simp)).settleMotion, h.replanTravel, h, h.keep (by simp), h.takeStopped, h,
    (h.keep (by simp)).replanTravel, h, h.keep (by simp), h]

/-! ### Jobs that are interrupted (R72, R99, R101 to R103, R158) -/

theorem cancelGantry : s₀.Changes s.cancelGantry := by
  unfold State.cancelGantry
  split
  exacts [(h.keep (by simp)).settleMotion, h.keep (by simp), h]

theorem cancelJob : s₀.Changes s.cancelJob := by
  unfold State.cancelJob
  (repeat' split)
  exacts [h, (h.unclaim.keep (by simp)).jobEnd.cancelGantry, (h.unclaim.keep (by simp)).jobEnd.cancelGantry]

end operations

end State.Changes

end Sys2Proof.Machine
end

section
/-! SUPPORT. What a step can do to the ground of a state, continued: interrupted jobs, the guards, the dispatcher, the requests, the
events, and every command. -/

namespace Sys2Proof.Machine

/-- Steps 1 to 3 of a conversion (R102). -/
def State.putawayOff (s : State) (j : Job) : State :=
  let s := s.handBack.dropReservation.modifyJob
    (fun j => { j with kind := .putaway, turn := .t0, spillK := none, dest := none })
  let s : State :=
    match j.kind, j.dest with
    | .sheet, some (.sheet st) => s.sheetJobOver st
    | _, _ => s
  match j.station with
  | some st => (s.endOfQueue st).stallTest st
  | none => s

theorem State.toPutaway_of_none {s : State} (hj : s.job = none) : s.toPutaway = s := by simp [State.toPutaway, hj]

/-- A conversion: the job is unbound, and one that carries an item takes a destination (R102). -/
theorem State.toPutaway_eq {s : State} {j : Job} (hj : s.job = some j) :
    s.toPutaway = match j.carried with
      | some item => (s.putawayOff j).modifyJob (fun k => { k with dest := (s.putawayOff j).chooseDest item })
      | none => s.putawayOff j := by
  unfold State.toPutaway State.putawayOff
  simp only [hj] <;> rfl

theorem State.putawayOff_floor (s : State) (j : Job) :
    (s.putawayOff j).floor = (s.handBack.dropReservation.modifyJob
      (fun j => { j with kind := .putaway, turn := .t0, spillK := none, dest := none })).floor := by
  unfold State.putawayOff
  dsimp only
  (repeat' split) <;> simp

/-- A job that is unbound is a PUTAWAY job. -/
theorem State.putawayOff_kind {s : State} {j k : Job} (hk : (s.putawayOff j).job = some k) : k.kind = .putaway := by
  have he := congrArg Floor.job (s.putawayOff_floor j)
  obtain ⟨_, _, rfl⟩ := Option.map_eq_some_iff.mp (he.symm.trans hk)
  rfl

namespace State.Changes

variable {s₀ s : State} {st : StationId} {l : LaneId} {i : SlotId} {j : Job} {z : Zone}

section operations

variable (h : s₀.Changes s)
include h

/-! ### Interrupted jobs (R102, R103, R158) -/

/-- A job that is bound to no station takes another destination. -/
theorem redirected {f : Job → Job} (hs : ∀ j, s.job = some j → j.station = none ∧ (f j).station = none) :
    s₀.Changes (s.modifyJob f) := by
  cases hj : s.job with
  | none => exact h.keep (by simp [State.ground, State.modifyJob, hj])
  | some j =>
    obtain ⟨hn, hf⟩ := hs j hj
    have he : s.modifyJob f = s.setJob (some (f j)) := by simp [State.modifyJob, hj]
    exact he ▸ h.rejob hj hn hf

theorem putawayOff : s₀.Changes (s.putawayOff j) := by
  have hp : s₀.Changes (s.handBack.dropReservation.modifyJob
      (fun j => { j with kind := .putaway, turn := .t0, spillK := none, dest := none })) := h.putaway fun _ => rfl
  unfold State.putawayOff
  dsimp only
  (repeat' split)
  next => exact (hp.sheetJobOver (st := _)).keep (by rw [State.stallTest_ground, State.endOfQueue_ground])
  next => exact hp.keep (by rw [State.stallTest_ground, State.endOfQueue_ground])
  next => exact hp.sheetJobOver
  next => exact hp

theorem toPutaway : s₀.Changes s.toPutaway := by
  cases hj : s.job with
  | none => rwa [State.toPutaway_of_none hj]
  | some j =>
    rw [State.toPutaway_eq hj]
    split
    · refine h.putawayOff.redirected fun k hk => ?_
      have hp := State.putawayOff_kind hk
      simp [Job.station, hp]
    · exact h.putawayOff

theorem convert : s₀.Changes s.convert := h.toPutaway.gantryTakes

theorem lossOfTarget : s₀.Changes (s.lossOfTarget st) := by
  unfold State.lossOfTarget
  (repeat' split)
  exacts [h, h, h.cancelJob, h, h.convert]

theorem chooseAgain {item : Item} (hj : s.job = some j) (hs : j.station = none) : s₀.Changes (s.chooseAgain j item) := by
  refine (h.redirected fun k hk => ?_).gantryTakes
  obtain rfl : j = k := by simpa [hj] using hk
  refine ⟨hs, ?_⟩
  unfold Job.station
  dsimp only
  (repeat' split) <;> simp_all

theorem destLost : s₀.Changes (s.destLost i) := by
  unfold State.destLost
  split
  · exact h
  next j hj =>
    split
    · exact h
    next hd =>
      have hs : j.station = none := by simp only [ne_eq, Decidable.not_not] at hd; simp [Job.station, hd]
      (repeat' split)
      exacts [h.cancelJob, h, h.chooseAgain hj hs, h]

theorem awaitChoice : s₀.Changes s.awaitChoice := by
  unfold State.awaitChoice
  split
  · exact h
  next j hj =>
    split
    next hk _ _ =>
      split
      · refine (h.redirected fun k hk' => ?_).gantryTakes
        obtain rfl : j = k := by simpa [hj] using hk'
        simp [Job.station, hk]
      · exact h
    · exact h

theorem holdStation {x : Hold} : s₀.Changes (s.holdStation st x) :=
  have hs := h.keep (State.stationSet_ground s st (.plain (.held x)) false)
  hs.lossOfTarget

theorem sheetsOut : s₀.Changes (s.sheetsOut st) := by
  unfold State.sheetsOut
  split
  exacts [h.holdStation, h]

theorem debris : s₀.Changes (s.debris st) := by
  unfold State.debris
  split
  exacts [h, h, h.holdStation, h, h, h.keep (by simp)]

theorem enterPurge {c : PurgeCause} : s₀.Changes (s.enterPurge l c) := by
  have hm : s₀.Changes (s.setLane l (s.lanes.get l).marked) := h.keep (by simp)
  unfold State.enterPurge
  dsimp only
  (repeat' split)
  exacts [hm.cancelJob.keep (by simp), hm.keep (by simp), hm.keep (by simp)]

/-! ### Guard (R34, R62, R151 to R154, R160, R161) -/

theorem returned : s₀.Changes s.returned := by
  unfold State.returned
  split
  exacts [h.resumeGantry.keep (by simp), h.resumeGantry, h]

theorem guardClear {g : GuardInput} {o : Option Bool} : s₀.Changes (s.guardClear g o) := by
  have hg : ∀ r, s₀.Changes (((s.setCellRun (s.cell.run.clear g)).setCellRun r).guardReport g false false o) :=
    fun r => h.keep (by simp)
  unfold State.guardClear
  dsimp only
  split
  exacts [hg _, (hg _).returned, hg _]

theorem stationClear {m : Standing} : s₀.Changes (s.stationClear st m) := by
  have hc : ∀ n, s₀.Changes (((s.vacated st).setStall st false).setStn st n) :=
    fun n => (h.vacated (st := st)).keep (by simp)
  have hl : ∀ n, s₀.Changes ((((s.vacated st).setStall st false).setStn st n).lossOfTarget st) := fun n => (hc n).lossOfTarget
  unfold State.stationClear
  exact (hl { (s.vacated st).stn.get st with departure := .unset }).keep
    (by rw [State.reschedule_ground, State.stationSet_ground, State.staleScan_ground]; rfl)

theorem returnToBuilding : s₀.Changes (s.returnToBuilding st) := by
  have hs := h.keep (State.stationSet_ground s st (.plain .building) false)
  exact (hs.sweepTrigger (st := st)).keep (State.endOfQueue_ground ..)

theorem exchangeBack {m : Standing} : s₀.Changes (s.exchangeBack st m) := by
  unfold State.exchangeBack
  dsimp only
  (repeat' split)
  exacts [h.returnToBuilding, h.keep (by simp), h.keep (by simp), h.keep (by simp)]

theorem exchangeEnd : s₀.Changes (s.exchangeEnd st) := by
  unfold State.exchangeEnd
  dsimp only
  (repeat' split)
  exacts [h.stationClear, h.exchangeBack, h.stationClear, h]

/-! ### Dispatcher (R91 to R97) -/

theorem giveUp {c : Choice} : s₀.Changes (s.giveUp c) := by
  unfold State.giveUp
  split
  exacts [h.keep (by simp), h.keep (by simp), h.sheetsOut, h]

theorem createJob {c : Choice} (hj : s.job = none) (hc : s.choice = some c) : s₀.Changes (s.createJob c) :=
  ((h.claim hj hc).keep (by simp)).startApproach

theorem holdForSheets : s₀.Changes s.holdForSheets := by
  unfold State.holdForSheets
  split
  · refine foldl h (fun ht => ?_)
    split
    exacts [ht.sheetsOut, ht]
  · exact h

theorem evaluate (fuel : Nat) : s₀.Changes (s.evaluate fuel) := by
  induction fuel generalizing s with
  | zero => exact h
  | succ n ih =>
    unfold State.evaluate
    dsimp only
    split
    next hm =>
      have hj : s.holdForSheets.job = none :=
        (State.holdForSheets_stationsOnly (State.mayDispatch_job hm)).job.trans (State.mayDispatch_job hm)
      split
      · exact h.holdForSheets
      next hc =>
        split
        exacts [h.holdForSheets.createJob hj hc, ih h.holdForSheets.giveUp]
    · exact h

/-! ### Homing (R117, R118) -/

theorem homedWithItem : s₀.Changes s.homedWithItem := by
  have hp := h.toPutaway.setPhase (p := .travel)
  unfold State.homedWithItem
  dsimp only
  (repeat' split)
  exacts [hp.keep (by simp), (hp.keep (by simp)).carryTest, (hp.keep (by simp)).carryTest.retravel,
    (hp.keep (by simp)).carryTest, (hp.keep (by simp)).carryTest]

theorem homingComplete : s₀.Changes s.homingComplete := by
  have hg : ∀ g, s₀.Changes (s.setGantry g) := fun g => h.keep (by simp)
  unfold State.homingComplete
  dsimp only
  (repeat' split)
  exacts [h.keep (by simp), (hg _).homedWithItem, (hg _).cancelJob.keep (State.gantryTo_ground ..)]

theorem homingXY : s₀.Changes s.homingXY := by
  have hg : ∀ g, s₀.Changes (s.setGantry g) := fun g => h.keep (by simp)
  unfold State.homingXY
  dsimp only
  (repeat' split)
  exacts [h.keep (by simp), (hg _).homingComplete, hg _, (hg _).homingComplete, hg _,
    (hg _).homingComplete, hg _, (hg _).homingComplete, hg _]

theorem homingT : s₀.Changes s.homingT := by
  have hg : ∀ g, s₀.Changes (s.setGantry g) := fun g => h.keep (by simp)
  have hgg : ∀ g g', s₀.Changes ((s.setGantry g).setGantry g') := fun g g' => h.keep (by simp)
  unfold State.homingT
  dsimp only
  split
  exacts [(hgg _ _).homingXY, hg _]

theorem homingZ : s₀.Changes s.homingZ := by
  have hg : ∀ g, s₀.Changes (s.setGantry g) := fun g => h.keep (by simp)
  have hgg : ∀ g g', s₀.Changes ((s.setGantry g).setGantry g') := fun g g' => h.keep (by simp)
  unfold State.homingZ
  dsimp only
  (repeat' split)
  exacts [(hgg _ _).homingT, h.keep (by simp), hg _]

theorem homingStart : s₀.Changes s.homingStart := by
  have hg : ∀ g, s₀.Changes ((s.setGantry g).gantryTo .homing) := fun g => h.keep (by simp)
  exact (hg _).homingZ

theorem homeFound {a : Axis} : s₀.Changes (s.homeFound a) := by
  have hg : ∀ g, s₀.Changes (s.setGantry g) := fun g => h.keep (by simp)
  unfold State.homeFound
  dsimp only
  (repeat' split)
  exacts [(hg _).homingT, (hg _).homingXY, (hg _).homingComplete, hg _]

/-! ### Plan requests (R22, R30 to R33, R90, R162) -/

theorem takeLayer {y : Layer} {bs : List PlaceBody} (hc : s.checkPlaces st [] bs = .ok y.placements) :
    s₀.Changes (s.takeLayer st y) := by
  have hl : s₀.Changes (s.layerTaken st y) := h.layerTaken hc
  have hs : ∀ {u : State}, u.ground = (s.layerTaken st y).ground → s₀.Changes (u.sweepTrigger st) :=
    fun e => (hl.keep e).sweepTrigger
  unfold State.takeLayer
  dsimp only
  unfold State.layerTaken at hl hs
  dsimp only at hl hs
  (repeat' split) <;> simp_all only [if_true, if_false]
  exacts [hs (by simp), hs (by simp), hs (by simp), hs (by simp), hl.keep (by simp), hl.keep (by simp), hl.keep (by simp),
    hl.keep (by simp)]

theorem ownLoadLayer {b : List Byte} : s₀.Changes (ownLoadLayer b s).1 := by
  unfold Machine.ownLoadLayer
  split
  · exact h
  next v hv =>
    dsimp only
    (repeat' split) <;> try exact h
    next hps => exact h.takeLayer hps

theorem ownWithdrawId {b : List Byte} : s₀.Changes (ownWithdrawId b s).1 := by
  unfold Machine.ownWithdrawId
  dsimp only
  split
  · exact h
  · split
    · exact h
    next hq =>
      split
      exacts [h, h, h, h.voidPlacement hq ‹_›]

theorem ownWithdrawTag {b : List Byte} : s₀.Changes (ownWithdrawTag b s).1 := by
  unfold Machine.ownWithdrawTag
  dsimp only
  split
  · exact h
  · split
    · exact h
    next hl =>
      split
      · exact h
      next hf => exact h.withdrawn hl (by simpa using hf)

theorem ownClosePlan {b : List Byte} : s₀.Changes (ownClosePlan b s).1 := by
  unfold Machine.ownClosePlan
  (repeat' split)
  exacts [h, h, h.closed.keep (State.closedStation_ground ..)]

theorem ownAbandonPlan {b : List Byte} : s₀.Changes (ownAbandonPlan b s).1 := by
  unfold Machine.ownAbandonPlan
  split
  · exact h
  next st _ =>
    have ha := h.abandoned (st := st)
      (u := (((s.setPlan st { queue := (s.plan.get st).queue.map Layer.abandoned, closed := true }).markAbandoned
        st).reschedule st).staleScan)
      (ids := ((s.plan.get st).placements.filter (fun q => q.state == .pending)).map Placement.id) (by simp)
    exact (ha.lossOfTarget (st := st)).keep (State.closedStation_ground ..)

theorem ownSetDeparture {b : List Byte} : s₀.Changes (ownSetDeparture b s).1 := by
  unfold Machine.ownSetDeparture
  dsimp only
  (repeat' split)
  exacts [h, h, h.keep (by simp), h.keep (by simp)]

theorem sheetsIn : s₀.Changes (s.sheetsIn st) := by
  unfold State.sheetsIn
  split
  exacts [h.returnToBuilding, h]

theorem ownSetSheets {b : List Byte} : s₀.Changes (ownSetSheets b s).1 := by
  have hm : ∀ n, s₀.Changes (s.setMagazine n) := fun n => h.keep (by simp)
  unfold Machine.ownSetSheets
  dsimp only
  split
  · exact h
  · split
    exacts [hm _, (hm _).foldl fun ht => ht.sheetsIn]

/-! ### Operating requests (R72, R84, R117, R142, R148, R153, R158) -/

theorem ownHome : s₀.Changes (ownHome s).1 := by
  unfold Machine.ownHome
  split
  exacts [h.homingStart, h]

theorem ownStart : s₀.Changes (ownStart s).1 := by
  unfold Machine.ownStart
  (repeat' split)
  exacts [h, h, h, h, h.keep rfl]

theorem ownStop : s₀.Changes (ownStop s).1 := h.keep rfl

theorem ownPauseQuick : s₀.Changes (ownPauseQuick s).1 := by
  have hc : ∀ r, s₀.Changes (s.setCellRun r) := fun r => h.keep (by simp)
  unfold Machine.ownPauseQuick
  (repeat' split)
  exacts [h, (hc _).quickStop]

theorem ownPauseRamped {b : List Byte} : s₀.Changes (ownPauseRamped b s).1 := by
  have hc : ∀ r, s₀.Changes (s.setCellRun r) := fun r => h.keep (by simp)
  unfold Machine.ownPauseRamped
  (repeat' split)
  exacts [h, h, h, (hc _).rampedStop]

theorem ownResume : s₀.Changes (ownResume s).1 := by
  have hc : ∀ r, s₀.Changes (s.setCellRun r) := fun r => h.keep (by simp)
  unfold Machine.ownResume
  (repeat' split)
  exacts [(hc _).returned, (hc _).returned, h, h]

theorem answerDrop : s₀.Changes s.answerDrop := h.keep rfl

theorem ownRecover {b : List Byte} : s₀.Changes (ownRecover b s).1 := by
  unfold Machine.ownRecover
  (repeat' split)
  exacts [h, h, h.answerDrop.debris, h.answerDrop.debris, h.answerDrop]

theorem ownGripperReset : s₀.Changes (ownGripperReset s).1 := by
  have hz : s₀.Changes (allZones.foldl State.refault (s.setGripper s.gripper.cleared)) :=
    h.keep ((State.foldl_ground _ State.refault_ground _).trans (by simp))
  unfold Machine.ownGripperReset
  dsimp only
  (repeat' split)
  exacts [h, hz.keep (by simp), hz]

theorem ownClearSlot {b : List Byte} : s₀.Changes (ownClearSlot b s).1 := by
  unfold Machine.ownClearSlot
  (repeat' split)
  exacts [h, h, h, h, h.keep rfl]

theorem ownStationHold {b : List Byte} : s₀.Changes (ownStationHold b s).1 := by
  unfold Machine.ownStationHold
  (repeat' split)
  exacts [h, h.holdStation, h, h]

theorem ownStationResume {b : List Byte} : s₀.Changes (ownStationResume b s).1 := by
  unfold Machine.ownStationResume
  (repeat' split)
  exacts [h, h, h.returnToBuilding, h]

theorem ownPurgeLane {b : List Byte} : s₀.Changes (ownPurgeLane b s).1 := by
  unfold Machine.ownPurgeLane
  (repeat' split)
  exacts [h, h, h.enterPurge]

/-! ### Settings (R5, R10 to R12, R37, R109, R111, R135, R152) -/

theorem ownSetCell {b : List Byte} : s₀.Changes (ownSetCell b s).1 := by
  unfold Machine.ownSetCell
  dsimp only
  (repeat' split)
  exacts [h, h, h.keep rfl]

theorem ownSetStation {b : List Byte} : s₀.Changes (ownSetStation b s).1 := by
  unfold Machine.ownSetStation
  dsimp only
  split
  · exact h
  next v _ =>
    split
    · exact h
    · split
      · exact h
      next ht =>
        split
        · exact h
        next ho =>
          split
          · exact h
          · have hl : ∀ n a, s₀.Changes ((((((s.setStack v.st ((s.stack.get v.st).setLimits v.limits)).setStn v.st
                n).setAuto a).reschedule v.st)).sweepTrigger v.st) :=
              fun n a => h.setLimits (l := v.limits) (by simpa using ht) (by simpa using ho) (by simp)
            have hr : ∀ n a r, s₀.Changes (((((((s.setStack v.st ((s.stack.get v.st).setLimits v.limits)).setStn v.st
                n).setAuto a).reschedule v.st).sweepTrigger v.st)).setCellRun r) :=
              fun n a r => (hl n a).keep (State.setCellRun_ground ..)
            split
            exacts [hr .., (hr ..).returned]

theorem ownSetProfile {b : List Byte} : s₀.Changes (ownSetProfile b s).1 := by
  unfold Machine.ownSetProfile
  dsimp only
  (repeat' split)
  exacts [h, h, h.keep rfl]

theorem ownSetHandling {b : List Byte} : s₀.Changes (ownSetHandling b s).1 := by
  unfold Machine.ownSetHandling
  (repeat' split)
  exacts [h.keep rfl, h, h]

theorem ownSetGripper {b : List Byte} : s₀.Changes (ownSetGripper b s).1 := by
  have hg : ∀ g, s₀.Changes (s.setGripper g) := fun g => h.keep (by simp)
  unfold Machine.ownSetGripper
  dsimp only
  (repeat' split)
  exacts [h, h, (hg _).gripTest.carryTest]

theorem ownDefineType {b : List Byte} : s₀.Changes (ownDefineType b s).1 := by
  unfold Machine.ownDefineType
  dsimp only
  split
  · exact h
  · split
    · exact h
    next hk =>
      split
      · exact h
      next hr => exact h.defineType (by simpa using hk) (by simpa using hr)

theorem ownDefineArticle {b : List Byte} : s₀.Changes (ownDefineArticle b s).1 := by
  unfold Machine.ownDefineArticle
  dsimp only
  (repeat' split) <;> exact h.keep rfl

theorem ownDropArticle {b : List Byte} : s₀.Changes (ownDropArticle b s).1 := by
  unfold Machine.ownDropArticle
  dsimp only
  (repeat' split)
  exacts [h, h.keep rfl, h]

/-! ### Events of the infeed and the shelf (R66 to R79, R83, R85) -/

theorem arrive {f : List Byte} : s₀.Changes (s.arrive l f) := by
  have hn : ∀ n b, s₀.Changes ((s.setLane l n).report b) := fun n b => h.keep (by simp)
  unfold State.arrive
  dsimp only
  split
  exacts [(hn ..).enterPurge, hn ..]

theorem scan {b : Byte} : s₀.Changes (s.scan l b) := by
  have hn : ∀ n, s₀.Changes (s.setLane l n) := fun n => h.keep (by simp)
  unfold State.scan
  dsimp only
  split
  exacts [(hn _).arrive, hn _]

theorem scanAll {bs : List Byte} : s₀.Changes (s.scanAll l bs) := h.foldl fun ht => ht.scan

theorem scanDrop : s₀.Changes (s.scanDrop l) := h.keep rfl

theorem lostAtPick : s₀.Changes (s.lostAtPick l) := by
  have hn : ∀ n b, s₀.Changes (((s.setLane l n).report b).laneTest l) := fun n b => h.keep (by simp)
  unfold State.lostAtPick
  dsimp only
  split
  exacts [(hn ..).cancelJob, hn ..]

theorem caseOff : s₀.Changes (s.caseOff l) := by
  have hi : s₀.Changes (s.setCasePresent l false) := h.keep (State.setInputs_ground ..)
  unfold State.caseOff
  dsimp only
  (repeat' split)
  exacts [h, hi, hi.lostAtPick, hi.keep (by simp), hi.keep (by simp)]

theorem caseInput {v : Bool} : s₀.Changes (s.caseInput l v) := by
  unfold State.caseInput
  split
  exacts [h.keep (by simp), h.caseOff]

theorem presenceOn : s₀.Changes (s.presenceOn i) := by
  have hi : ∀ x b, s₀.Changes ((((s.setSlot i x).report b).slotEvent)) := fun x b => h.keep (by simp)
  unfold State.presenceOn
  (repeat' split)
  exacts [h, (hi ..).destLost, h]

theorem presenceOff : s₀.Changes (s.presenceOff i) := by
  have hi : ∀ x b, s₀.Changes ((((s.setSlot i x).report b).slotEvent)) := fun x b => h.keep (by simp)
  unfold State.presenceOff
  dsimp only
  (repeat' split)
  exacts [h.keep (by simp), (hi ..).cancelJob, hi .., h]

theorem presence {v : Bool} : s₀.Changes (s.presence i v) := by
  have hi : ∀ x, s₀.Changes (s.setInputs x) := fun x => h.keep (by simp)
  unfold State.presence
  dsimp only
  (repeat' split)
  exacts [h, (hi _).presenceOn, (hi _).presenceOff]

/-! ### Events of the gantry and the gripper (R115, R117, R118, R127, R134, R138 to R147) -/

theorem moveEnds {a : Axis} : s₀.Changes (s.moveEnds a) := by
  have hg : ∀ g, s₀.Changes (s.setGantry g) := fun g => h.keep (by simp)
  unfold State.moveEnds
  dsimp only
  (repeat' split)
  exacts [h, (hg _).settleMotion, h, (hg _).settleMotion, h.keep (by simp)]

theorem homeInput {a : Axis} {v : Bool} : s₀.Changes (s.homeInput a v) := by
  have hi : ∀ x, s₀.Changes (s.setInputs x) := fun x => h.keep (by simp)
  unfold State.homeInput
  dsimp only
  (repeat' split)
  exacts [h, (hi _).homeFound, hi _]

theorem reading {v : Nat} : s₀.Changes (s.reading z v) := by
  have hi : ∀ x, s₀.Changes (s.setInputs x) := fun x => h.keep (by simp)
  exact (hi _).gripTest.carryTest

theorem gripTimerEnds : s₀.Changes s.gripTimerEnds := by
  unfold State.gripTimerEnds
  dsimp only
  (repeat' split)
  exacts [h.keep (by simp), h.gripFail, h]

theorem releaseTimerEnds : s₀.Changes s.releaseTimerEnds := by
  have hg : ∀ g, s₀.Changes (s.setGripper g) := fun g => h.keep (by simp)
  unfold State.releaseTimerEnds
  dsimp only
  (repeat' split)
  exacts [(hg _).releaseComplete, h.keep (by simp), h.keep (by simp), h]

theorem gripLosesZone : s₀.Changes (s.gripLosesZone z) := by
  have hg : ∀ g, s₀.Changes (s.setGripper g) := fun g => h.keep (by simp)
  unfold State.gripLosesZone
  dsimp only
  (repeat' split)
  exacts [hg _, (hg _).gripFail, (hg _).gripTest]

theorem zoneFaultEffect : s₀.Changes (s.zoneFaultEffect z) := by
  unfold State.zoneFaultEffect
  (repeat' split)
  exacts [h.gripLosesZone, h.carryTest, h, h]

theorem faultLevel {k : FaultKind} {v : Bool} : s₀.Changes (s.faultLevel z k v) := by
  have hz : ∀ x e, s₀.Changes ((s.setInputs x).zoneFault z e) := fun x e => h.keep (by simp)
  unfold State.faultLevel
  dsimp only
  (repeat' split)
  exacts [h, (hz ..).zoneFaultEffect, h.keep (by simp)]

/-! ### Events of the guards and the stations (R128, R154, R155, R159 to R162) -/

theorem doorInput {v : Bool} : s₀.Changes (s.doorInput v) := by
  have hi : ∀ x, s₀.Changes (s.setInputs x) := fun x => h.keep (by simp)
  unfold State.doorInput
  dsimp only
  (repeat' split)
  exacts [h, (hi _).guardStop, (hi _).guardClear]

theorem curtainBreaks : s₀.Changes (s.curtainBreaks st) := by
  have hc : ∀ x n r b m, s₀.Changes ((((((s.setInputs x).setStn st n).setCellRun r).report b)).stationSet st m) :=
    fun x n r b m => h.keep (by simp)
  unfold State.curtainBreaks
  dsimp only
  split
  · exact h
  · split
    exacts [(hc ..).guardHalt, hc ..]

theorem curtainRestored : s₀.Changes (s.curtainRestored st) := by
  have hi : ∀ x, s₀.Changes (s.setInputs x) := fun x => h.keep (by simp)
  unfold State.curtainRestored
  dsimp only
  split
  exacts [(hi _).exchangeEnd.guardClear, h]

theorem curtainInput {v : Bool} : s₀.Changes (s.curtainInput st v) := by
  unfold State.curtainInput
  split
  exacts [h.curtainBreaks, h.curtainRestored]

/-- The event of an input is such a change, whichever input it is. -/
theorem inputEvent {x : Sensor} {v : Bool} : s₀.Changes (s.inputEvent x v) := by
  cases x with
  | door => exact h.doorInput
  | warning => exact h.keep (State.warningInput_ground ..)
  | spillCleared => exact h.keep (State.spillInput_ground ..)
  | curtain st => exact h.curtainInput
  | pallet st => exact h.keep (State.palletInput_ground ..)
  | casePresent l => exact h.caseInput
  | laneEmpty l => exact h.keep (State.emptyInput_ground ..)
  | slot i => exact h.presence
  | home a => exact h.homeInput
  | limit a side => exact h.keep (State.limitInput_ground ..)
  | fault z k => exact h.faultLevel

/-! ### The end of a step and the requests (R91, R103, R167 to R170) -/

theorem settle : s₀.Changes s.settle := by
  have hc : s₀.Changes s.chosen := by
    unfold State.chosen
    dsimp only
    (repeat' split)
    exacts [h.awaitChoice.evaluate 16, h.awaitChoice, h.evaluate 16, h]
  exact hc.keep rfl

theorem request {kind : Nat} {tag : Byte} {body : List Byte} {owner : State → State × ReplyBody}
    (ho : ∀ {t : State}, s₀.Changes t → s₀.Changes (owner t).1) : s₀.Changes (s.request kind tag body owner) := by
  have hd : ∀ {t : State}, s₀.Changes t → s₀.Changes (t.decide kind body owner) := by
    intro t ht
    have hr : s₀.Changes (t.decided kind body owner).1 := by
      unfold State.decided
      (repeat' split)
      exacts [ht, ht, ht, ho ht]
    exact hr.keep rfl
  have hi : s₀.Changes (s.intake (byte kind) tag body) := h.keep rfl
  unfold State.request
  dsimp only
  (repeat' split)
  exacts [hd h, hd hi, hi]

/-! ### The resets (R87, R178, R179) -/

theorem poweredOn : s₀.Changes s.poweredOn := by
  have hc : s₀.Changes (s.settingsLost.cleared.started false) :=
    h.reset rfl (fun st => by cases st <;> rfl) rfl (.inr rfl)
  exact hc.keep (by simp [State.poweredOn])

theorem restartClear : s₀.Changes s.restartClear := by
  have hc : s₀.Changes (s.cleared.started true) := h.reset rfl (fun st => by cases st <;> rfl) rfl (.inl rfl)
  exact hc.keep (by simp [State.restartClear])

theorem frameSent : s₀.Changes s.frameSent := by
  have hl : ∀ x, s₀.Changes (s.setLink x) := fun x => h.keep (by simp)
  unfold State.frameSent
  dsimp only
  (repeat' split)
  exacts [h, (hl _).restartClear, hl _, hl _]

/-! ### Every command -/

theorem inputStood {x : Sensor} : s₀.Changes (s.inputStood x fun v s => s.inputEvent x v) := by
  have hi : ∀ y, s₀.Changes (s.setInputs y) := fun y => h.keep (by simp)
  exact (hi _).inputEvent

theorem filtered {x : Sensor} {v : Bool} : s₀.Changes (filtered x v (fun v s => s.inputEvent x v) s) := by
  unfold Machine.filtered
  dsimp only
  (repeat' split)
  exacts [h, h.keep (by simp), h.inputStood.keep (State.setInputs_ground ..), h.inputStood, h.keep (by simp), h]

end operations

/-- A step that takes a change, begun from the state without its command. -/
theorem run {f : State → State} (hf : s₀.Changes (f s.fresh)) {t : State} (ht : Machine.run f s = .next t) :
    s₀.Changes t := by
  cases ht
  exact hf.settle

section commands

variable (h : s₀.Changes s)
include h

theorem runRequest {kind : Nat} {tag : Byte} {body : List Byte} {owner : State → State × ReplyBody}
    (ho : ∀ {t : State}, s₀.Changes t → s₀.Changes (owner t).1) {t : State}
    (ht : Machine.run (fun s => s.request kind tag body owner) s = .next t) : s₀.Changes t :=
  run ((h.keep (State.fresh_ground s)).request ho) ht

/-- What every command does to the ground. -/
theorem exec {c : Instr} {t : State} (ht : exec c s = .next t) : s₀.Changes t := by
  have hs : s₀.Changes s.fresh := h.keep (State.fresh_ground s)
  cases c with
  | powerOn => exact run hs.poweredOn ht
  | frameSent => exact run hs.frameSent ht
  | goodFrame | frameCheckMismatch | bodyLengthAbove1020 => exact run (f := fun s => s.receive _) (hs.keep rfl) ht
  | linkGapTimeout _ e => exact run (f := fun s => (s.receive _).setFramer (hunt hostMarker e)) (hs.keep rfl) ht
  | linkStopBitError => exact run (f := fun s => (s.receive _).setFramer .hunting) (hs.keep rfl) ht
  | unknownKind =>
    simp only [Machine.exec, execUnknownKind] at ht
    exact run (by split; exacts [hs, hs.request id]) ht
  | withdrawId =>
    simp only [Machine.exec, execWithdrawId] at ht
    exact run (by split; exacts [hs, hs.request fun ht => ht.ownWithdrawId]) ht
  | withdrawTag =>
    simp only [Machine.exec, execWithdrawTag] at ht
    exact run (by split; exacts [hs.request fun ht => ht.ownWithdrawTag, hs]) ht
  | pauseRamped =>
    simp only [Machine.exec, execPauseRamped] at ht
    exact run (by split; exacts [hs, hs.request fun ht => ht.ownPauseRamped]) ht
  | pauseQuick =>
    simp only [Machine.exec, execPauseQuick] at ht
    exact run (by split; exacts [hs.request fun ht => ht.ownPauseQuick, hs]) ht
  | lockSettings => exact h.runRequest (fun hs => hs.keep rfl) ht
  | restart | queryStation | queryLayer | queryPlacement | queryStack | querySurface | queryLane | queryShelf
  | queryGantry | queryGripper | queryType | queryArticle | queryHandling => exact h.runRequest (fun hs => hs) ht
  | setCell => exact h.runRequest (fun hs => hs.ownSetCell) ht
  | setStation => exact h.runRequest (fun hs => hs.ownSetStation) ht
  | setProfile => exact h.runRequest (fun hs => hs.ownSetProfile) ht
  | setHandling => exact h.runRequest (fun hs => hs.ownSetHandling) ht
  | setGripper => exact h.runRequest (fun hs => hs.ownSetGripper) ht
  | defineType => exact h.runRequest (fun hs => hs.ownDefineType) ht
  | defineArticle => exact h.runRequest (fun hs => hs.ownDefineArticle) ht
  | dropArticle => exact h.runRequest (fun hs => hs.ownDropArticle) ht
  | loadLayer => exact h.runRequest (fun hs => hs.ownLoadLayer) ht
  | closePlan => exact h.runRequest (fun hs => hs.ownClosePlan) ht
  | abandonPlan => exact h.runRequest (fun hs => hs.ownAbandonPlan) ht
  | setDeparture => exact h.runRequest (fun hs => hs.ownSetDeparture) ht
  | setSheets => exact h.runRequest (fun hs => hs.ownSetSheets) ht
  | home => exact h.runRequest (fun hs => hs.ownHome) ht
  | start => exact h.runRequest (fun hs => hs.ownStart) ht
  | stop => exact h.runRequest (fun hs => hs.ownStop) ht
  | resume => exact h.runRequest (fun hs => hs.ownResume) ht
  | recover => exact h.runRequest (fun hs => hs.ownRecover) ht
  | gripperReset => exact h.runRequest (fun hs => hs.ownGripperReset) ht
  | clearSlot => exact h.runRequest (fun hs => hs.ownClearSlot) ht
  | stationHold => exact h.runRequest (fun hs => hs.ownStationHold) ht
  | stationResume => exact h.runRequest (fun hs => hs.ownStationResume) ht
  | purgeLane => exact h.runRequest (fun hs => hs.ownPurgeLane) ht
  | arrival => exact run (f := fun s => s.scanAll _ _) hs.scanAll ht
  | scannerGapTimeout | scannerStopBitError =>
    exact run (f := fun s => (s.scanAll _ _).scanDrop _) hs.scanAll.scanDrop ht
  | waitExpiry => exact run (f := fun s => s.waitExpires _) (hs.keep (State.waitExpires_ground ..)) ht
  | walkEnd => exact run (f := fun s => s.walkEnds _) hs.walkEnds ht
  | moveEnd => exact run (f := fun s => s.moveEnds _) hs.moveEnds ht
  | homeSwitchNotFound =>
    simp only [Machine.exec, execHomeSwitchNotFound] at ht
    exact run (by split; exacts [hs.keep (State.homingFault_ground ..), hs]) ht
  | vacuumReading => exact run (f := fun s => s.reading _ _) hs.reading ht
  | gripTimerExpiry => exact run hs.gripTimerEnds ht
  | releaseTimerExpiry => exact run hs.releaseTimerEnds ht
  | pullInExpiry => exact run (f := fun s => s.pullInEnds _) (hs.keep (State.pullInEnds_ground ..)) ht
  | decayExpiry => exact run (hs.keep (State.decays_ground ..)) ht
  | departureTick => exact run (f := fun s => s.departureTick _) (hs.keep (State.departureTick_ground ..)) ht
  | duePassed =>
    simp only [Machine.exec, execDuePassed] at ht
    exact run (by split; exacts [hs.keep (State.departurePassed_ground ..), hs]) ht
  | casePresentOn | casePresentOff | accumulationEmpty | slotPresence | spillTableCleared | homeSwitch | endLimit | door
  | curtainBreak | curtainRestore | palletPresent | warningField | faultInput =>
    rw [exec_sensor rfl] at ht
    exact run hs.filtered ht

end commands

end State.Changes

/-- Every step is a chain of the changes of the ground. -/
theorem step_changes {s t : State} (ht : step s = .next t) : s.Changes t := by
  unfold step at ht
  split at ht
  next =>
    unfold State.idle at ht
    split at ht
    · exact .run ((State.Changes.refl.keep (State.fresh_ground s)).inputStood) ht
    · cases ht
      exact State.Changes.refl.keep (State.tick_ground s)
  next c rest _ => exact State.Changes.exec (s := { s with pending := rest }) (s₀ := s) (State.Changes.refl.keep (t := s) rfl) ht

end Sys2Proof.Machine
end

section
/-! SUPPORT. Changes of a plan that make no placement BOUND or PLACED, and the operations on a station that make only such changes: the
sweeps, the examination of the layers, and a placement handed back. -/

namespace Sys2Proof.Machine

/-! ### Placements and plans -/

/-- A placement record after a change of its verdict, or of its state where that was PENDING or BOUND and did not become PLACED or
BOUND. -/
def Placement.Eased (x y : Placement) : Prop :=
  y = { x with state := y.state, verdict := y.verdict }
    ∧ (y.state = x.state ∨ x.live = true ∧ (y.state = .pending ∨ y.state = .void))

theorem Placement.Eased.refl (x : Placement) : x.Eased x := ⟨rfl, .inl rfl⟩

theorem Placement.Eased.trans {x y z : Placement} (h : x.Eased y) (k : y.Eased z) : x.Eased z := by
  obtain ⟨hf, hs⟩ := h
  obtain ⟨kf, ks⟩ := k
  refine ⟨by rw [kf, hf], ?_⟩
  simp only [Placement.live_iff] at *
  rcases hs with hs | ⟨hl, hs⟩
  · rcases ks with ks | ⟨kl, ks⟩
    · exact .inl (ks.trans hs)
    · exact .inr ⟨hs ▸ kl, ks⟩
  · rcases ks with ks | ⟨-, ks⟩
    · exact .inr ⟨hl, ks ▸ hs⟩
    · exact .inr ⟨hl, ks⟩

section

variable {x y : Placement} (h : x.Eased y)
include h

theorem Placement.Eased.id_eq : y.id = x.id := by rw [h.1]
theorem Placement.Eased.cells : y.cx = x.cx ∧ y.cy = x.cy := by rw [h.1]; exact ⟨rfl, rfl⟩
theorem Placement.Eased.load (d : Directory) : d.placementLoad y = d.placementLoad x := by rw [h.1]; rfl

theorem Placement.Eased.bound (hb : y.state = .bound) : x.state = .bound := by
  rcases h.2 with hs | ⟨-, hs | hs⟩
  · exact hs ▸ hb
  · rw [hb] at hs; cases hs
  · rw [hb] at hs; cases hs

theorem Placement.Eased.live (hl : y.live = true) : x.live = true := by
  rcases h.2 with hs | ⟨hx, -⟩
  · rwa [Placement.live, hs] at hl
  · exact hx

theorem Placement.Eased.placed_iff : y.state = .placed ↔ x.state = .placed := by
  rcases h.2 with hs | ⟨hl, hs⟩
  · rw [hs]
  · rcases hs with hs | hs <;> rcases (Placement.live_iff _).mp hl with hx | hx <;> simp [hs, hx]

end

/-- A plan after such changes of its placements, and after layers have been taken away. -/
def Plan.Eased (p q : Plan) : Prop :=
  (q.placements.map Placement.id).Sublist (p.placements.map Placement.id)
    ∧ ∀ y ∈ q.placements, ∃ x ∈ p.placements, x.Eased y

/-- The BOUND placements of a plan stay, but for their verdicts. -/
def Plan.Holds (p q : Plan) : Prop :=
  ∀ x ∈ p.placements, x.state = .bound → ∃ y ∈ q.placements, y = { x with verdict := y.verdict }

/-- A change of a plan that eases it and keeps what is BOUND. -/
def Plan.Calm (p q : Plan) : Prop := p.Eased q ∧ p.Holds q

theorem Plan.Eased.refl (p : Plan) : p.Eased p := ⟨List.Sublist.refl _, fun y hy => ⟨y, hy, .refl y⟩⟩

theorem Plan.Eased.trans {p q r : Plan} (h : p.Eased q) (k : q.Eased r) : p.Eased r := by
  refine ⟨k.1.trans h.1, fun z hz => ?_⟩
  obtain ⟨y, hy, hyz⟩ := k.2 z hz
  obtain ⟨x, hx, hxy⟩ := h.2 y hy
  exact ⟨x, hx, hxy.trans hyz⟩

theorem Plan.Calm.refl (p : Plan) : p.Calm p := ⟨.refl p, fun x hx _ => ⟨x, hx, rfl⟩⟩

theorem Plan.Calm.trans {p q r : Plan} (h : p.Calm q) (k : q.Calm r) : p.Calm r := by
  refine ⟨h.1.trans k.1, fun x hx hb => ?_⟩
  obtain ⟨y, hy, hxy⟩ := h.2 x hx hb
  obtain ⟨z, hz, hyz⟩ := k.2 y hy (by rw [hxy]; exact hb)
  exact ⟨z, hz, by rw [hyz, hxy]⟩

/-- A plan with the same placements in its layers. -/
theorem Plan.Calm.of_placements {p q : Plan} (h : q.placements = p.placements) : p.Calm q := by
  refine ⟨⟨by rw [h], fun y hy => ⟨y, h ▸ hy, .refl y⟩⟩, fun x hx _ => ⟨x, h ▸ hx, rfl⟩⟩

theorem Plan.placements_mapPlacements (p : Plan) (f : Placement → Placement) :
    (p.mapPlacements f).placements = p.placements.map f := by
  simp [Plan.placements, Plan.mapPlacements, List.map_flatten, Function.comp_def]

/-- A change made to every placement. -/
theorem Plan.Eased.of_map {p q : Plan} {f : Placement → Placement} (hq : q.placements = p.placements.map f)
    (h : ∀ x ∈ p.placements, x.Eased (f x)) : p.Eased q := by
  refine ⟨?_, fun y hy => ?_⟩
  · have hid : (p.placements.map f).map Placement.id = p.placements.map Placement.id := by
      simpa using fun x hx => (h x hx).id_eq
    rw [hq, hid]
  · obtain ⟨x, hx, rfl⟩ := List.mem_map.mp (hq ▸ hy)
    exact ⟨x, hx, h x hx⟩

theorem Plan.Calm.of_map {p q : Plan} {f : Placement → Placement} (hq : q.placements = p.placements.map f)
    (h : ∀ x ∈ p.placements, x.Eased (f x)) (hb : ∀ x ∈ p.placements, x.state = .bound → f x = { x with verdict := (f x).verdict }) :
    p.Calm q :=
  ⟨.of_map hq h, fun x hx hs => ⟨f x, hq ▸ List.mem_map_of_mem hx, hb x hx hs⟩⟩

theorem Placement.Eased.verdict (x : Placement) (v : Verdict) : x.Eased { x with verdict := v } := ⟨rfl, .inl rfl⟩

/-- A cached verdict is written. -/
theorem Plan.Calm.verdicts {p q : Plan} {c : Placement → Bool} {v : Verdict}
    (hq : q.placements = p.placements.map (fun x => if c x then { x with verdict := v } else x)) : p.Calm q := by
  refine .of_map hq (fun x _ => ?_) fun x _ _ => ?_
  · split
    exacts [.verdict x v, .refl x]
  · split <;> rfl

/-! ### The examination of the layers (R27) -/

/-- Only a layer that is complete with it loses its sheet-due state by settling (R27). -/
theorem Layer.settle_of_incomplete {l : Layer} (h : l.settle.complete = false) : l.settle = l := by
  by_contra hn
  unfold Layer.settle at h hn
  split at h
  next hc =>
    have hv : l.allVoid = true := by simp_all
    have ho : l.over = true := by
      simp only [Layer.allVoid, Layer.over, List.all_eq_true, beq_iff_eq] at hv ⊢
      exact fun x hx => by simp [Placement.live, hv x hx]
    simp [Layer.complete, Layer.over] at h ho
    obtain ⟨x, hx, hl⟩ := h
    simp [ho x hx] at hl
  next hc => exact hn (if_neg hc)

/-- The layers that stay are those that are not complete (R27). -/
theorem splitQueue_fst (q : List Layer) (pos : Nat) : (splitQueue pos q).1 = q.filter (fun l => !l.settle.complete) := by
  induction q generalizing pos with
  | nil => rfl
  | cons l rest ih =>
    unfold splitQueue
    split
    next h => simp [ih, h]
    next h =>
      rw [Bool.not_eq_true] at h
      have he := Layer.settle_of_incomplete h
      simp [ih, he ▸ h, he]

/-- Where no complete layer stands in the places before the second, the first two layers stay (R27). -/
theorem splitQueue_front (q : List Layer) (pos : Nat) (h : ∀ x ∈ (splitQueue pos q).2, 1 < x.1) :
    (splitQueue pos q).1.take (2 - pos) = q.take (2 - pos) ∧ ∀ l ∈ q.take (2 - pos), l.settle.complete = false := by
  induction q generalizing pos with
  | nil => simp [splitQueue]
  | cons l rest ih =>
    unfold splitQueue at h ⊢
    split at h
    next hc =>
      have hp : 2 - pos = 0 := by
        have := h (pos, l.settle) (by simp)
        simp only at this
        omega
      simp [hp]
    next hc =>
      rw [Bool.not_eq_true] at hc
      simp only [hc, Bool.false_eq_true, if_false]
      obtain ⟨hi, hn⟩ := ih (pos + 1) h
      rw [Layer.settle_of_incomplete hc]
      rcases Nat.lt_or_ge pos 2 with hp | hp
      · have he : 2 - pos = (2 - (pos + 1)) + 1 := by omega
        rw [he, List.take_succ_cons, List.take_succ_cons, hi]
        exact ⟨rfl, by simpa [hc] using hn⟩
      · simp [Nat.sub_eq_zero_of_le hp]

theorem Layer.not_live_of_complete {l : Layer} (h : l.settle.complete = true) {x : Placement} (hx : x ∈ l.placements) :
    x.live = false := by
  simp only [Layer.complete, Layer.over, Bool.and_eq_true, Layer.settle_placements, List.all_eq_true,
    Bool.not_eq_true'] at h
  exact h.1 x hx

theorem Plan.mem_placements {p : Plan} {x : Placement} : x ∈ p.placements ↔ ∃ l ∈ p.queue, x ∈ l.placements := by
  simp [Plan.placements]

/-- The queue once the complete layers are removed. -/
theorem Plan.Calm.examined (p : Plan) : p.Calm { p with queue := (splitQueue 0 p.queue).1 } := by
  have hsub : ((splitQueue 0 p.queue).1).Sublist p.queue := splitQueue_fst p.queue 0 ▸ List.filter_sublist
  refine ⟨⟨?_, fun y hy => ?_⟩, fun x hx hb => ?_⟩
  · exact ((hsub.map Layer.placements).flatten).map _
  · obtain ⟨l, hl, hyl⟩ := Plan.mem_placements.mp hy
    exact ⟨y, Plan.mem_placements.mpr ⟨l, hsub.subset hl, hyl⟩, .refl y⟩
  · obtain ⟨l, hl, hxl⟩ := Plan.mem_placements.mp hx
    refine ⟨x, Plan.mem_placements.mpr ⟨l, ?_, hxl⟩, rfl⟩
    simp only [splitQueue_fst, List.mem_filter, hl, true_and, Bool.not_eq_true']
    by_contra hc
    have := Layer.not_live_of_complete (by simpa using hc) hxl
    simp [Placement.live, hb] at this

/-! ### States -/

/-- What holds at a station with the value set, and at the other with its old one, holds at both. -/
theorem PerStation.forall_set {α : Type} {P : StationId → α → Prop} (p : PerStation α) (i : StationId) (v : α) (hi : P i v)
    (hn : ∀ j, j ≠ i → P j (p.get j)) (j : StationId) : P j ((p.set i v).get j) := by
  rcases eq_or_ne j i with rfl | h
  · simpa using hi
  · rw [PerStation.get_set_ne p v h]
    exact hn j h

/-- A stack without its sweep and its cached sheet verdict. -/
def Stack.body (k : Stack) : Stack := { k with sheetVerdict := .unswept, sweep := ⟨.idle, []⟩ }

/-- A change of a state that eases its plans and leaves types, job target and the bodies of the stacks. -/
structure State.Eases (s t : State) : Prop where
  types : t.dir.types = s.dir.types
  target : t.job.map Job.target = s.job.map Job.target
  body : ∀ st, (t.stack.get st).body = (s.stack.get st).body
  plan : ∀ st, (s.plan.get st).Eased (t.plan.get st)

/-- One that keeps what is BOUND as well. -/
structure State.Calms (s t : State) : Prop extends s.Eases t where
  holds : ∀ st, (s.plan.get st).Holds (t.plan.get st)

section

variable {s t u : State} {st : StationId} {p : Plan} {k : Stack}

theorem State.Eases.trans (h : s.Eases t) (k : t.Eases u) : s.Eases u :=
  ⟨k.types.trans h.types, k.target.trans h.target, fun st => (k.body st).trans (h.body st), fun st => (h.plan st).trans (k.plan st)⟩

theorem State.Calms.calm (h : s.Calms t) (st : StationId) : (s.plan.get st).Calm (t.plan.get st) := ⟨h.plan st, h.holds st⟩

theorem State.Calms.trans (h : s.Calms t) (k : t.Calms u) : s.Calms u :=
  ⟨h.toEases.trans k.toEases, fun st => ((h.calm st).trans (k.calm st)).2⟩

theorem State.Calms.of_ground (h : t.ground = s.ground) : s.Calms t := by
  simp only [State.ground, Ground.mk.injEq] at h
  obtain ⟨ht, hp, hk, hj⟩ := h
  exact ⟨⟨ht, hj, fun st => by rw [hk], fun st => by rw [hp]; exact .refl _⟩, fun st => by rw [hp]; exact (Plan.Calm.refl _).2⟩

theorem State.Calms.refl (s : State) : s.Calms s := .of_ground rfl

theorem State.Eases.setPlan (hp : (s.plan.get st).Eased p) : s.Eases (s.setPlan st p) :=
  ⟨rfl, rfl, fun _ => rfl, PerStation.forall_set s.plan st p hp fun _ _ => .refl _⟩

theorem State.Calms.setPlan (hp : (s.plan.get st).Calm p) : s.Calms (s.setPlan st p) :=
  ⟨.setPlan hp.1, PerStation.forall_set s.plan st p hp.2 fun _ _ => (Plan.Calm.refl _).2⟩

theorem State.Calms.setStack (hk : k.body = (s.stack.get st).body) : s.Calms (s.setStack st k) :=
  ⟨⟨rfl, rfl, PerStation.forall_set (P := fun st k => k.body = (s.stack.get st).body) s.stack st k hk fun _ _ => rfl,
    fun _ => .refl _⟩, fun _ => (Plan.Calm.refl _).2⟩

theorem State.Calms.foldl {α : Type} {f : State → α → State} (hf : ∀ (t : State) a, t.Calms (f t a)) (l : List α) (s : State) :
    s.Calms (l.foldl f s) := by
  induction l generalizing s with
  | nil => exact .refl s
  | cons a l ih => exact (hf s a).trans (ih _)

end

/-! ### Operations -/

section

variable (s : State) (st : StationId)

theorem State.setSweep_calms (w : Sweep) : s.Calms (s.setSweep st w) := .setStack rfl

theorem State.setVerdict_calms (c : Cand) (v : Verdict) : s.Calms (s.setVerdict st c v) := by
  cases c with
  | sheet => exact .setStack rfl
  | placement id =>
    exact .setPlan (.verdicts (c := fun q => q.id = id) (v := v) (by simp [Plan.placements_modify]))

theorem State.sweepEnd_calms : s.Calms (s.sweepEnd st) :=
  (s.setSweep_calms st ⟨.idle, []⟩).trans (.of_ground (by simp [State.sweepEnd]))

theorem State.startSweep_calms : s.Calms (s.startSweep st) := by
  have hv := State.Calms.foldl (f := fun s c => s.setVerdict st c .unswept) (fun t c => t.setVerdict_calms st c .unswept)
    (s.plan.get st).candidates s
  have hs := hv.trans (State.setSweep_calms _ st ⟨.running, (s.plan.get st).candidates⟩)
  unfold State.startSweep
  dsimp only
  split
  exacts [hs.trans (State.sweepEnd_calms _ st), hs]

theorem State.sweepTrigger_calms : s.Calms (s.sweepTrigger st) := by
  unfold State.sweepTrigger
  split
  exacts [s.setSweep_calms st _, s.startSweep_calms st]

theorem State.sweepResume_calms : s.Calms (s.sweepResume st) := by
  unfold State.sweepResume
  split
  exacts [s.startSweep_calms st, .refl s]

theorem State.noteVoid_calms (id : Nat) : s.Calms (s.noteVoid st id) := by
  unfold State.noteVoid
  split
  exacts [s.setSweep_calms st _, .refl s]

theorem State.walkEnds_calms : s.Calms (s.walkEnds st) := by
  unfold State.walkEnds
  split
  next c rest _ =>
    have hv : s.Calms (match s.walkOf st c with
      | some v => s.setVerdict st c v
      | none => s) := by
      split
      exacts [s.setVerdict_calms st c _, .refl s]
    dsimp only
    split
    exacts [hv.trans (State.sweepEnd_calms _ st), hv.trans (State.setSweep_calms _ st _)]
  next => exact .refl s

/-- The queue without its complete layers, the sheet verdict reset where the working layer changes (R27, R56). -/
def State.layersCut : State :=
  let t := s.setPlan st { s.plan.get st with queue := (splitQueue 0 (s.plan.get st).queue).1 }
  if (splitQueue 0 (s.plan.get st).queue).2.any (fun q => q.1 == 0) then
    t.setStack st ((t.stack.get st).setSheetVerdict .unswept)
  else t

/-- The examination of the layers, as far as the ground goes: nothing, or the queue is cut, and then a sweep is triggered where
one of the first two layers was removed (R26, R27). -/
theorem State.examineLayers_cases :
    ((splitQueue 0 (s.plan.get st).queue).2 = [] ∧ s.examineLayers st = s)
    ∨ ((∃ x ∈ (splitQueue 0 (s.plan.get st).queue).2, x.1 ≤ 1)
        ∧ ∃ u : State, u.ground = (s.layersCut st).ground ∧ (s.examineLayers st).ground = (u.sweepTrigger st).ground)
    ∨ ((∀ x ∈ (splitQueue 0 (s.plan.get st).queue).2, 1 < x.1) ∧ (s.examineLayers st).ground = (s.layersCut st).ground) := by
  have hr : (((((splitQueue 0 (s.plan.get st).queue).2.foldl (fun s q => s.layerDone st q.2) (s.layersCut st)).reschedule
      st).staleScan)).ground = (s.layersCut st).ground := by
    rw [State.staleScan_ground, State.reschedule_ground]
    exact State.foldl_ground _ (fun t _ => t.layerDone_ground st _) _
  unfold State.examineLayers
  dsimp only
  split
  next he => exact .inl ⟨by simpa using he, rfl⟩
  next =>
    refine .inr ?_
    split
    next hx =>
      refine .inl ⟨by simpa using hx, _, hr, ?_⟩
      rw [State.endOfQueue_ground]
      rfl
    next hx =>
      refine .inr ⟨by simpa using hx, ?_⟩
      rw [State.endOfQueue_ground]
      exact hr

theorem State.layersCut_calms : s.Calms (s.layersCut st) := by
  have hq := State.Calms.setPlan (s := s) (Plan.Calm.examined (s.plan.get st))
  unfold State.layersCut
  dsimp only
  split
  exacts [hq.trans (.setStack rfl), hq]

theorem State.examineLayers_calms : s.Calms (s.examineLayers st) := by
  rcases s.examineLayers_cases st with ⟨-, h⟩ | ⟨-, u, hu, h⟩ | ⟨-, h⟩
  · rw [h]
    exact .refl s
  · exact (((s.layersCut_calms st).trans (.of_ground hu)).trans (u.sweepTrigger_calms st)).trans (.of_ground h)
  · exact (s.layersCut_calms st).trans (.of_ground h)

theorem State.sheetJobOver_calms : s.Calms (s.sheetJobOver st) :=
  (State.Calms.setPlan (.of_placements (by simp [Plan.placements, Function.comp_def]))).trans (State.examineLayers_calms _ st)

/-- A placement in flight becomes PENDING or VOID (R24). -/
theorem State.setPState_eases {id : Nat} {x : PState} (hl : ∀ q ∈ (s.plan.get st).placements, q.id = id → q.live = true)
    (hx : x = .pending ∨ x = .void) : s.Eases (s.setPState st id x) := by
  have hp : (s.plan.get st).Eased ((s.plan.get st).modify id fun q => { q with state := x }) := by
    refine .of_map (Plan.placements_modify ..) fun q hq => ?_
    split
    next he => exact ⟨rfl, .inr ⟨hl q hq he, hx⟩⟩
    next => exact .refl q
  exact (State.Eases.setPlan hp).trans (State.Calms.of_ground (by simp [State.setPState])).toEases

end

end Sys2Proof.Machine
end

section
/-! THEOREM. The law of bindings is kept by every change of the ground, and so by every step. -/

namespace Sys2Proof.Machine

/-- No placement of either station is BOUND. -/
def State.Unbound (s : State) : Prop := ∀ st, ∀ p ∈ (s.plan.get st).placements, p.state ≠ .bound

theorem State.job_of_floor {s t : State} (h : t.floor = s.floor) : t.job = s.job := congrArg Floor.job h

/-- No id stands twice in the pool of a station. -/
def State.DistinctIds (s : State) : Prop := ∀ st, ((s.plan.get st).placements.map Placement.id).Nodup

section

variable {s t : State} {st : StationId}

theorem State.BindingLaw.distinct (h : s.BindingLaw) : s.DistinctIds := fun st => (h st).1

theorem State.Unbound.bindingLaw (hd : s.DistinctIds) (hu : s.Unbound) : s.BindingLaw :=
  fun st => ⟨hd st, fun p hp hb => absurd hb (hu st p hp)⟩

/-- A job that is the target of no placement leaves none BOUND. -/
theorem State.BindingLaw.unbound (h : s.BindingLaw) (hj : ∀ j, s.job = some j → j.kind = .place → j.station = none) :
    s.Unbound := by
  intro st p hp hb
  obtain ⟨j, hs, hk, hd, -⟩ := (h st).2 p hp hb
  have := hj j hs hk
  simp [Job.station, hk, hd] at this

/-- The law speaks of the plans and of the job's target alone. -/
theorem State.BindingLaw.of_plans (h : s.BindingLaw) (ht : t.job.map Job.target = s.job.map Job.target)
    (hp : ∀ st, (s.plan.get st).Eased (t.plan.get st)) : t.BindingLaw := by
  intro st
  refine ⟨(h st).1.sublist (hp st).1, fun y hy hb => ?_⟩
  obtain ⟨x, hx, hxy⟩ := (hp st).2 y hy
  obtain ⟨j, hj, hk, hd, hr⟩ := (h st).2 x hx (hxy.bound hb)
  rw [hj, Option.map_some, Option.map_eq_some_iff] at ht
  obtain ⟨i, hi, hij⟩ := ht
  simp only [Job.target, Prod.mk.injEq] at hij
  exact ⟨i, hi, hij.1.trans hk, by rw [hij.2.1, hd, hxy.id_eq], by rw [hij.2.2]; exact hr⟩

theorem State.BindingLaw.eases (h : s.BindingLaw) (he : s.Eases t) : t.BindingLaw := h.of_plans he.target he.plan

theorem State.BindingLaw.calms (h : s.BindingLaw) (hc : s.Calms t) : t.BindingLaw := h.eases hc.toEases

theorem State.DistinctIds.eases (h : s.DistinctIds) (he : s.Eases t) : t.DistinctIds :=
  fun st => (h st).sublist (he.plan st).1

theorem State.Unbound.eases (h : s.Unbound) (he : s.Eases t) : t.Unbound := by
  intro st y hy hb
  obtain ⟨x, hx, hxy⟩ := (he.plan st).2 y hy
  exact h st x hx (hxy.bound hb)

/-- Of two placements of a pool with one id there is only one. -/
theorem State.DistinctIds.eq_of_id (h : s.DistinctIds) {p q : Placement} (hp : p ∈ (s.plan.get st).placements)
    (hq : q ∈ (s.plan.get st).placements) (he : p.id = q.id) : p = q :=
  List.inj_on_of_nodup_map (h st) hp hq he

theorem State.DistinctIds.find? (h : s.DistinctIds) {p : Placement} (hp : p ∈ (s.plan.get st).placements) :
    (s.plan.get st).find? p.id = some p :=
  Plan.find?_of_mem hp (List.pairwise_map.mp (h st))

theorem Plan.find?_eq_some {p : Plan} {id : Nat} {q : Placement} (h : p.find? id = some q) :
    q ∈ p.placements ∧ q.id = id :=
  ⟨List.mem_of_find?_eq_some h, by simpa using List.find?_some h⟩

/-! ### The placement handed back (R24) -/

theorem State.setPState_plan (id : Nat) (x : PState) :
    (s.setPState st id x).plan = s.plan.set st ((s.plan.get st).modify id fun q => { q with state := x }) :=
  (s.setPState_keeps (st := st) id x).1

theorem State.setPState_state {id : Nat} {x : PState} {p : Placement} (hp : p ∈ ((s.setPState st id x).plan.get st).placements) :
    (p.state = x ∧ p.id = id) ∨ p ∈ (s.plan.get st).placements ∧ p.id ≠ id := by
  rw [State.setPState_plan, PerStation.get_set_same, Plan.placements_modify] at hp
  obtain ⟨y, hy, rfl⟩ := List.mem_map.mp hp
  split
  next he => exact .inl ⟨rfl, he⟩
  next he => exact .inr ⟨hy, he⟩

/-- A placement that is PENDING again becomes VOID, and its layer is examined. -/
theorem State.voided_eases {id : Nat} :
    (s.setPState st id .pending).Eases
      ((((s.setPState st id .pending).setPState st id .void).noteVoid st id).examineLayers st) := by
  have hv : ∀ x ∈ ((s.setPState st id .pending).plan.get st).placements, x.id = id → x.live = true := by
    intro x hx he
    rcases State.setPState_state hx with ⟨hs, -⟩ | ⟨-, hn⟩
    · simp [Placement.live, hs]
    · exact absurd he hn
  exact (State.setPState_eases _ st hv (.inr rfl)).trans
    ((State.noteVoid_calms _ st _).trans (State.examineLayers_calms _ st)).toEases

theorem State.returnPlacement_eases (hd : s.DistinctIds) (id : Nat) (b : Bool) : s.Eases (s.returnPlacement st id b) := by
  unfold State.returnPlacement
  split
  next q hq =>
    obtain ⟨hm, rfl⟩ := Plan.find?_eq_some hq
    split
    next hb =>
      have hl : ∀ x ∈ (s.plan.get st).placements, x.id = q.id → x.live = true := by
        intro x hx he
        rw [hd.eq_of_id hx hm he]
        simp [Placement.live, hb]
      have hp := s.setPState_eases st hl (.inl rfl)
      split
      exacts [hp.trans State.voided_eases, hp]
    next => exact (State.Calms.refl s).toEases
  next => exact (State.Calms.refl s).toEases

theorem State.handBack_eases (hd : s.DistinctIds) : s.Eases s.handBack := by
  unfold State.handBack
  split
  · exact (State.Calms.refl s).toEases
  · split
    exacts [State.returnPlacement_eases hd _ _, (State.Calms.refl s).toEases]

/-- A placement can be the only one that is BOUND. -/
def State.BoundOnly (s : State) (st : StationId) (id : Nat) : Prop :=
  ∀ st', ∀ p ∈ (s.plan.get st').placements, p.state = .bound → st' = st ∧ p.id = id

theorem State.setPState_unbound {id : Nat} {x : PState} (h : s.BoundOnly st id) (hx : x ≠ .bound) :
    (s.setPState st id x).Unbound := by
  intro st' p hp hb
  rcases eq_or_ne st' st with rfl | hn
  · rcases State.setPState_state hp with ⟨hs, -⟩ | ⟨hm, hi⟩
    · exact hx (hs.symm.trans hb)
    · exact hi (h _ p hm hb).2
  · rw [State.setPState_plan, PerStation.get_set_ne _ _ hn] at hp
    exact hn (h _ p hp hb).1

theorem State.returnPlacement_unbound {id : Nat} (hd : s.DistinctIds) (h : s.BoundOnly st id) (b : Bool) :
    (s.returnPlacement st id b).Unbound := by
  have hf : ∀ st' p, p ∈ (s.plan.get st').placements → p.state = .bound → (s.plan.get st).find? id = some p := by
    intro st' p hp hb
    obtain ⟨rfl, rfl⟩ := h st' p hp hb
    exact hd.find? hp
  unfold State.returnPlacement
  split
  next q hq =>
    split
    next =>
      have hu := State.setPState_unbound (x := .pending) h (by decide)
      split
      exacts [hu.eases State.voided_eases, hu]
    next hb =>
      intro st' p hp hs
      cases hq.symm.trans (hf st' p hp hs)
      exact hb hs
  next hq =>
    intro st' p hp hs
    cases hq.symm.trans (hf st' p hp hs)

/-- The placement of a job is the only one that can be BOUND. -/
theorem State.BindingLaw.boundOnly {j : Job} {id : Nat} (h : s.BindingLaw) (hj : s.job = some j)
    (hd : j.dest = some (.placement st id)) : s.BoundOnly st id := by
  intro st' p hp hb
  obtain ⟨i, hi, -, hdi, -⟩ := (h st').2 p hp hb
  obtain rfl : j = i := by simpa [hj] using hi
  simpa using hdi.symm.trans hd

/-- Once the job's placement is handed back, no placement is BOUND. -/
theorem State.BindingLaw.handBack_unbound (h : s.BindingLaw) : s.handBack.Unbound := by
  unfold State.handBack
  split
  next hj => exact h.unbound (by simp [hj])
  next j hj =>
    split
    next st id hk hd => exact State.returnPlacement_unbound h.distinct (h.boundOnly hj hd) _
    next hn =>
      refine h.unbound fun i hi hk => ?_
      obtain rfl : j = i := by simpa [hj] using hi
      unfold Job.station
      split
      next hd => exact absurd hd (hn _ _ hk)
      next hs _ => rw [hk] at hs; cases hs
      next => rfl

/-- No placement is BOUND and no id stands twice: the law of bindings holds whatever the job. -/
structure State.Free (s : State) : Prop where
  distinct : s.DistinctIds
  unbound : s.Unbound

theorem State.Free.bindingLaw (h : s.Free) : s.BindingLaw := h.unbound.bindingLaw h.distinct

theorem State.Free.setJob (h : s.Free) (o : Option Job) : (s.setJob o).Free := ⟨h.1, h.2⟩

theorem State.Free.modifyJob (h : s.Free) (f : Job → Job) : (s.modifyJob f).Free := ⟨h.1, h.2⟩

theorem State.Free.setStack (h : s.Free) (st : StationId) (k : Stack) : (s.setStack st k).Free := ⟨h.1, h.2⟩

theorem State.Free.eases (h : s.Free) (he : s.Eases t) : t.Free := ⟨h.1.eases he, h.2.eases he⟩

theorem State.Free.calms (h : s.Free) (hc : s.Calms t) : t.Free := h.eases hc.toEases

theorem State.BindingLaw.handBack_free (h : s.BindingLaw) : s.handBack.Free :=
  ⟨h.distinct.eases (State.handBack_eases h.distinct), h.handBack_unbound⟩

theorem State.BindingLaw.free (h : s.BindingLaw) (hj : ∀ j, s.job = some j → j.kind = .place → j.station = none) : s.Free :=
  ⟨h.distinct, h.unbound hj⟩

theorem State.Free.dropReservation (h : s.Free) : s.dropReservation.Free := by
  unfold State.dropReservation
  split
  · exact h
  · dsimp only
    split
    exacts [h.setJob _, (h.setJob _).calms (State.sweepResume_calms _ _)]

/-! ### Layers that change and keep their placements -/

theorem Plan.sheetJobMade_placements (p : Plan) : p.sheetJobMade.placements = p.placements := by
  unfold Plan.sheetJobMade
  split
  · rfl
  next hq => simp [Plan.placements, hq]

theorem Plan.sheetCommitted_placements (p : Plan) : p.sheetCommitted.placements = p.placements := by
  unfold Plan.sheetCommitted
  split
  · rfl
  next hq => simp [Plan.placements, hq]

theorem Placement.voided_eased (x : Placement) : x.Eased x.voided := by
  unfold Placement.voided
  split
  next hp => exact ⟨rfl, .inr ⟨by simp [Placement.live, hp], .inr rfl⟩⟩
  next => exact .refl x

theorem Placement.voided_of_bound {x : Placement} (h : x.state = .bound) : x.voided = x := by simp [Placement.voided, h]

theorem Placement.voided_id (x : Placement) : x.voided.id = x.id := (Placement.voided_eased x).id_eq

/-- A change of each placement by itself. -/
theorem Plan.Calm.of_forall₂ {p q : Plan} (h : List.Forall₂ (fun x y : Placement =>
    x.Eased y ∧ (x.state = .bound → y = { x with verdict := y.verdict })) p.placements q.placements) : p.Calm q := by
  unfold Plan.Calm Plan.Eased Plan.Holds
  generalize p.placements = xs at h
  generalize q.placements = ys at h
  induction h with
  | nil => simp
  | @cons x y xs ys hxy _ ih =>
    obtain ⟨⟨hid, hy⟩, hx⟩ := ih
    refine ⟨⟨?_, ?_⟩, ?_⟩
    · rw [List.map_cons, List.map_cons, hxy.1.id_eq]
      exact hid.cons_cons _
    · rintro z (_ | ⟨_, hz⟩)
      · exact ⟨x, List.mem_cons_self, hxy.1⟩
      · obtain ⟨w, hw, he⟩ := hy z hz
        exact ⟨w, List.mem_cons_of_mem _ hw, he⟩
    · rintro z (_ | ⟨_, hz⟩) hb
      · exact ⟨y, List.mem_cons_self, hxy.2 hb⟩
      · obtain ⟨w, hw, he⟩ := hx z hz hb
        exact ⟨w, List.mem_cons_of_mem _ hw, he⟩

/-- A layer whose PENDING placements may have been voided. -/
def Layer.MayVoid (l m : Layer) : Prop := m.placements = l.placements ∨ m.placements = l.placements.map Placement.voided

theorem Plan.Calm.voided {p q : Plan} (h : List.Forall₂ Layer.MayVoid p.queue q.queue) : p.Calm q := by
  refine .of_forall₂ (List.rel_flatten ?_)
  rw [List.forall₂_map_left_iff, List.forall₂_map_right_iff]
  refine h.imp fun l m hlm => ?_
  rcases hlm with he | he
  · rw [he]
    exact List.forall₂_same.mpr fun x _ => ⟨.refl x, fun _ => rfl⟩
  · rw [he, List.forall₂_map_right_iff]
    exact List.forall₂_same.mpr fun x _ => ⟨x.voided_eased, fun hb => by rw [Placement.voided_of_bound hb]⟩

theorem Layer.MayVoid.refl (l : Layer) : l.MayVoid l := .inl rfl

theorem changeTag_mayVoid (tag : Nat) (q : List Layer) : List.Forall₂ Layer.MayVoid q (changeTag tag Layer.withdrawn q) := by
  induction q with
  | nil => exact .nil
  | cons l rest ih =>
    unfold changeTag
    split
    · exact .cons (.inr rfl) (List.forall₂_same.mpr fun m _ => .refl m)
    · exact .cons (.refl l) ih

theorem abandoned_mayVoid (q : List Layer) : List.Forall₂ Layer.MayVoid q (q.map Layer.abandoned) := by
  rw [List.forall₂_map_right_iff]
  exact List.forall₂_same.mpr fun l _ => .inr rfl

/-! ### What is chosen (R92 to R95) -/

theorem Plan.mem_eligiblePending {p : Plan} {q : Placement} (h : q ∈ p.eligiblePending) :
    (∃ l ∈ p.eligible, q ∈ l.placements) ∧ q.state = .pending := by
  simp only [Plan.eligiblePending, List.mem_filter, List.mem_flatten, List.mem_map, beq_iff_eq] at h
  obtain ⟨⟨_, ⟨l, hl, rfl⟩, hq⟩, hs⟩ := h
  exact ⟨⟨l, hl, hq⟩, hs⟩

theorem Plan.eligible_subset (p : Plan) : p.eligible ⊆ p.queue := by
  unfold Plan.eligible
  (repeat' split) <;> simp_all

/-- A placement is chosen of a station that allows a dispatch, among its eligible PENDING ones with the verdict ADMIT (R93). -/
theorem State.choice_place {p : Placement} {x : Source} (h : s.choice = some (.place st p x)) :
    s.admits st = true ∧ p ∈ (s.plan.get st).eligiblePending ∧ ∃ r, p.verdict = .admitted r := by
  rcases Option.or_eq_some_iff.mp h with hs | ⟨-, h⟩
  · obtain ⟨_, he, -⟩ := State.chooseSheet_eq_some hs
    cases he
  rcases Option.or_eq_some_iff.mp h with hp | ⟨-, h⟩
  · obtain ⟨st', -, hp⟩ := pick_eq_some hp
    unfold State.pairOf at hp
    split at hp
    next ha =>
      obtain ⟨q, hq, hv⟩ := pick_eq_some hp
      split at hv
      next hadm =>
        obtain ⟨_, -, he⟩ := Option.map_eq_some_iff.mp hv
        cases he
        exact ⟨ha, hq, Verdict.admits_iff.mp hadm⟩
      next => cases hv
    next => cases hp
  rcases Option.or_eq_some_iff.mp h with hp | ⟨-, hp⟩
  · unfold State.choosePut at hp
    split at hp
    · cases hp
    · obtain ⟨_, -, hl⟩ := pick_eq_some hp
      obtain ⟨_, -, he⟩ := Option.bind_eq_some_iff.mp hl
      split at he <;> cases he
  · unfold State.choosePutaway at hp
    split at hp
    · obtain ⟨_, -, he⟩ := Option.map_eq_some_iff.mp hp
      cases he
    · cases hp

theorem State.setPState_ids (id : Nat) (x : PState) (st' : StationId) :
    ((s.setPState st id x).plan.get st').placements.map Placement.id = (s.plan.get st').placements.map Placement.id := by
  rw [State.setPState_plan]
  refine PerStation.forall_set (P := fun st' (p : Plan) => p.placements.map Placement.id = _) s.plan st _ ?_ (fun _ _ => rfl) st'
  rw [Plan.placements_modify, List.map_map]
  refine List.map_congr_left fun q _ => ?_
  simp only [Function.comp_apply]
  split <;> rfl

/-- A placement that becomes BOUND for the PLACE job that targets it. -/
theorem State.Free.bind {id : Nat} {j : Job} (h : s.Free) (hj : s.job = some j) (hk : j.kind = .place)
    (hd : j.dest = some (.placement st id)) (hr : j.reservation.isSome = true) : (s.setPState st id .bound).BindingLaw := by
  have hjob : (s.setPState st id .bound).job = some j := (State.job_of_floor (s.setPState_floor st id .bound)).trans hj
  refine fun st' => ⟨?_, fun q hq hb => ?_⟩
  · rw [State.setPState_ids]
    exact h.distinct st'
  rcases eq_or_ne st' st with rfl | hn
  · rcases State.setPState_state hq with ⟨-, rfl⟩ | ⟨hm, -⟩
    · exact ⟨j, hjob, hk, hd, hr⟩
    · exact absurd hb (h.unbound _ q hm)
  · rw [State.setPState_plan, PerStation.get_set_ne _ _ hn] at hq
    exact absurd hb (h.unbound _ q hq)

/-- The placement a PLACE job claims is the one BOUND placement, and the job holds its verdict's walk (R97). -/
theorem State.claim_bindingLaw {c : Choice} (h : s.BindingLaw) (hj : s.job = none) (hc : s.choice = some c) :
    ((s.setJob (some (s.jobOf c))).claim c).BindingLaw := by
  have hf : (s.setJob (some (s.jobOf c))).Free := (h.free (by simp [hj])).setJob _
  cases c with
  | place st p src =>
    obtain ⟨-, hp, r, hv⟩ := State.choice_place hc
    exact hf.bind (State.setJob_job ..) rfl rfl (by simp [State.jobOf, State.jobTerms, hv])
  | sheet st =>
    refine (hf.calms (.setPlan (.of_placements ?_))).bindingLaw
    exact Plan.sheetJobMade_placements _
  | put | putaway => exact hf.bindingLaw

/-! ### Every change -/

theorem State.unclaim_free (h : s.BindingLaw) : s.handBack.dropReservation.Free := h.handBack_free.dropReservation

theorem State.setPlan_free {p : Plan} (h : s.Free) (hi : (p.placements.map Placement.id).Nodup)
    (hb : ∀ x ∈ p.placements, x.state ≠ .bound) : (s.setPlan st p).Free :=
  ⟨PerStation.forall_set (P := fun _ (p : Plan) => (p.placements.map Placement.id).Nodup) s.plan st p hi fun st' _ => h.1 st',
    PerStation.forall_set (P := fun _ (p : Plan) => ∀ x ∈ p.placements, x.state ≠ .bound) s.plan st p hb fun st' _ => h.2 st'⟩

/-- What the job keeps of its reservation at a commit (R52). -/
def Job.done (j : Job) : Job := { j with reservation := none, committed := true }

/-- The commit of a case, as far as the ground goes (R52). -/
theorem State.commitCase_eq (p : Placement) (y : CaseType) (r : WalkResult) (c : ArrivalRec) :
    ∃ u : State, u.ground = ((s.setStack st ((s.stack.get st).commit r (caseEntry p y r ((c.meas.map Measured.wei).getD 0)))).setPlan
        st ((s.plan.get st).modify p.id fun q => { q with state := .placed })).ground
      ∧ s.commitCase st p y r c = ((u.examineLayers st).modifyJob Job.done).startSweep st :=
  ⟨_, by rw [State.staleScan_ground, State.reschedule_ground, State.report_ground]; rfl, rfl⟩

/-- The commit of a sheet, as far as the ground goes (R53). -/
theorem State.commitSheet_eq (r : WalkResult) :
    ∃ u : State, u.ground = ((s.setStack st (((s.stack.get st).commit r (sheetEntry (s.stack.get st).limits.foot
        r)).setSheetVerdict .unswept)).setPlan st (s.plan.get st).sheetCommitted).ground
      ∧ s.commitSheet st r = ((u.examineLayers st).modifyJob Job.done).startSweep st :=
  ⟨_, by rw [State.reschedule_ground]; rfl, rfl⟩

theorem State.Free.committed {u : State} (h : u.Free) : (((u.examineLayers st).modifyJob Job.done).startSweep st).Free :=
  ((h.calms (u.examineLayers_calms st)).modifyJob _).calms (State.startSweep_calms _ st)

/-- The one placement that can be BOUND becomes PLACED. -/
theorem State.BoundOnly.place {id : Nat} (hd : s.DistinctIds) (h : s.BoundOnly st id) :
    (s.setPlan st ((s.plan.get st).modify id fun q => { q with state := .placed })).Free := by
  refine ⟨fun st' => ?_, fun st' => ?_⟩
  · refine PerStation.forall_set (P := fun _ (p : Plan) => (p.placements.map Placement.id).Nodup) s.plan st _ ?_
      (fun st' _ => hd st') st'
    have hi : ((s.plan.get st).placements.map fun q => if q.id = id then { q with state := .placed } else q).map Placement.id
        = (s.plan.get st).placements.map Placement.id := by
      rw [List.map_map]
      exact List.map_congr_left fun q _ => by simp only [Function.comp_apply]; split <;> rfl
    rw [Plan.placements_modify, hi]
    exact hd st
  · refine PerStation.forall_set (P := fun _ (p : Plan) => ∀ x ∈ p.placements, x.state ≠ .bound) s.plan st _ ?_
      (fun st' hn x hx hb => hn (h st' x hx hb).1) st'
    rw [Plan.placements_modify]
    intro x hx hb
    obtain ⟨q, hq, rfl⟩ := List.mem_map.mp hx
    split at hb
    · cases hb
    next hn => exact hn (h st q hq hb).2

/-- A commit leaves no placement BOUND (R52). -/
theorem State.commitCase_free {j : Job} {id : Nat} {p : Placement} {y : CaseType} {r : WalkResult} {c : ArrivalRec}
    (h : s.BindingLaw) (hj : s.job = some j) (hd : j.dest = some (.placement st id))
    (hp : (s.plan.get st).find? id = some p) : (s.commitCase st p y r c).Free := by
  obtain ⟨-, rfl⟩ := Plan.find?_eq_some hp
  obtain ⟨u, hu, he⟩ := s.commitCase_eq (st := st) p y r c
  have hf := (h.boundOnly hj hd).place h.distinct
  rw [he]
  exact ((hf.setStack st _).calms (.of_ground hu)).committed

theorem State.commitSheet_free {j : Job} {r : WalkResult} (h : s.BindingLaw) (hj : s.job = some j) (hk : j.kind = .sheet) :
    (s.commitSheet st r).Free := by
  have hf : s.Free := h.free fun i hi hp => by
    obtain rfl : j = i := Option.some.inj (hj.symm.trans hi)
    rw [hk] at hp; cases hp
  obtain ⟨u, hu, he⟩ := s.commitSheet_eq (st := st) r
  have hs := hf.calms (.setPlan (st := st) (.of_placements (Plan.sheetCommitted_placements _)))
  rw [he]
  exact ((hs.setStack st _).calms (.of_ground hu)).committed

/-- A station that is cleared keeps no placement, and a job of the other station keeps its reservation (R161). -/
theorem State.endReservation_ground (s : State) (st : StationId) :
    (s.endReservation st).ground = s.ground ∨
      ∃ j, s.job = some j ∧ j.station = some st ∧ s.endReservation st = s.setJob (some { j with reservation := none }) := by
  unfold State.endReservation
  split
  next j hj =>
    split
    next hs => exact .inr ⟨j, hj, hs, rfl⟩
    next => exact .inl rfl
  next => exact .inl rfl

theorem State.vacated_bindingLaw (h : s.BindingLaw) : (s.vacated st).BindingLaw := by
  have he : ((s.setPlan st .initial).setStack st (.bare (s.stack.get st).limits)).BindingLaw :=
    h.of_plans rfl (PerStation.forall_set (P := fun st' (p : Plan) => (s.plan.get st').Eased p) s.plan st .initial
      ⟨List.nil_sublist _, fun _ hy => by cases hy⟩ fun _ _ => .refl _)
  unfold State.vacated
  rcases State.endReservation_ground ((s.setPlan st .initial).setStack st (.bare (s.stack.get st).limits)) st with
    hg | ⟨j, hj, hs, hg⟩
  · exact he.calms (.of_ground hg)
  · rw [hg]
    refine (State.Free.setJob ⟨he.distinct, fun st' p hp hb => ?_⟩ _).bindingLaw
    obtain ⟨i, hi, hk, hd, -⟩ := (he st').2 p hp hb
    obtain rfl : j = i := Option.some.inj (hj.symm.trans hi)
    obtain rfl : st' = st := by simpa [Job.station, hk, hd] using hs
    rw [State.setStack_plan, State.setPlan_plan, PerStation.get_set_same] at hp
    cases hp

/-! ### The placements of a list that is taken (R21) -/

/-- What checks 7 to 11 of R21 leave of a placement: its record as the body gives it, with the footprint of its type. -/
theorem State.checkPlace_ok {earlier : List Placement} {b : PlaceBody} {p : Placement} (h : s.checkPlace st earlier b = .ok p) :
    ∃ r y, turn? b.turn = some r ∧ s.dir.typeAt b.type = some y
      ∧ p = ⟨b.id, b.type, b.i0, b.j0, r, b.aisle, b.order, b.override, (footprintOf y r).1, (footprintOf y r).2, .pending,
        .unswept⟩
      ∧ s.idInUse st b.id = false ∧ (∀ q ∈ earlier, q.id ≠ b.id) := by
  unfold State.checkPlace at h
  dsimp only at h
  split at h
  · cases h
  next r hr =>
    split at h
    · cases h
    · split at h
      · cases h
      next y hy =>
        split at h
        · cases h
        · split at h
          · cases h
          next hid =>
            split at h
            · cases h
            · simp only [Bool.or_eq_true, List.any_eq_true, beq_iff_eq, not_or, not_exists, not_and, Bool.not_eq_true] at hid
              exact ⟨r, y, hr, hy, (Except.ok.inj h).symm, hid.1, hid.2⟩

/-- What holds of the empty list, and of a longer one with each placement that passes its checks, holds of a list taken. -/
theorem State.checkPlaces_induct {P : List Placement → Prop} {done ps : List Placement} {bs : List PlaceBody} (h₀ : P done)
    (hs : ∀ {done b p}, P done → s.checkPlace st done b = .ok p → P (done ++ [p]))
    (h : s.checkPlaces st done bs = .ok ps) : P ps := by
  induction bs generalizing done with
  | nil =>
    cases h
    exact h₀
  | cons b rest ih =>
    unfold State.checkPlaces at h
    split at h
    next hp => exact ih (hs h₀ hp) h
    next => cases h

/-- The placements of a list that is taken are PENDING and UNSWEPT, with ids that neither the station nor another of them has. -/
theorem State.checkPlaces_fresh {ps : List Placement} {bs : List PlaceBody} (h : s.checkPlaces st [] bs = .ok ps) :
    (ps.map Placement.id).Nodup ∧ ∀ p ∈ ps, p.state = .pending ∧ p.verdict = .unswept ∧ s.idInUse st p.id = false := by
  refine State.checkPlaces_induct (P := fun ps => (ps.map Placement.id).Nodup
    ∧ ∀ p ∈ ps, p.state = .pending ∧ p.verdict = .unswept ∧ s.idInUse st p.id = false) ⟨by simp, by simp⟩ ?_ h
  rintro done b p ⟨hn, hd⟩ hp
  obtain ⟨r, y, -, -, rfl, hu, he⟩ := State.checkPlace_ok hp
  refine ⟨?_, fun q hq => ?_⟩
  · rw [List.map_append, List.nodup_append]
    refine ⟨hn, by simp, ?_⟩
    simpa using he
  · rcases List.mem_append.mp hq with hq | hq
    · exact hd q hq
    · obtain rfl := List.mem_singleton.mp hq
      exact ⟨rfl, rfl, hu⟩

theorem State.layerTaken_plan (s : State) (st : StationId) (l : Layer) :
    (s.layerTaken st l).plan = s.plan.set st { s.plan.get st with queue := (s.plan.get st).queue ++ [l] } := by
  unfold State.layerTaken
  dsimp only
  split <;> rfl

theorem State.layerTaken_job (s : State) (st : StationId) (l : Layer) : (s.layerTaken st l).job = s.job := by
  unfold State.layerTaken
  dsimp only
  split <;> rfl

theorem State.layerTaken_bindingLaw {bs : List PlaceBody} {l : Layer} (h : s.BindingLaw)
    (hc : s.checkPlaces st [] bs = .ok l.placements) : (s.layerTaken st l).BindingLaw := by
  obtain ⟨hn, hf⟩ := State.checkPlaces_fresh hc
  unfold State.BindingLaw
  rw [State.layerTaken_plan, State.layerTaken_job]
  refine PerStation.forall_set (P := fun st' (p : Plan) => (p.placements.map Placement.id).Nodup
    ∧ ∀ q ∈ p.placements, q.state = .bound → ∃ j, s.job = some j ∧ j.kind = .place ∧ j.dest = some (.placement st' q.id)
      ∧ j.reservation.isSome = true) s.plan st _ ?_ fun st' _ => h st'
  have hp : Plan.placements { s.plan.get st with queue := (s.plan.get st).queue ++ [l] }
      = (s.plan.get st).placements ++ l.placements := by simp [Plan.placements]
  rw [hp]
  refine ⟨?_, fun q hq hb => ?_⟩
  · rw [List.map_append, List.nodup_append]
    refine ⟨(h st).1, hn, ?_⟩
    rintro _ ha _ hb rfl
    obtain ⟨x, hx, rfl⟩ := List.mem_map.mp ha
    obtain ⟨y, hy, he⟩ := List.mem_map.mp hb
    have hu := (hf y hy).2.2
    rw [he, State.idInUse, h.distinct.find? hx] at hu
    simp at hu
  · rcases List.mem_append.mp hq with hq | hq
    · exact (h st).2 q hq hb
    · rw [(hf q hq).1] at hb
      cases hb

theorem State.noteVoids_calms (s : State) (st : StationId) (ids : List Nat) :
    s.Calms (ids.foldl (fun s id => s.noteVoid st id) s) :=
  .foldl (f := fun (s : State) id => s.noteVoid st id) (fun t id => t.noteVoid_calms st id) ids s

theorem State.requeue_calms {p : Plan} (hp : (s.plan.get st).Calm p) (ids : List Nat) : s.Calms (s.requeue st p ids) :=
  ((State.Calms.setPlan hp).trans (.of_ground (by simp))).trans
    ((State.noteVoids_calms (((s.setPlan st p).reschedule st).staleScan) st ids).trans (State.examineLayers_calms _ st))

theorem State.voidPlacement_calms {id : Nat} {q : Placement} (hd : s.DistinctIds) (hq : (s.plan.get st).find? id = some q)
    (hs : q.state = .pending) : s.Calms (s.voidPlacement st id) := by
  obtain ⟨hm, rfl⟩ := Plan.find?_eq_some hq
  have hp : (s.plan.get st).Calm ((s.plan.get st).modify q.id fun x => { x with state := .void }) := by
    refine .of_map (Plan.placements_modify ..) (fun x hx => ?_) fun x hx hb => ?_
    · split
      next he =>
        obtain rfl := hd.eq_of_id hx hm he
        exact ⟨rfl, .inr ⟨by simp [Placement.live, hs], .inr rfl⟩⟩
      next => exact .refl x
    · rw [if_neg fun he => ?_]
      obtain rfl := hd.eq_of_id hx hm he
      rw [hs] at hb; cases hb
  have hv : s.Calms (s.setPState st q.id .void) := (State.Calms.setPlan hp).trans (.of_ground (by simp [State.setPState]))
  exact hv.trans ((State.noteVoid_calms _ st _).trans (State.examineLayers_calms _ st))

theorem State.Changes.bindingLaw (hc : s.Changes t) (h : s.BindingLaw) : t.BindingLaw := by
  induction hc with
  | refl => exact h
  | keep _ he ih => exact ih.calms (.of_ground he)
  | sweepTrigger _ ih => exact ih.calms (State.sweepTrigger_calms _ _)
  | walkEnds _ ih => exact ih.calms (State.walkEnds_calms _ _)
  | sheetJobOver _ ih => exact ih.calms (State.sheetJobOver_calms _ _)
  | unclaim _ ih => exact (State.unclaim_free ih).bindingLaw
  | unjob _ ih => exact (ih.handBack_free.setJob _).bindingLaw
  | putaway _ _ ih => exact ((State.unclaim_free ih).modifyJob _).bindingLaw
  | rejob _ hj hs _ ih =>
    exact ((ih.free fun i hi _ => by obtain rfl : _ = i := Option.some.inj (hj.symm.trans hi); exact hs).setJob _).bindingLaw
  | commitCase _ hj _ hd _ hp _ ih => exact (State.commitCase_free ih hj hd hp).bindingLaw
  | commitSheet _ hj hk _ _ ih => exact (State.commitSheet_free ih hj hk).bindingLaw
  | claim _ hj hc ih => exact State.claim_bindingLaw ih hj hc
  | vacated _ ih => exact State.vacated_bindingLaw ih
  | layerTaken _ hc ih => exact State.layerTaken_bindingLaw ih hc
  | voidPlacement _ hq hs ih => exact ih.calms (State.voidPlacement_calms ih.distinct hq hs)
  | withdrawn _ hl hf ih => exact ih.calms (State.requeue_calms (.voided (changeTag_mayVoid _ _)) _)
  | closed _ ih => exact ih.calms (.setPlan (.of_placements rfl))
  | abandoned _ he ih =>
    exact ih.calms (((State.Calms.setPlan (.voided (abandoned_mayVoid _))).trans (.of_ground he)).trans
      ((State.noteVoids_calms _ _ _).trans (State.examineLayers_calms _ _)))
  | setLimits _ _ _ he ih =>
    exact (State.BindingLaw.calms (s := State.setStack _ _ _) ih (.of_ground he)).calms (State.sweepTrigger_calms _ _)
  | defineType _ _ _ ih => exact ih
  | reset _ hp =>
    refine fun st => ⟨?_, fun p hm => ?_⟩
    · rw [hp]
      cases st <;> exact List.nodup_nil
    · rw [hp] at hm
      cases st <;> cases hm

end

/-- Settles O56: every step is a chain of changes of the ground, and each of them keeps the law of bindings. -/
theorem bindingLawIsKeptByEveryStep : Obligations.BindingLawIsKeptByEveryStep :=
  fun _ _ h ht => (step_changes ht).bindingLaw h

end Sys2Proof.Machine
end

section
/-! SUPPORT. The admission walk (R43 to R51) and the commit (R52, R53) as far as the laws of a stack go: a walk that admits gives a
result that fits, and an entry whose walk fits leaves a stack that meets its laws. -/

namespace Sys2Proof.Machine

/-! ### The base, the bearing cells and the support list (R43 to R48) -/

theorem le_foldl_max (l : List Nat) (a : Nat) : a ≤ l.foldl max a ∧ ∀ x ∈ l, x ≤ l.foldl max a := by
  induction l generalizing a with
  | nil => simp
  | cons b l ih =>
    obtain ⟨h₁, h₂⟩ := ih (max a b)
    simp only [List.foldl_cons, List.mem_cons]
    refine ⟨(le_max_left a b).trans h₁, ?_⟩
    rintro x (rfl | hx)
    exacts [(le_max_right a x).trans h₁, h₂ x hx]

theorem foldl_max_mem (l : List Nat) (a : Nat) : l.foldl max a = a ∨ l.foldl max a ∈ l := by
  induction l generalizing a with
  | nil => simp
  | cons b l ih =>
    rw [List.foldl_cons]
    rcases ih (max a b) with h | h
    · rw [h]
      rcases max_choice a b with hm | hm <;> simp [hm]
    · exact .inr (List.mem_cons_of_mem _ h)

theorem le_baseOf {cs : List Cell} {c : Cell} (h : c ∈ cs) : c.h ≤ baseOf cs :=
  (le_foldl_max (cs.map Cell.h) 0).2 c.h (List.mem_map_of_mem h)

/-- A footprint with a cell has a bearing cell: one that reaches the base. -/
theorem bearing_ne_nil {cs : List Cell} (h : cs ≠ []) (tol : Nat) : bearing tol cs ≠ [] := by
  obtain ⟨c, hc, he⟩ : ∃ c ∈ cs, baseOf cs = c.h := by
    rcases foldl_max_mem (cs.map Cell.h) 0 with hz | hm
    · obtain ⟨c, hc⟩ := List.exists_mem_of_ne_nil cs h
      have := le_baseOf hc
      exact ⟨c, hc, by unfold baseOf at *; omega⟩
    · obtain ⟨c, hc, he⟩ := List.mem_map.mp hm
      exact ⟨c, hc, he.symm⟩
  exact List.ne_nil_of_mem (List.mem_filter.mpr ⟨hc, by simp [he]⟩)

/-- The top references a support list goes through: DECK and every entry. -/
def supportRefs (n : Nat) : List Ref := Ref.deck :: (List.range n).map Ref.entry

theorem supportRefs_nodup (n : Nat) : (supportRefs n).Nodup := by
  refine List.nodup_cons.mpr ⟨by simp, (List.nodup_range).map ?_⟩
  exact fun a b h => Ref.entry.inj h

/-- The shares of references that include those of all the cells add up to the number of cells (R48). -/
theorem shares_sum {l : List Ref} (hl : l.Nodup) {cs : List Cell} (h : ∀ c ∈ cs, c.ref ∈ l) :
    (l.map fun r => shareOf r cs).sum = cs.length := by
  rw [← List.sum_toFinset _ hl]
  have hc : ∀ r, shareOf r cs = Multiset.count r ((cs.map Cell.ref : List Ref) : Multiset Ref) := by
    intro r
    simp [shareOf, List.count, List.countP_map, Function.comp_def]
  simp only [hc]
  rw [Multiset.sum_count_eq_card]
  · simp
  · simpa using h

theorem sum_filter_pos (l : List (Ref × Nat)) : ((l.filter fun q => 0 < q.2).map Prod.snd).sum = (l.map Prod.snd).sum := by
  induction l with
  | nil => rfl
  | cons q l ih =>
    rcases Nat.eq_zero_or_pos q.2 with hq | hq <;> simp [hq, ih]

/-- A support list is one for the table where every cell shows DECK or an entry of the table below the base. -/
theorem supportsOf_law {table : List Entry} {cs : List Cell} {base : Nat} (hne : cs ≠ [])
    (hc : ∀ c ∈ cs, c.ref = .deck ∨ ∃ i x, c.ref = .entry i ∧ table[i]? = some x ∧ x.base < base)
    (hmax : (supportsOf table.length cs).length ≤ Config.supportMax) :
    SupportLaw table base cs.length (supportsOf table.length cs) := by
  have href : ∀ c ∈ cs, c.ref ∈ supportRefs table.length := by
    intro c hm
    rcases hc c hm with h | ⟨i, x, h, hx, -⟩
    · simp [supportRefs, h]
    · have := (List.getElem?_eq_some_iff.mp hx).1
      simp [supportRefs, h, this]
  have hsum : ((supportsOf table.length cs).map Prod.snd).sum = cs.length := by
    unfold supportsOf
    rw [sum_filter_pos, List.map_map]
    exact shares_sum (supportRefs_nodup _) href
  have hpos : ∀ q ∈ supportsOf table.length cs, 1 ≤ q.2 := by
    intro q hq
    have := (List.mem_filter.mp hq).2
    simp only [decide_eq_true_eq] at this
    exact this
  refine ⟨?_, hmax, hpos, hsum, ?_⟩
  · by_contra hz
    rw [List.length_eq_zero_iff.mp (Nat.lt_one_iff.mp (Nat.lt_of_not_le hz))] at hsum
    exact hne (List.length_eq_zero_iff.mp hsum.symm)
  · intro q hq i hi
    obtain ⟨r, -, rfl⟩ := List.mem_map.mp (List.mem_filter.mp hq).1
    obtain ⟨c, hm, he⟩ := List.countP_pos_iff.mp (hpos _ hq)
    rw [beq_iff_eq] at he
    rcases hc c hm with h | ⟨n, x, h, hx, hb⟩
    · simp only at hi
      rw [← he, h] at hi
      cases hi
    · simp only at hi
      rw [← he, h] at hi
      cases hi
      exact ⟨x, hx, hb⟩

/-! ### The walk-down (R49, R50) -/

theorem insertBase_perm (b : Nat → Nat) (i : Nat) (l : List Nat) : (insertBase b i l).Perm (i :: l) := by
  induction l with
  | nil => exact .refl _
  | cons j l ih =>
    unfold insertBase
    split
    · exact .refl _
    · exact (ih.cons j).trans (.swap i j l)

/-- The walk-down takes every entry once (R50). -/
theorem takeOrder_nodup (t : List Entry) : (takeOrder t).Nodup := by
  have hp : ∀ (b : Nat → Nat) (l acc : List Nat), (l.foldl (fun l i => insertBase b i l) acc).Perm (l.reverse ++ acc) := by
    intro b l
    induction l with
    | nil => exact fun acc => .refl _
    | cons i l ih =>
      intro acc
      rw [List.foldl_cons, List.reverse_cons, List.append_assoc]
      exact (ih _).trans ((insertBase_perm b i acc).append_left _)
  have := hp (fun n => ((t[n]?).map Entry.base).getD 0) (List.range t.length) []
  rw [List.append_nil] at this
  exact this.symm.nodup (List.nodup_reverse.mpr List.nodup_range)

/-- What a walk-down that passes adds to its loads: of the entries in its order, each at most once and within its allowance. -/
theorem walkDown_loads {t : List Entry} {order : List Nat} {p : Pending} {acc loads : List (Nat × Nat)}
    (h : walkDown t order p acc = .passed loads) :
    ∃ new, loads = acc.reverse ++ new ∧ (new.map Prod.fst).Sublist order
      ∧ ∀ q ∈ new, ∃ e, t[q.1]? = some e ∧ q.2 ≤ e.allow := by
  induction order generalizing p acc with
  | nil =>
    cases h
    exact ⟨[], by simp⟩
  | cons i rest ih =>
    have hrest : ∀ {p}, walkDown t rest p acc = .passed loads → ∃ new, loads = acc.reverse ++ new
        ∧ (new.map Prod.fst).Sublist (i :: rest) ∧ ∀ q ∈ new, ∃ e, t[q.1]? = some e ∧ q.2 ≤ e.allow := by
      intro p hw
      obtain ⟨new, he, hs, hn⟩ := ih hw
      exact ⟨new, he, hs.cons i, hn⟩
    unfold walkDown at h
    dsimp only at h
    split at h
    · exact hrest h
    · split at h
      · exact hrest h
      next e he =>
        split at h
        · cases h
        next ha =>
          obtain ⟨new, hl, hs, hn⟩ := ih h
          refine ⟨(i, p.getD i 0) :: new, by simp [hl], hs.cons_cons i, ?_⟩
          rintro q (_ | ⟨_, hq⟩)
          exacts [⟨e, he, Nat.le_of_not_lt ha⟩, hn q hq]

/-- The loads of a walk-down name an entry within its allowance (R50). -/
theorem loads_within {t : List Entry} {order : List Nat} {p : Pending} {loads : List (Nat × Nat)} (ho : order.Nodup)
    (h : walkDown t order p [] = .passed loads) {i : Nat} {e : Entry} (he : t[i]? = some e) :
    ((loads.filter fun q => q.1 == i).map Prod.snd).sum ≤ e.allow := by
  obtain ⟨new, hl, hs, hn⟩ := walkDown_loads h
  obtain rfl : loads = new := by simpa using hl
  have hd : (loads.map Prod.fst).Nodup := ho.sublist hs
  clear hs h hl
  induction loads with
  | nil => simp
  | cons q l ih =>
    rw [List.map_cons, List.nodup_cons] at hd
    by_cases hq : q.1 = i
    · have hf : l.filter (fun q => q.1 == i) = [] := by
        rw [List.filter_eq_nil_iff]
        intro x hx hxi
        exact hd.1 (List.mem_map.mpr ⟨x, hx, by simpa [hq] using hxi⟩)
      obtain ⟨e', he', hle⟩ := hn q List.mem_cons_self
      rw [hq, he] at he'
      cases he'
      simp [hq, hf, hle]
    · simpa [hq] using ih (fun x hx => hn x (List.mem_cons_of_mem _ hx)) hd.2

/-! ### A walk that admits (R51) -/

/-- A cell that a walk reads is bare deck or shows an entry with a lower base (R38). -/
theorem Stack.Law.cell {k : Stack} (hk : k.Law) (i j : Nat) :
    (k.cell i j).ref = .deck ∨ ∃ n e, (k.cell i j).ref = .entry n ∧ k.table[n]? = some e ∧ e.base < (k.cell i j).h := by
  obtain ⟨-, -, -, he, -, -, -, hc⟩ := hk
  unfold Stack.cell
  cases hm : k.map[k.limits.foot.at i j]? with
  | none => simp
  | some c =>
    obtain ⟨-, -, ⟨rfl, -⟩ | ⟨n, e, hn, rfl, -, -⟩⟩ := hc _ c hm
    · simp
    · exact .inr ⟨n, e, rfl, hn, (he e (List.mem_of_getElem? hn)).1⟩

theorem Stack.mem_cellsOf {k : Stack} {i0 j0 mi mj : Nat} {c : Cell} (h : c ∈ k.cellsOf i0 j0 mi mj) :
    ∃ i j, c = k.cell i j := by
  simp only [Stack.cellsOf, List.mem_flatMap, List.mem_map] at h
  obtain ⟨dj, -, di, -, rfl⟩ := h
  exact ⟨_, _, rfl⟩

theorem Stack.cellsOf_ne_nil (k : Stack) (i0 j0 : Nat) {mi mj : Nat} (hi : 0 < mi) (hj : 0 < mj) : k.cellsOf i0 j0 mi mj ≠ [] :=
  List.ne_nil_of_mem (List.mem_flatMap.mpr ⟨0, by simpa using hj, List.mem_map.mpr ⟨0, by simpa using hi, rfl⟩⟩)

/-- A walk that admits gives a result that fits the stack (R43 to R51). -/
theorem Stack.Law.walk_fits {k : Stack} (hk : k.Law) {c : Load} {n : Nat} {r : WalkResult} (hi : 0 < c.mi) (hj : 0 < c.mj)
    (hh : 0 < c.hei) (h : k.walk c n = .admitted r) : k.Fits c r := by
  have hcell : ∀ x ∈ bearing k.limits.tol (k.cellsOf c.i0 c.j0 c.mi c.mj), x.ref = .deck ∨ ∃ i e, x.ref = .entry i
      ∧ k.table[i]? = some e ∧ e.base < baseOf (k.cellsOf c.i0 c.j0 c.mi c.mj) := by
    intro x hx
    have hm := (List.mem_filter.mp hx).1
    have hb := le_baseOf hm
    obtain ⟨i, j, rfl⟩ := Stack.mem_cellsOf hm
    rcases hk.cell i j with hd | ⟨m, e, hr, he, hl⟩
    exacts [.inl hd, .inr ⟨m, e, hr, he, hl.trans_le hb⟩]
  unfold Stack.walk at h
  dsimp only at h
  split at h
  · cases h
  next ht =>
    split at h
    · cases h
    · split at h
      · cases h
      next hm =>
        split at h
        · cases h
        next hg =>
          split at h
          · cases h
          next hs =>
            split at h
            · cases h
            next loads hw =>
              cases h
              exact ⟨Nat.lt_of_not_le ht, rfl, by dsimp only; omega, hh,
                supportsOf_law (bearing_ne_nil (k.cellsOf_ne_nil _ _ hi hj) _) hcell (Nat.le_of_not_lt hs),
                fun x hx => le_baseOf hx, Nat.le_of_not_lt hm, fun i e he => loads_within (takeOrder_nodup _) hw he⟩

/-! ### The commit (R52, R53) -/

/-- The placement id that a kind of entry carries, where it is CASE (R39). -/
def EntryKind.ids : EntryKind → List Nat
  | .case id _ => [id]
  | .sheet => []

theorem Stack.caseIds_eq (k : Stack) : k.caseIds = (k.table.map Entry.kind).flatMap EntryKind.ids := by
  unfold Stack.caseIds
  induction k.table with
  | nil => rfl
  | cons e t ih => cases he : e.kind <;> simp [EntryKind.ids, he, ih]

/-- An entry after a commit's first step: its allowance alone has changed, and has not grown (R52). -/
def Entry.Lowered (x y : Entry) : Prop := y = { x with allow := y.allow } ∧ y.allow ≤ x.allow

theorem Entry.Lowered.refl (x : Entry) : x.Lowered x := ⟨rfl, Nat.le_refl _⟩

theorem lowerAll_lowered (loads : List (Nat × Nat)) (t : List Entry) : List.Forall₂ Entry.Lowered t (lowerAll t loads) := by
  have hm : ∀ (t : List Entry) (i n : Nat),
      List.Forall₂ Entry.Lowered t (t.modify i fun e => { e with allow := e.allow - n }) := by
    intro t
    induction t with
    | nil => exact fun i n => by cases i <;> exact .nil
    | cons x t ih =>
      intro i n
      cases i with
      | zero => exact .cons ⟨rfl, Nat.sub_le _ _⟩ (List.forall₂_same.mpr fun y _ => .refl y)
      | succ i => exact .cons (.refl x) (ih i n)
  have ht : ∀ {a b c : List Entry}, List.Forall₂ Entry.Lowered a b → List.Forall₂ Entry.Lowered b c →
      List.Forall₂ Entry.Lowered a c := by
    intro a b c hab
    induction hab generalizing c with
    | nil => exact id
    | cons hx _ ih =>
      rintro (_ | ⟨hy, hr⟩)
      exact .cons ⟨by rw [hy.1, hx.1], hy.2.trans hx.2⟩ (ih hr)
  induction loads generalizing t with
  | nil => exact List.forall₂_same.mpr fun y _ => .refl y
  | cons q l ih => exact ht (hm t q.1 q.2) (ih _)

/-- What a table and the same table with lowered allowances have in common. -/
theorem Lowered.facts {t u : List Entry} (h : List.Forall₂ Entry.Lowered t u) :
    u.map Entry.kind = t.map Entry.kind ∧ u.map Entry.weight = t.map Entry.weight
      ∧ (∀ (i : Nat) (y : Entry), u[i]? = some y → ∃ x, t[i]? = some x ∧ x.Lowered y)
      ∧ ∀ (i : Nat) (x : Entry), t[i]? = some x → ∃ y, u[i]? = some y ∧ x.Lowered y := by
  induction h with
  | nil => simp
  | @cons x y t u hxy _ ih =>
    obtain ⟨hk, hw, hu, ht⟩ := ih
    have hx : y.kind = x.kind ∧ y.weight = x.weight := by rw [hxy.1]; exact ⟨rfl, rfl⟩
    refine ⟨by simp [hk, hx], by simp [hw, hx], fun i => ?_, fun i => ?_⟩
    · cases i with
      | zero => simpa using hxy
      | succ i => simpa using hu i
    · cases i with
      | zero => simpa using hxy
      | succ i => simpa using ht i

theorem Footprint.paint_getElem? (f : Footprint) (m : List Cell) (i0 j0 cx cy : Nat) (c : Cell) (n : Nat) :
    (f.paint m i0 j0 cx cy c)[n]? = (m[n]?).map fun d =>
      if i0 ≤ n % f.ni ∧ n % f.ni < i0 + cx ∧ j0 ≤ n / f.ni ∧ n / f.ni < j0 + cy then c else d := by
  simp [Footprint.paint, List.getElem?_map, List.getElem?_zipIdx, Function.comp_def]

/-- A cell that an entry's footprint covers is among the cells its walk reads. -/
theorem Stack.cell_mem_of_covers {k : Stack} {e : Entry} {n : Nat} {c : Cell} (hc : k.map[n]? = some c)
    (h : e.Covers k.limits.foot n) : c ∈ k.cellsOf e.i0 e.j0 e.cx e.cy := by
  obtain ⟨h₁, h₂, h₃, h₄⟩ := h
  have hn : k.limits.foot.at (e.i0 + (n % k.limits.foot.ni - e.i0)) (e.j0 + (n / k.limits.foot.ni - e.j0)) = n := by
    rw [Nat.add_sub_cancel' h₁, Nat.add_sub_cancel' h₃, Footprint.at, Nat.mul_comm]
    exact Nat.div_add_mod n k.limits.foot.ni
  simp only [Stack.cellsOf, List.mem_flatMap, List.mem_map, List.mem_range]
  refine ⟨_, Nat.sub_lt_left_of_lt_add h₃ h₄, _, Nat.sub_lt_left_of_lt_add h₁ h₂, ?_⟩
  rw [Stack.cell, hn, hc]
  rfl

/-- Every entry that covers a cell of a footprint lies no higher than the base of a result that fits there. -/
theorem Stack.Law.top_le {k : Stack} (hk : k.Law) {x : Entry} {n : Nat} {c : Cell} (hx : x ∈ k.table) (hc : k.map[n]? = some c)
    (h : x.Covers k.limits.foot n) : x.top ≤ c.h := by
  obtain ⟨-, -, -, -, -, -, -, hcell⟩ := hk
  obtain ⟨-, -, ⟨-, hn⟩ | ⟨i, e, -, rfl, -, hm⟩⟩ := hcell n c hc
  · exact absurd h (hn x hx)
  · exact hm x hx h

/-- An entry that a walk result makes: it stands on the result's base with the result's support list, higher than it and within
the height limit, with its allowance at most its rating and its weight at most the design weight; and its cells are no higher than
the base. -/
structure Stack.Takes (k : Stack) (r : WalkResult) (e : Entry) : Prop where
  room : k.table.length < Config.stackMax
  id : ∀ id ∈ e.kind.ids, id ∉ k.caseIds
  base : e.base = r.base
  bearing : e.k = r.k
  supports : e.supports = r.supports
  height : e.base < e.top
  top : e.top ≤ k.limits.hMax
  allow : e.allow ≤ e.rating
  gross : k.gross + e.weight ≤ k.limits.gMax
  law : SupportLaw k.table r.base r.k r.supports
  cells : ∀ x ∈ k.cellsOf e.i0 e.j0 e.cx e.cy, x.h ≤ r.base

section

variable {k : Stack} {r : WalkResult} {e : Entry}

theorem Stack.commit_table : (k.commit r e).table = lowerAll k.table r.loads ++ [e] := rfl

/-- An index of the table after a commit: an entry that was there, with its allowance lowered, or the one committed. -/
theorem Stack.commit_getElem? {i : Nat} {y : Entry} (h : (k.commit r e).table[i]? = some y) :
    (∃ x, k.table[i]? = some x ∧ x.Lowered y) ∨ (i = k.table.length ∧ y = e) := by
  have hl := (lowerAll_lowered r.loads k.table)
  rw [Stack.commit_table, List.getElem?_append, ← hl.length_eq] at h
  split at h
  · exact .inl ((Lowered.facts hl).2.2.1 i y h)
  next hn =>
    obtain ⟨hi, rfl⟩ := List.getElem?_eq_some_iff.mp h
    simp only [List.length_singleton] at hi
    exact .inr ⟨by omega, by simp⟩

theorem Stack.commit_getElem?_of_old {i : Nat} {x : Entry} (h : k.table[i]? = some x) :
    ∃ y, (k.commit r e).table[i]? = some y ∧ x.Lowered y := by
  have hl := (lowerAll_lowered r.loads k.table)
  obtain ⟨y, hy, hxy⟩ := (Lowered.facts hl).2.2.2 i x h
  exact ⟨y, by rw [Stack.commit_table, List.getElem?_append_left (List.getElem?_eq_some_iff.mp hy).1, hy], hxy⟩

theorem Stack.commit_getElem?_new : (k.commit r e).table[k.table.length]? = some e := by
  rw [Stack.commit_table, (lowerAll_lowered r.loads k.table).length_eq]
  simp

theorem Stack.commit_caseIds : (k.commit r e).caseIds = k.caseIds ++ e.kind.ids := by
  have hk := (Lowered.facts (lowerAll_lowered r.loads k.table)).1
  simp [Stack.caseIds_eq, Stack.commit_table, hk]

theorem Entry.Lowered.covers {x y : Entry} (h : x.Lowered y) (f : Footprint) (n : Nat) : y.Covers f n ↔ x.Covers f n := by
  rw [h.1]; exact Iff.rfl

theorem Entry.Lowered.faces {x y : Entry} (h : x.Lowered y) : y.base = x.base ∧ y.top = x.top ∧ y.k = x.k
    ∧ y.supports = x.supports ∧ y.rating = x.rating := by
  rw [h.1]; exact ⟨rfl, rfl, rfl, rfl, rfl⟩

/-- A support list stays one for the table when an entry is committed. -/
theorem SupportLaw.commit {base n : Nat} {sup : List (Ref × Nat)} (h : SupportLaw k.table base n sup) :
    SupportLaw (k.commit r e).table base n sup := by
  obtain ⟨h₁, h₂, h₃, h₄, h₅⟩ := h
  refine ⟨h₁, h₂, h₃, h₄, fun q hq i hi => ?_⟩
  obtain ⟨x, hx, hb⟩ := h₅ q hq i hi
  obtain ⟨y, hy, hxy⟩ := Stack.commit_getElem?_of_old (r := r) (e := e) hx
  exact ⟨y, hy, hxy.faces.1 ▸ hb⟩

/-- A stack that takes the entry a fitting walk result makes meets its laws (R52, R53). -/
theorem Stack.Law.commit (hk : k.Law) (ht : k.Takes r e) : (k.commit r e).Law := by
  have hlow := lowerAll_lowered r.loads k.table
  have hfoot : (k.commit r e).limits = k.limits := rfl
  have hmap : (k.commit r e).map = k.limits.foot.paint k.map e.i0 e.j0 e.cx e.cy ⟨e.top, .entry k.table.length⟩ := rfl
  have hlen : (k.commit r e).map.length = k.map.length := by simp [hmap, Footprint.paint]
  obtain ⟨hmax, hids, hshare, hsup, hallow, hgross, -, hcell⟩ := id hk
  have hmem : ∀ y ∈ (k.commit r e).table, (∃ x ∈ k.table, x.Lowered y) ∨ y = e := by
    intro y hy
    obtain ⟨i, hi⟩ := List.mem_iff_getElem?.mp hy
    rcases Stack.commit_getElem? hi with ⟨x, hx, hxy⟩ | ⟨-, rfl⟩
    exacts [.inl ⟨x, List.mem_of_getElem? hx, hxy⟩, .inr rfl]
  have hunder : ∀ x ∈ k.table, ∀ n c, k.map[n]? = some c → x.Covers k.limits.foot n → e.Covers k.limits.foot n →
      x.top ≤ e.base := fun x hx n c hc hxc hec =>
    ht.base ▸ (hk.top_le hx hc hxc).trans (ht.cells c (Stack.cell_mem_of_covers hc hec))
  refine ⟨?_, ?_, ?_, ?_, ?_, ?_, ?_, ?_⟩
  · simpa [Stack.commit_table, ← hlow.length_eq] using ht.room
  · rw [Stack.commit_caseIds]
    refine List.nodup_append.mpr ⟨hids, ?_, ?_⟩
    · cases e.kind <;> simp [EntryKind.ids]
    · rintro a ha b hb rfl
      exact ht.id a hb ha
  · intro i j n x y hij hx hy hn hxc hyc
    rw [hfoot] at hxc hyc
    obtain ⟨c, hc⟩ : ∃ c, k.map[n]? = some c := ⟨_, List.getElem?_eq_getElem (hlen ▸ hn)⟩
    rcases Stack.commit_getElem? hx with ⟨x', hx', hxl⟩ | ⟨rfl, rfl⟩
    · rw [hxl.covers] at hxc
      rcases Stack.commit_getElem? hy with ⟨y', hy', hyl⟩ | ⟨rfl, rfl⟩
      · rw [hyl.covers] at hyc
        rw [hxl.faces.2.1, hyl.faces.1]
        exact hshare i j n x' y' hij hx' hy' (hlen ▸ hn) hxc hyc
      · rw [hxl.faces.2.1]
        exact hunder x' (List.mem_of_getElem? hx') n c hc hxc hyc
    · rcases Stack.commit_getElem? hy with ⟨y', hy', -⟩ | ⟨rfl, -⟩
      · have := (List.getElem?_eq_some_iff.mp hy').1
        omega
      · omega
  · intro y hy
    rcases hmem y hy with ⟨x, hx, hxy⟩ | rfl
    · obtain ⟨hb, htop, hkk, hs, -⟩ := hxy.faces
      rw [hb, htop, hkk, hs]
      exact ⟨(hsup x hx).1, (hsup x hx).2.commit⟩
    · rw [ht.base, ht.bearing, ht.supports]
      exact ⟨ht.base ▸ ht.height, ht.law.commit⟩
  · intro y hy
    rcases hmem y hy with ⟨x, hx, hxy⟩ | rfl
    · rw [hxy.faces.2.2.2.2]
      exact hxy.2.trans (hallow x hx)
    · exact ht.allow
  · simp [(Lowered.facts hlow).2.1, Stack.commit, hgross]
  · exact ht.gross
  · intro n c hc
    rw [hmap, Footprint.paint_getElem?, Option.map_eq_some_iff] at hc
    obtain ⟨d, hd, rfl⟩ := hc
    obtain ⟨hh, hm, hshow⟩ := hcell n d hd
    have hhigh : (k.commit r e).highest = max k.highest e.top := rfl
    split
    next hcov =>
      refine ⟨by rw [hhigh]; exact le_max_right _ _, ht.top, .inr ⟨k.table.length, e, Stack.commit_getElem?_new, rfl, hcov, ?_⟩⟩
      intro x hx hxc
      rcases hmem x hx with ⟨x', hx', hxl⟩ | rfl
      · rw [hfoot, hxl.covers] at hxc
        rw [hxl.faces.2.1]
        exact (hunder x' hx' n d hd hxc hcov).trans ht.height.le
      · exact Nat.le_refl _
    next hcov =>
      refine ⟨by rw [hhigh]; exact hh.trans (le_max_left _ _), hm, ?_⟩
      rcases hshow with ⟨rfl, hn⟩ | ⟨i, x, hx, rfl, hxc, hxm⟩
      · refine .inl ⟨rfl, fun y hy hyc => ?_⟩
        rcases hmem y hy with ⟨x, hx, hxy⟩ | rfl
        · exact hn x hx ((hxy.covers _ n).mp hyc)
        · exact hcov hyc
      · obtain ⟨y, hy, hxy⟩ := Stack.commit_getElem?_of_old (r := r) (e := e) hx
        refine .inr ⟨i, y, hy, by rw [hxy.faces.2.1], (hxy.covers _ n).mpr hxc, fun z hz hzc => ?_⟩
        rw [hxy.faces.2.1]
        rcases hmem z hz with ⟨w, hw, hwz⟩ | rfl
        · rw [hwz.faces.2.1]
          exact hxm w hw ((hwz.covers _ n).mp hzc)
        · exact absurd hzc hcov

end

/-- The entry of a case whose walk result fits (R52). -/
theorem Stack.Fits.takes_case {k : Stack} {r : WalkResult} {d : Directory} {p : Placement} {y : CaseType} {c : Load}
    (h : k.Fits c r) (hy : d.typeAt p.type = some y) (hc : d.placementLoad p = some c) (hid : p.id ∉ k.caseIds)
    (measured : Nat) : k.Takes r (caseEntry p y r measured) := by
  obtain ⟨hroom, -, hgross, hhei, hsup, hcells, htop, -⟩ := h
  obtain rfl : _ = c := by simpa [Directory.placementLoad, hy] using hc
  have hw : committedWeight measured r.wd ≤ r.wd := Nat.min_le_right _ _
  exact ⟨hroom, by simpa [caseEntry, EntryKind.ids] using hid, rfl, rfl, rfl, Nat.lt_add_of_pos_right hhei, htop, Nat.le_refl _,
    (Nat.add_le_add_left hw _).trans hgross, hsup, hcells⟩

/-- The entry of a sheet whose walk result fits (R53). -/
theorem Stack.Fits.takes_sheet {k : Stack} {r : WalkResult} (h : k.Fits (sheetLoad k.limits.foot) r) :
    k.Takes r (sheetEntry k.limits.foot r) := by
  obtain ⟨hroom, hwd, hgross, hhei, hsup, hcells, htop, -⟩ := h
  exact ⟨hroom, by simp [sheetEntry, EntryKind.ids], rfl, rfl, rfl, Nat.lt_add_of_pos_right hhei, htop, Nat.le_refl _,
    by rwa [hwd] at hgross, hsup, hcells⟩

/-- A stack with nothing on it meets its laws. -/
theorem Stack.law_of_empty {k : Stack} (ht : k.table = []) (hg : k.gross = 0) (hm : ∀ c ∈ k.map, c = ⟨0, .deck⟩) : k.Law := by
  have hn : ∀ x, x ∉ k.table := by simp [ht]
  refine ⟨by simp [ht], by simp [Stack.caseIds, ht], fun i j n x y _ h => by simp [ht] at h, fun e h => absurd h (hn e),
    fun e h => absurd h (hn e), by simp [ht, hg], by simp [hg], fun n c h => ?_⟩
  obtain rfl := hm c (List.mem_of_getElem? h)
  exact ⟨Nat.zero_le _, Nat.zero_le _, .inl ⟨rfl, fun e he => absurd he (hn e)⟩⟩

theorem Stack.bare_law (l : Limits) : (Stack.bare l).Law :=
  Stack.law_of_empty rfl rfl fun _ h => List.eq_of_mem_replicate h

/-- An empty stack whose limits change stays empty, with a bare map (R37). -/
theorem Stack.Law.setLimits {k : Stack} (hk : k.Law) (ht : k.table = []) (l : Limits) : (k.setLimits l).Law := by
  obtain ⟨-, -, -, -, -, hg, -, hc⟩ := hk
  have hz : k.gross = 0 := by simpa [ht] using hg
  unfold Stack.setLimits
  split
  · refine Stack.law_of_empty ht hz fun c hm => ?_
    obtain ⟨n, hn⟩ := List.mem_iff_getElem?.mp hm
    obtain ⟨-, -, ⟨rfl, -⟩ | ⟨i, e, he, -⟩⟩ := hc n c hn
    · rfl
    · simp [ht] at he
  · exact Stack.law_of_empty ht hz fun c hm => List.eq_of_mem_replicate hm

end Sys2Proof.Machine
end

section
/-! SUPPORT. The laws of the stacks in parts: those of the types, the placements and the stacks by themselves; those of an outstanding
reservation; and those of the verdicts a dispatch could make a reservation. Each part with the changes that keep it. -/

namespace Sys2Proof.Machine

/-! ### The parts -/

/-- The laws of the stacks that speak of no reservation and of no verdict (R2, R19, R38 to R41, R50). -/
structure State.Solid (s : State) : Prop where
  types : ∀ n t, s.dir.typeAt n = some t → 0 < t.len ∧ 0 < t.wid ∧ 0 < t.hei
  sized : ∀ st, ∀ p ∈ (s.plan.get st).placements, 0 < p.cx ∧ 0 < p.cy
  law : ∀ st, (s.stack.get st).Law
  placed : ∀ st, ∀ p ∈ (s.plan.get st).placements, p.state = .placed ↔ p.id ∈ (s.stack.get st).caseIds

/-- An outstanding reservation of a station is that of a BOUND placement or of a sheet, and fits the stack (R54, R55). -/
def State.Reserves (s : State) (st : StationId) : Prop :=
  ∀ j r, s.job = some j → s.outstanding st = some r →
    (∀ id, j.kind = .place → j.dest = some (.placement st id) →
      ∃ p ∈ (s.plan.get st).placements, p.id = id ∧ p.state = .bound ∧ s.FitsPlacement st p r)
    ∧ (j.kind = .sheet → s.FitsSheet st r)

/-- A dispatch could make the verdict of a placement a reservation, as far as plan and sweep go (R56, R61). -/
def State.Claimable (s : State) (st : StationId) (p : Placement) (r : WalkResult) : Prop :=
  (s.stack.get st).sweep.state ≠ .waiting ∧ (∃ l ∈ (s.plan.get st).eligible, p ∈ l.placements) ∧ p.live = true
    ∧ p.verdict = .admitted r

/-- A dispatch could make the sheet verdict a reservation, as far as plan and sweep go. -/
def State.ClaimableSheet (s : State) (st : StationId) (r : WalkResult) : Prop :=
  (s.stack.get st).sweep.state ≠ .waiting ∧ (s.plan.get st).sheetDue = true ∧ (s.stack.get st).sheetVerdict = .admitted r

/-- Every such verdict fits the stack. -/
def State.Verdicts (s : State) (st : StationId) : Prop :=
  (∀ p r, s.Claimable st p r → s.FitsPlacement st p r) ∧ ∀ r, s.ClaimableSheet st r → s.FitsSheet st r

theorem State.stackLaw_iff (s : State) : s.StackLaw ↔ s.Solid ∧ (∀ st, s.Reserves st) ∧ ∀ st, s.Verdicts st := by
  constructor
  · rintro ⟨⟨ht, hs⟩, h⟩
    refine ⟨⟨ht, hs, fun st => (h st).1, fun st => (h st).2.1⟩, fun st => (h st).2.2.1, fun st => ⟨?_, ?_⟩⟩
    · rintro p r ⟨hw, ⟨l, hl, hp⟩, hv, ha⟩
      exact ((h st).2.2.2 hw).1 l hl p hp hv r ha
    · rintro r ⟨hw, hd, ha⟩
      exact ((h st).2.2.2 hw).2 hd r ha
  · rintro ⟨hs, hr, hv⟩
    refine ⟨⟨hs.types, hs.sized⟩, fun st => ⟨hs.law st, hs.placed st, hr st, fun hw => ⟨?_, ?_⟩⟩⟩
    · exact fun l hl p hp hlive r ha => (hv st).1 p r ⟨hw, ⟨l, hl, hp⟩, hlive, ha⟩
    · exact fun hd r ha => (hv st).2 r ⟨hw, hd, ha⟩

/-! ### What the parts depend on -/

theorem Directory.placementLoad_congr {d e : Directory} (h : e.types = d.types) (p : Placement) :
    e.placementLoad p = d.placementLoad p := by
  simp [Directory.placementLoad, Directory.typeAt, h]

/-- The laws of a stack and the results that fit it are those of its body. -/
theorem Stack.Law.of_body {k l : Stack} (hk : k.Law) (h : l.body = k.body) : l.Law := by
  have : k.body.Law := hk
  rw [← h] at this
  exact this

theorem Stack.Fits.of_body {k l : Stack} {c : Load} {r : WalkResult} (hk : k.Fits c r) (h : l.body = k.body) : l.Fits c r := by
  have : k.body.Fits c r := hk
  rw [← h] at this
  exact this

theorem Stack.caseIds_of_body {k l : Stack} (h : l.body = k.body) : l.caseIds = k.caseIds := by
  change l.body.caseIds = k.body.caseIds
  rw [h]

theorem Stack.limits_of_body {k l : Stack} (h : l.body = k.body) : l.limits = k.limits := by
  change l.body.limits = k.body.limits
  rw [h]

section

variable {s t : State} {st : StationId} {p q : Placement} {r : WalkResult}

theorem State.FitsPlacement.congr (h : s.FitsPlacement st p r) (hb : (t.stack.get st).body = (s.stack.get st).body)
    (hl : t.dir.placementLoad q = s.dir.placementLoad p) : t.FitsPlacement st q r := by
  obtain ⟨c, hc, hf⟩ := h
  exact ⟨c, hl.trans hc, hf.of_body hb⟩

theorem State.FitsSheet.congr (h : s.FitsSheet st r) (hb : (t.stack.get st).body = (s.stack.get st).body) : t.FitsSheet st r := by
  have := Stack.Fits.of_body h hb
  rwa [← Stack.limits_of_body hb] at this

/-- Placements that keep their footprint, and whether they are PLACED, on stacks with the same bodies. -/
theorem State.Solid.of_placements (h : s.Solid) (ht : t.dir.types = s.dir.types)
    (hb : ∀ st, (t.stack.get st).body = (s.stack.get st).body)
    (hp : ∀ st, ∀ y ∈ (t.plan.get st).placements, ∃ x ∈ (s.plan.get st).placements,
      y = { x with state := y.state, verdict := y.verdict } ∧ (y.state = .placed ↔ x.state = .placed)) : t.Solid := by
  refine ⟨fun n c hc => h.types n c (by rw [Directory.typeAt, ht] at hc; exact hc), fun st y hy => ?_,
    fun st => (h.law st).of_body (hb st), fun st y hy => ?_⟩
  · obtain ⟨x, hx, he, -⟩ := hp st y hy
    rw [he]
    exact h.sized st x hx
  · obtain ⟨x, hx, he, hs⟩ := hp st y hy
    rw [hs, h.placed st x hx, Stack.caseIds_of_body (hb st), show y.id = x.id by rw [he]]

theorem State.Solid.eases (h : s.Solid) (he : s.Eases t) : t.Solid :=
  h.of_placements he.types he.body fun st y hy =>
    let ⟨x, hx, hxy⟩ := (he.plan st).2 y hy
    ⟨x, hx, hxy.1, hxy.placed_iff⟩

theorem State.Solid.calms (h : s.Solid) (hc : s.Calms t) : t.Solid := h.eases hc.toEases

theorem State.Solid.setJob (h : s.Solid) (o : Option Job) : (s.setJob o).Solid := ⟨h.1, h.2, h.3, h.4⟩

/-- A reservation stays good while the job keeps its target, the stack its body and the plan what is BOUND. -/
theorem State.Reserves.of_holds (h : s.Reserves st) (ht : t.job.map Job.target = s.job.map Job.target)
    (hb : (t.stack.get st).body = (s.stack.get st).body) (hh : (s.plan.get st).Holds (t.plan.get st))
    (hl : ∀ p ∈ (s.plan.get st).placements, p.state = .bound → t.dir.placementLoad p = s.dir.placementLoad p) :
    t.Reserves st := by
  intro j r hj hr
  rw [hj, Option.map_some, eq_comm, Option.map_eq_some_iff] at ht
  obtain ⟨i, hi, hij⟩ := ht
  simp only [Job.target, Prod.mk.injEq] at hij
  obtain ⟨hk, hd, hres⟩ := hij
  have hs : i.station = j.station := by unfold Job.station; rw [hk, hd]
  have ho : s.outstanding st = some r := by
    unfold State.outstanding at hr ⊢
    simp only [hj, hi] at hr ⊢
    rwa [hs, hres]
  obtain ⟨hp, hq⟩ := h i r hi ho
  refine ⟨fun id hkj hdj => ?_, fun hkj => (hq (hk.trans hkj)).congr hb⟩
  obtain ⟨p, hm, rfl, hbd, hf⟩ := hp id (hk.trans hkj) (hd.trans hdj)
  obtain ⟨y, hy, hyp⟩ := hh p hm hbd
  refine ⟨y, hy, by rw [hyp], by rw [hyp]; exact hbd, hf.congr hb ?_⟩
  rw [← hl p hm hbd, hyp]
  rfl

theorem State.Reserves.calms (h : s.Reserves st) (hc : s.Calms t) : t.Reserves st :=
  h.of_holds hc.target (hc.body st) (hc.holds st) fun p _ _ => Directory.placementLoad_congr hc.types p

theorem State.Reserves.of_outstanding (h : s.outstanding st = none) : s.Reserves st := by
  intro j r _ hr
  rw [h] at hr
  cases hr

/-- Verdicts stay good where no other could be made a reservation than before, on a stack with the same body. -/
theorem State.Verdicts.of_loads (h : s.Verdicts st) (hb : (t.stack.get st).body = (s.stack.get st).body)
    (hp : ∀ q r, t.Claimable st q r → ∃ p, s.Claimable st p r ∧ t.dir.placementLoad q = s.dir.placementLoad p)
    (hs : ∀ r, t.ClaimableSheet st r → s.ClaimableSheet st r) : t.Verdicts st := by
  refine ⟨fun q r hq => ?_, fun r hr => (h.2 r (hs r hr)).congr hb⟩
  obtain ⟨p, hc, he⟩ := hp q r hq
  exact (h.1 p r hc).congr hb he

theorem State.Verdicts.mono (h : s.Verdicts st) (ht : t.dir.types = s.dir.types)
    (hb : (t.stack.get st).body = (s.stack.get st).body)
    (hp : ∀ q r, t.Claimable st q r → ∃ p, s.Claimable st p r ∧ q = { p with state := q.state, verdict := q.verdict })
    (hs : ∀ r, t.ClaimableSheet st r → s.ClaimableSheet st r) : t.Verdicts st := by
  refine h.of_loads hb (fun q r hq => ?_) hs
  obtain ⟨p, hc, he⟩ := hp q r hq
  refine ⟨p, hc, ?_⟩
  rw [Directory.placementLoad_congr ht, he]
  rfl

/-- Only plan and stack of the station matter. -/
theorem State.Verdicts.congr (h : s.Verdicts st) (ht : t.dir.types = s.dir.types) (hp : t.plan.get st = s.plan.get st)
    (hk : t.stack.get st = s.stack.get st) : t.Verdicts st :=
  h.mono ht (by rw [hk]) (fun q r hq => ⟨q, by unfold State.Claimable at *; rwa [hp, hk] at hq, rfl⟩)
    fun r hr => by unfold State.ClaimableSheet at *; rwa [hp, hk] at hr

theorem State.Verdicts.of_ground (h : s.Verdicts st) (he : t.ground = s.ground) : t.Verdicts st := by
  simp only [State.ground, Ground.mk.injEq] at he
  exact h.congr he.1 (by rw [he.2.1]) (by rw [he.2.2.1])

theorem State.Verdicts.of_waiting (h : (s.stack.get st).sweep.state = .waiting) : s.Verdicts st :=
  ⟨fun _ _ hc => absurd h hc.1, fun _ hc => absurd h hc.1⟩

end

/-! ### Changes at one station -/

/-- A change of a state that leaves the types, and plan and stack of the other station. -/
structure State.Local (st : StationId) (s t : State) : Prop where
  types : t.dir.types = s.dir.types
  plan : ∀ st', st' ≠ st → t.plan.get st' = s.plan.get st'
  stack : ∀ st', st' ≠ st → t.stack.get st' = s.stack.get st'

section

variable {s t u : State} {st : StationId}

theorem State.Local.of_ground (h : t.ground = s.ground) : s.Local st t := by
  simp only [State.ground, Ground.mk.injEq] at h
  exact ⟨h.1, fun _ _ => by rw [h.2.1], fun _ _ => by rw [h.2.2.1]⟩

theorem State.Local.of_types (ht : t.dir.types = s.dir.types) (hp : t.plan = s.plan) (hk : t.stack = s.stack) : s.Local st t :=
  ⟨ht, fun _ _ => by rw [hp], fun _ _ => by rw [hk]⟩

theorem State.Local.refl (st : StationId) (s : State) : s.Local st s := .of_ground rfl

theorem State.Local.trans (h : s.Local st t) (k : t.Local st u) : s.Local st u :=
  ⟨k.types.trans h.types, fun x hx => (k.plan x hx).trans (h.plan x hx),
    fun x hx => (k.stack x hx).trans (h.stack x hx)⟩

theorem State.Local.setPlan (p : Plan) : s.Local st (s.setPlan st p) :=
  ⟨rfl, fun _ hx => PerStation.get_set_ne _ _ hx, fun _ _ => rfl⟩

theorem State.Local.setStack (k : Stack) : s.Local st (s.setStack st k) :=
  ⟨rfl, fun _ _ => rfl, fun _ hx => PerStation.get_set_ne _ _ hx⟩

theorem State.Local.foldl {α : Type} {f : State → α → State} (hf : ∀ (t : State) a, t.Local st (f t a)) (l : List α) (s : State) :
    s.Local st (l.foldl f s) := by
  induction l generalizing s with
  | nil => exact .refl st s
  | cons a l ih => exact (hf s a).trans (ih _)

/-- The verdicts of the other station. -/
theorem State.Verdicts.local_ne {st' : StationId} (h : s.Verdicts st') (hl : s.Local st t) (hn : st' ≠ st) : t.Verdicts st' :=
  h.congr hl.types (hl.plan st' hn) (hl.stack st' hn)

end

section

variable (s : State) (st : StationId)

theorem State.setSweep_local (w : Sweep) : s.Local st (s.setSweep st w) := .setStack _

theorem State.setVerdict_local (c : Cand) (v : Verdict) : s.Local st (s.setVerdict st c v) := by
  cases c with
  | sheet => exact .setStack _
  | placement id => exact .setPlan _

theorem State.sweepEnd_local : s.Local st (s.sweepEnd st) :=
  (s.setSweep_local st ⟨.idle, []⟩).trans (.of_ground (by simp [State.sweepEnd]))

theorem State.startSweep_local : s.Local st (s.startSweep st) := by
  have hv := State.Local.foldl (st := st) (f := fun s c => s.setVerdict st c .unswept)
    (fun t c => t.setVerdict_local st c .unswept) (s.plan.get st).candidates s
  have hs := hv.trans (State.setSweep_local _ st ⟨.running, (s.plan.get st).candidates⟩)
  unfold State.startSweep
  dsimp only
  split
  exacts [hs.trans (State.sweepEnd_local _ st), hs]

theorem State.sweepTrigger_local : s.Local st (s.sweepTrigger st) := by
  unfold State.sweepTrigger
  split
  exacts [s.setSweep_local st _, s.startSweep_local st]

theorem State.noteVoid_local (id : Nat) : s.Local st (s.noteVoid st id) := by
  unfold State.noteVoid
  split
  exacts [s.setSweep_local st _, .refl st s]

theorem State.walkEnds_local : s.Local st (s.walkEnds st) := by
  unfold State.walkEnds
  split
  next c rest _ =>
    have hv : s.Local st (match s.walkOf st c with
      | some v => s.setVerdict st c v
      | none => s) := by
      split
      exacts [s.setVerdict_local st c _, .refl st s]
    dsimp only
    split
    exacts [hv.trans (State.sweepEnd_local _ st), hv.trans (State.setSweep_local _ st _)]
  next => exact .refl st s

theorem State.layersCut_local : s.Local st (s.layersCut st) := by
  unfold State.layersCut
  dsimp only
  split
  exacts [(State.Local.setPlan _).trans (.setStack _), .setPlan _]

theorem State.examineLayers_local : s.Local st (s.examineLayers st) := by
  rcases s.examineLayers_cases st with ⟨-, h⟩ | ⟨-, u, hu, h⟩ | ⟨-, h⟩
  · rw [h]
    exact .refl st s
  · exact (((s.layersCut_local st).trans (.of_ground hu)).trans (u.sweepTrigger_local st)).trans (.of_ground h)
  · exact (s.layersCut_local st).trans (.of_ground h)

theorem State.setPState_local (id : Nat) (x : PState) : s.Local st (s.setPState st id x) :=
  (State.Local.setPlan ((s.plan.get st).modify id fun q => { q with state := x })).trans
    (.of_ground (by simp [State.setPState]))

theorem State.returnPlacement_local (id : Nat) (b : Bool) : s.Local st (s.returnPlacement st id b) := by
  unfold State.returnPlacement
  (repeat' split)
  · exact (((s.setPState_local st id .pending).trans (State.setPState_local _ st id .void)).trans
      (State.noteVoid_local _ st id)).trans (State.examineLayers_local _ st)
  · exact s.setPState_local st id .pending
  · exact .refl st s
  · exact .refl st s

end

/-! ### Sweeps that start (R58, R59) -/

theorem PerStation.set_set {α : Type} (p : PerStation α) (i : StationId) (v w : α) : (p.set i v).set i w = p.set i w := by
  cases i <;> rfl

/-- The cached verdicts of the placements with given ids are taken away. -/
def Plan.unsweep (p : Plan) (ids : List Nat) : Plan :=
  p.mapPlacements (fun q => if q.id ∈ ids then { q with verdict := .unswept } else q)

theorem Plan.unsweep_nil (p : Plan) : p.unsweep [] = p := by
  simp [Plan.unsweep, Plan.mapPlacements]

theorem Plan.modify_unsweep (p : Plan) (id : Nat) (ids : List Nat) :
    (p.modify id fun q => { q with verdict := .unswept }).unsweep ids = p.unsweep (id :: ids) := by
  simp only [Plan.unsweep, Plan.modify, Plan.mapPlacements, List.map_map, Plan.mk.injEq, and_true]
  refine List.map_congr_left fun l _ => ?_
  simp only [Function.comp_apply, List.map_map, Layer.mk.injEq, true_and, and_true]
  refine List.map_congr_left fun q _ => ?_
  simp only [Function.comp_apply, List.mem_cons]
  by_cases hq : q.id = id
  · simp [hq]
  · simp [hq]

section

variable {s : State} {st : StationId}

theorem State.setVerdicts_eq (ids : List Nat) (s : State) :
    (ids.map Cand.placement).foldl (fun s c => s.setVerdict st c .unswept) s = s.setPlan st ((s.plan.get st).unsweep ids) := by
  induction ids generalizing s with
  | nil =>
    rw [Plan.unsweep_nil, State.setPlan, PerStation.set_get]
    rfl
  | cons id ids ih =>
    rw [List.map_cons, List.foldl_cons, ih, ← Plan.modify_unsweep]
    simp [State.setVerdict, State.setPlan, PerStation.set_set]

/-- A sweep whose working layer waits for its sheet goes through the sheet alone (R57, R59). -/
theorem State.startSweep_of_sheet (h : (s.plan.get st).sheetDue = true) :
    s.startSweep st = (s.setStack st ((s.stack.get st).setSheetVerdict .unswept)).setSweep st ⟨.running, [.sheet]⟩ := by
  simp [State.startSweep, Plan.candidates, h, State.setVerdict]

/-- A sweep over the eligible PENDING placements (R57, R59). -/
theorem State.startSweep_of_places (h : (s.plan.get st).sheetDue = false) :
    s.startSweep st =
      let t := (s.setPlan st ((s.plan.get st).unsweep ((s.plan.get st).eligiblePending.map Placement.id))).setSweep st
        ⟨.running, (s.plan.get st).candidates⟩
      if (s.plan.get st).eligiblePending = [] then t.sweepEnd st else t := by
  have hc : (s.plan.get st).candidates = ((s.plan.get st).eligiblePending.map Placement.id).map Cand.placement := by
    simp [Plan.candidates, h]
  unfold State.startSweep
  dsimp only
  rw [show ((s.plan.get st).candidates).isEmpty = (s.plan.get st).eligiblePending.isEmpty by simp [hc]]
  conv_lhs => rw [hc, State.setVerdicts_eq]
  rw [hc]
  simp

theorem forall₂_exists_of_mem {α β : Type} {R : α → β → Prop} {l : List α} {m : List β} (h : List.Forall₂ R l m) {b : β}
    (hb : b ∈ m) : ∃ a ∈ l, R a b := by
  induction h with
  | nil => cases hb
  | @cons x y _ _ hxy _ ih =>
    rcases hb with _ | ⟨_, hb⟩
    · exact ⟨x, List.mem_cons_self, hxy⟩
    · obtain ⟨a, ha, hab⟩ := ih hb
      exact ⟨a, List.mem_cons_of_mem _ ha, hab⟩

/-- Layers in the same order with the same marks are eligible together (R26). -/
theorem Plan.eligible_forall₂ {p q : Plan} {R : Layer → Layer → Prop}
    (h : List.Forall₂ (fun l m => R l m ∧ m.earlyEff = l.earlyEff ∧ m.sheetDue = l.sheetDue) (p.queue.take 2) (q.queue.take 2)) :
    List.Forall₂ R p.eligible q.eligible ∧ q.sheetDue = p.sheetDue := by
  unfold Plan.eligible Plan.sheetDue
  cases hp : p.queue with
  | nil =>
    cases hq : q.queue with
    | nil => simp
    | cons m ms => simp [hp, hq] at h
  | cons l ls =>
    cases hq : q.queue with
    | nil => simp [hp, hq] at h
    | cons m ms =>
      rw [hp, hq, List.take_succ_cons, List.take_succ_cons, List.forall₂_cons] at h
      obtain ⟨⟨hr, -, hd⟩, ht⟩ := h
      refine ⟨?_, by simpa using hd⟩
      dsimp only
      rw [hd]
      split
      · exact .nil
      · cases ls with
        | nil =>
          cases ms with
          | nil => exact .cons hr .nil
          | cons => simp at ht
        | cons n ns =>
          cases ms with
          | nil => simp at ht
          | cons o os =>
            simp only [List.take_succ_cons, List.take_zero, List.forall₂_cons] at ht
            obtain ⟨⟨hn, he, -⟩, -⟩ := ht
            dsimp only
            rw [he]
            split
            exacts [.cons hr (.cons hn .nil), .cons hr .nil]

theorem Plan.eligible_mapPlacements (p : Plan) (f : Placement → Placement) :
    List.Forall₂ (fun l m : Layer => m.placements = l.placements.map f) p.eligible (p.mapPlacements f).eligible
      ∧ (p.mapPlacements f).sheetDue = p.sheetDue := by
  refine Plan.eligible_forall₂ ?_
  rw [Plan.mapPlacements, ← List.map_take, List.forall₂_map_right_iff]
  exact List.forall₂_same.mpr fun _ _ => ⟨rfl, rfl, rfl⟩

/-- The placements of the eligible layers of a plan whose placements are changed. -/
theorem Plan.mem_eligible_mapPlacements {p : Plan} {f : Placement → Placement} {q : Placement}
    (h : ∃ l ∈ (p.mapPlacements f).eligible, q ∈ l.placements) : ∃ l ∈ p.eligible, ∃ x ∈ l.placements, q = f x := by
  obtain ⟨m, hm, hq⟩ := h
  obtain ⟨l, hl, he⟩ := forall₂_exists_of_mem (Plan.eligible_mapPlacements p f).1 hm
  rw [he] at hq
  obtain ⟨x, hx, rfl⟩ := List.mem_map.mp hq
  exact ⟨l, hl, x, hx, rfl⟩

theorem Plan.eligible_of_sheetDue {p : Plan} (h : p.sheetDue = true) : p.eligible = [] := by
  unfold Plan.sheetDue at h
  unfold Plan.eligible
  cases hq : p.queue with
  | nil => rfl
  | cons l ls =>
    have hd : l.sheetDue = true := by simpa [hq] using h
    simp [hd]

theorem Plan.mem_eligiblePending_iff {p : Plan} {q : Placement} :
    q ∈ p.eligiblePending ↔ (∃ l ∈ p.eligible, q ∈ l.placements) ∧ q.state = .pending := by
  refine ⟨Plan.mem_eligiblePending, fun ⟨⟨l, hl, hq⟩, hs⟩ => ?_⟩
  simpa [Plan.eligiblePending, hs] using ⟨l, hl, hq⟩

/-! ### The verdicts after a sweep has started -/

theorem State.sweepEnd_ground : (s.sweepEnd st).ground = (s.setSweep st ⟨.idle, []⟩).ground := by
  simp [State.sweepEnd]

/-- A station that holds no BOUND placement has no verdict to claim once its sweep has started (R59). -/
theorem State.startSweep_verdicts (hb : ∀ p ∈ (s.plan.get st).placements, p.state ≠ .bound) : (s.startSweep st).Verdicts st := by
  have hpend : ∀ x : Placement, (∃ l ∈ (s.plan.get st).eligible, x ∈ l.placements) → x.live = true → x.state = .pending := by
    rintro x ⟨l, hl, hx⟩ hlive
    rcases (Placement.live_iff x).mp hlive with h | h
    · exact h
    · exact absurd h (hb x (Plan.mem_placements.mpr ⟨l, Plan.eligible_subset _ hl, hx⟩))
  cases hd : (s.plan.get st).sheetDue with
  | true =>
    rw [State.startSweep_of_sheet hd]
    refine ⟨fun p r hc => ?_, fun r hc => ?_⟩
    · obtain ⟨-, ⟨l, hl, -⟩, -⟩ := hc
      change l ∈ (s.plan.get st).eligible at hl
      rw [Plan.eligible_of_sheetDue hd] at hl
      cases hl
    · have hv := hc.2.2
      simp [State.setSweep, Stack.setSheetVerdict] at hv
  | false =>
    rw [State.startSweep_of_places hd]
    have hp : ∀ w, Verdicts ((s.setPlan st ((s.plan.get st).unsweep ((s.plan.get st).eligiblePending.map Placement.id))).setSweep
        st w) st := by
      intro w
      refine ⟨fun p r hc => ?_, fun r hc => ?_⟩
      · obtain ⟨-, hl, hlive, ha⟩ := hc
        simp only [State.setSweep, State.setStack_plan, State.setPlan_plan, PerStation.get_set_same] at hl
        obtain ⟨l, hm, x, hx, rfl⟩ := Plan.mem_eligible_mapPlacements hl
        split at ha
        · cases ha
        next hn =>
          rw [if_neg hn] at hlive
          exact absurd (List.mem_map_of_mem (Plan.mem_eligiblePending_iff.mpr ⟨⟨l, hm, hx⟩, hpend x ⟨l, hm, hx⟩ hlive⟩)) hn
      · have hs := hc.2.1
        simp only [State.setSweep, State.setStack_plan, State.setPlan_plan, PerStation.get_set_same] at hs
        rw [Plan.unsweep, (Plan.eligible_mapPlacements _ _).2, hd] at hs
        cases hs
    dsimp only
    split
    · refine State.Verdicts.of_ground (hp ⟨.idle, []⟩) ?_
      rw [State.sweepEnd_ground]
      simp [State.setSweep, State.setStack, State.ground, PerStation.set_set]
    · exact hp _

/-- Where the law of bindings holds, a trigger leaves no verdict that does not fit (R58, R61). -/
theorem State.BindingLaw.sweepTrigger_verdicts (h : s.BindingLaw) : (s.sweepTrigger st).Verdicts st := by
  unfold State.sweepTrigger
  split
  · exact .of_waiting (by simp [State.setSweep])
  next ho =>
    refine State.startSweep_verdicts fun p hp hb => ?_
    obtain ⟨j, hj, hk, hd, hr⟩ := (h st).2 p hp hb
    simp [State.outstanding, hj, Job.station, hk, hd, hr] at ho

theorem State.Free.startSweep_verdicts (h : s.Free) : (s.startSweep st).Verdicts st :=
  State.startSweep_verdicts (h.unbound st)

/-! ### The verdicts after other changes -/

/-- The sweep of a station that does not wait may go on in any way. -/
theorem State.Verdicts.setSweep (h : s.Verdicts st) (hw : (s.stack.get st).sweep.state ≠ .waiting) (w : Sweep) :
    (s.setSweep st w).Verdicts st := by
  refine h.mono rfl (by simp [State.setSweep, Stack.body]) (fun q r hc => ⟨q, ⟨hw, hc.2⟩, rfl⟩) fun r hc => ⟨hw, hc.2.1, ?_⟩
  have := hc.2.2
  simpa [State.setSweep] using this

theorem State.Verdicts.noteVoid (h : s.Verdicts st) (id : Nat) : (s.noteVoid st id).Verdicts st := by
  unfold State.noteVoid
  split
  next hs => exact h.setSweep (by simp [hs]) _
  next => exact h

theorem State.Verdicts.sweepEnd (h : s.Verdicts st) (hw : (s.stack.get st).sweep.state ≠ .waiting) : (s.sweepEnd st).Verdicts st :=
  (h.setSweep hw _).of_ground State.sweepEnd_ground

/-- Placements whose states change, and none of which is live again. -/
theorem State.Verdicts.mapPlacements (h : s.Verdicts st) {f : Placement → Placement}
    (hf : ∀ x ∈ (s.plan.get st).placements, f x = { x with state := (f x).state } ∧ ((f x).live = true → x.live = true)) :
    (s.setPlan st ((s.plan.get st).mapPlacements f)).Verdicts st := by
  refine h.mono rfl rfl (fun q r hc => ?_) fun r hc => ?_
  · obtain ⟨hw, hl, hlive, ha⟩ := hc
    rw [State.setPlan_plan, PerStation.get_set_same] at hl
    obtain ⟨l, hm, x, hx, rfl⟩ := Plan.mem_eligible_mapPlacements hl
    obtain ⟨he, hx'⟩ := hf x (Plan.mem_placements.mpr ⟨l, Plan.eligible_subset _ hm, hx⟩)
    refine ⟨x, ⟨hw, ⟨l, hm, hx⟩, hx' hlive, ?_⟩, by rw [he]⟩
    rw [he] at ha
    exact ha
  · obtain ⟨hw, hd, ha⟩ := hc
    rw [State.setPlan_plan, PerStation.get_set_same, (Plan.eligible_mapPlacements _ _).2] at hd
    exact ⟨hw, hd, ha⟩

theorem State.Verdicts.setPState (h : s.Verdicts st) {id : Nat} {x : PState}
    (hl : x = .void ∨ ∀ q ∈ (s.plan.get st).placements, q.id = id → q.live = true) : (s.setPState st id x).Verdicts st := by
  have hm : (s.setPlan st ((s.plan.get st).modify id fun q => { q with state := x })).Verdicts st := by
    refine h.mapPlacements fun q hq => ?_
    split
    next he =>
      refine ⟨rfl, fun hlive => ?_⟩
      rcases hl with rfl | hl
      · cases hlive
      · exact hl q hq he
    next => exact ⟨rfl, fun hlive => hlive⟩
  exact hm.of_ground (by simp [State.setPState])

/-- What a walk that admits is about: the sheet of the working layer, or a PENDING placement; and it fits (R42, R60). -/
theorem State.walkOf_fits (hs : s.Solid) {c : Cand} {r : WalkResult} (h : s.walkOf st c = some (.admitted r)) :
    (c = .sheet ∧ s.FitsSheet st r) ∨ ∃ q, c = .placement q.id ∧ (s.plan.get st).find? q.id = some q ∧ s.FitsPlacement st q r := by
  unfold State.walkOf at h
  cases c with
  | sheet =>
    dsimp only at h
    split at h
    · refine .inl ⟨rfl, (hs.law st).walk_fits ?_ ?_ Nat.two_pos (Option.some.inj h)⟩
      all_goals
        unfold sheetLoad
        cases (s.stack.get st).limits.foot <;> decide
    · cases h
  | placement id =>
    dsimp only at h
    split at h
    · cases h
    next q hq =>
      obtain ⟨hm, rfl⟩ := Plan.find?_eq_some hq
      split at h
      · obtain ⟨l, hl, hw⟩ := Option.map_eq_some_iff.mp h
        refine .inr ⟨q, rfl, hq, l, hl, (hs.law st).walk_fits ?_ ?_ ?_ hw⟩
        all_goals
          unfold Directory.placementLoad at hl
          obtain ⟨y, hy, rfl⟩ := Option.map_eq_some_iff.mp hl
        exacts [(hs.sized st q hm).1, (hs.sized st q hm).2, (hs.types _ y hy).2.2]
      · cases h

/-- A verdict that a walk gives is cached. -/
theorem State.Verdicts.setVerdict (h : s.Verdicts st) (hs : s.Solid) (hd : s.DistinctIds) {c : Cand} {v : Verdict}
    (hv : s.walkOf st c = some v) : (s.setVerdict st c v).Verdicts st := by
  cases c with
  | sheet =>
    have hb : ((s.setVerdict st .sheet v).stack.get st).body = (s.stack.get st).body := (s.setVerdict_calms st .sheet v).body st
    have hset : (s.setVerdict st .sheet v).stack.get st = (s.stack.get st).setSheetVerdict v := by simp [State.setVerdict]
    refine ⟨fun q r hc => ?_, fun r hc => ?_⟩
    · refine (h.1 q r ⟨?_, hc.2⟩).congr hb rfl
      have := hc.1
      rwa [hset] at this
    · obtain ⟨-, -, ha⟩ := hc
      rw [hset] at ha
      obtain rfl : v = .admitted r := ha
      rcases State.walkOf_fits hs hv with ⟨-, hf⟩ | ⟨q, hq, -⟩
      · exact hf.congr hb
      · cases hq
  | placement id =>
    refine ⟨fun q r hc => ?_, fun r hc => ?_⟩
    · obtain ⟨hw, hl, hlive, ha⟩ := hc
      simp only [State.setVerdict, State.setPlan_plan, PerStation.get_set_same] at hl
      obtain ⟨l, hm, x, hx, rfl⟩ := Plan.mem_eligible_mapPlacements hl
      split at ha
      next he =>
        subst he
        obtain rfl : v = .admitted r := ha
        rcases State.walkOf_fits hs hv with ⟨hq, -⟩ | ⟨q, hq, hfind, hf⟩
        · cases hq
        · have hxm := Plan.mem_placements.mpr ⟨l, Plan.eligible_subset _ hm, hx⟩
          have hid : x.id = q.id := Cand.placement.inj hq
          rw [← hid, hd.find? hxm] at hfind
          obtain rfl := Option.some.inj hfind
          refine hf.congr rfl ?_
          rw [if_pos rfl]
          rfl
      next he =>
        rw [if_neg he] at hlive ⊢
        exact (h.1 x r ⟨hw, ⟨l, hm, hx⟩, hlive, ha⟩).congr rfl rfl
    · obtain ⟨hw, hdue, ha⟩ := hc
      simp only [State.setVerdict, State.setPlan_plan, PerStation.get_set_same] at hdue
      rw [Plan.modify, (Plan.eligible_mapPlacements _ _).2] at hdue
      exact (h.2 r ⟨hw, hdue, ha⟩).congr rfl

theorem State.setVerdict_sweep (c : Cand) (v : Verdict) : ((s.setVerdict st c v).stack.get st).sweep = (s.stack.get st).sweep := by
  cases c <;> simp [State.setVerdict, Stack.setSheetVerdict]

/-- A walk that ends caches a verdict that fits, or none (R59, R60). -/
theorem State.Verdicts.walkEnds (h : s.Verdicts st) (hs : s.Solid) (hd : s.DistinctIds) : (s.walkEnds st).Verdicts st := by
  unfold State.walkEnds
  split
  next c rest hw =>
    have hrun : (s.stack.get st).sweep.state ≠ .waiting := by simp [hw]
    dsimp only
    cases hv : s.walkOf st c with
    | none =>
      dsimp only
      split
      exacts [h.sweepEnd hrun, h.setSweep hrun _]
    | some v =>
      have hset := h.setVerdict hs hd hv
      rw [← State.setVerdict_sweep c v] at hrun
      dsimp only
      split
      exacts [hset.sweepEnd hrun, hset.setSweep hrun _]
  next => exact h

/-! ### The verdicts after the layers have been examined -/

/-- The examination removes a layer of the first two, and a sweep is triggered; or it leaves the first two as they stand, neither of
them complete (R26, R27). -/
theorem State.BindingLaw.examineLayers_verdicts (hb : s.BindingLaw)
    (h : (∀ l ∈ (s.plan.get st).queue.take 2, l.settle.complete = false) → s.Verdicts st) : (s.examineLayers st).Verdicts st := by
  have hfront := splitQueue_front (s.plan.get st).queue 0
  rcases s.examineLayers_cases st with ⟨he, hx⟩ | ⟨-, u, hu, hx⟩ | ⟨he, hx⟩
  · rw [hx]
    exact h (hfront (by simp [he])).2
  · refine State.Verdicts.of_ground (s := u.sweepTrigger st) ?_ hx
    exact ((hb.calms (s.layersCut_calms st)).calms (.of_ground hu)).sweepTrigger_verdicts
  · obtain ⟨ht, hn⟩ := hfront he
    refine State.Verdicts.of_ground (s := s.layersCut st) ?_ hx
    have hcut : s.layersCut st = s.setPlan st { s.plan.get st with queue := (splitQueue 0 (s.plan.get st).queue).1 } := by
      unfold State.layersCut
      dsimp only
      rw [if_neg]
      simp only [List.any_eq_true, beq_iff_eq, not_exists, not_and]
      intro x hx hz
      have := he x hx
      omega
    rw [hcut]
    have hq := Plan.eligible_forall₂ (p := s.plan.get st)
      (q := { s.plan.get st with queue := (splitQueue 0 (s.plan.get st).queue).1 }) (R := Eq)
      (by dsimp only; rw [ht]; exact List.forall₂_same.mpr fun _ _ => ⟨rfl, rfl, rfl⟩)
    rw [List.forall₂_eq_eq_eq] at hq
    refine (h hn).mono rfl rfl (fun q r hc => ⟨q, ?_, rfl⟩) fun r hc => ?_
    · obtain ⟨hw, hl, hrest⟩ := hc
      rw [State.setPlan_plan, PerStation.get_set_same, ← hq.1] at hl
      exact ⟨hw, hl, hrest⟩
    · obtain ⟨hw, hl, hrest⟩ := hc
      rw [State.setPlan_plan, PerStation.get_set_same, hq.2] at hl
      exact ⟨hw, hl, hrest⟩

/-- A layer that is changed into another: its PENDING placements may be voided, and where that leaves it incomplete its sheet-due
state stays. -/
def Layer.Loosened (l m : Layer) : Prop :=
  l.MayVoid m ∧ m.earlyEff = l.earlyEff ∧ (m.settle.complete = false → m.sheetDue = l.sheetDue)

theorem Layer.Loosened.refl (l : Layer) : l.Loosened l := ⟨.refl l, rfl, fun _ => rfl⟩

theorem forall₂_and_of_mem {α β : Type} {R : α → β → Prop} {P : β → Prop} {l : List α} {m : List β} (h : List.Forall₂ R l m)
    (hm : ∀ b ∈ m, P b) : List.Forall₂ (fun a b => R a b ∧ P b) l m := by
  induction h with
  | nil => exact .nil
  | cons hab _ ih => exact .cons ⟨hab, hm _ List.mem_cons_self⟩ (ih fun b hb => hm b (List.mem_cons_of_mem _ hb))

theorem Layer.MayVoid.exists_of_mem {l m : Layer} (h : l.MayVoid m) {y : Placement} (hy : y ∈ m.placements) :
    ∃ x ∈ l.placements, y = { x with state := y.state } ∧ (y.live = true → x.live = true) := by
  rcases h with h | h
  · exact ⟨y, h ▸ hy, rfl, fun hl => hl⟩
  · rw [h] at hy
    obtain ⟨x, hx, rfl⟩ := List.mem_map.mp hy
    refine ⟨x, hx, ?_, x.voided_eased.live⟩
    unfold Placement.voided
    split <;> rfl

/-- A queue whose layers are changed so has the verdicts of the old one, unless one of its first two layers is complete. -/
theorem State.Verdicts.loosened (h : s.Verdicts st) {p : Plan}
    (hq : List.Forall₂ Layer.Loosened (s.plan.get st).queue p.queue)
    (hf : ∀ l ∈ p.queue.take 2, l.settle.complete = false) : (s.setPlan st p).Verdicts st := by
  have he := Plan.eligible_forall₂ (p := s.plan.get st) (q := p) (R := Layer.MayVoid)
    ((forall₂_and_of_mem (List.forall₂_take 2 hq) hf).imp fun l m hlm => ⟨hlm.1.1, hlm.1.2.1, hlm.1.2.2 hlm.2⟩)
  refine h.mono rfl rfl (fun q r hc => ?_) fun r hc => ?_
  · obtain ⟨hw, ⟨m, hm, hqm⟩, hlive, ha⟩ := hc
    rw [State.setPlan_plan, PerStation.get_set_same] at hm
    obtain ⟨l, hl, hlm⟩ := forall₂_exists_of_mem he.1 hm
    obtain ⟨x, hx, hqx, hxl⟩ := hlm.exists_of_mem hqm
    refine ⟨x, ⟨hw, ⟨l, hl, hx⟩, hxl hlive, ?_⟩, by rw [hqx]⟩
    rw [hqx] at ha
    exact ha
  · obtain ⟨hw, hd, ha⟩ := hc
    rw [State.setPlan_plan, PerStation.get_set_same, he.2] at hd
    exact ⟨hw, hd, ha⟩

theorem State.noteVoid_plan (id : Nat) : (s.noteVoid st id).plan = s.plan := by
  unfold State.noteVoid
  split <;> rfl

theorem State.noteVoids_plan (ids : List Nat) (s : State) : (ids.foldl (fun s id => s.noteVoid st id) s).plan = s.plan := by
  induction ids generalizing s with
  | nil => rfl
  | cons id ids ih => rw [List.foldl_cons, ih, State.noteVoid_plan]

theorem State.Verdicts.noteVoids (ids : List Nat) {s : State} (h : s.Verdicts st) :
    (ids.foldl (fun s id => s.noteVoid st id) s).Verdicts st := by
  induction ids generalizing s with
  | nil => exact h
  | cons id ids ih => exact ih (h.noteVoid id)

/-- A queue whose layers are changed so and then examined. -/
theorem State.BindingLaw.loosened_verdicts (hb : s.BindingLaw) (h : s.Verdicts st) {p : Plan} {ids : List Nat} {u : State}
    (hq : List.Forall₂ Layer.Loosened (s.plan.get st).queue p.queue) (hu : u.ground = (s.setPlan st p).ground) :
    ((ids.foldl (fun s id => s.noteVoid st id) u).examineLayers st).Verdicts st := by
  have hp : u.plan = s.plan.set st p := congrArg Ground.plan hu
  refine State.BindingLaw.examineLayers_verdicts ?_ fun hf => ?_
  · exact ((hb.calms (.setPlan (.voided (hq.imp fun _ _ hlm => hlm.1)))).calms (.of_ground hu)).calms (u.noteVoids_calms st ids)
  · rw [State.noteVoids_plan, hp, PerStation.get_set_same] at hf
    exact ((h.loosened hq hf).of_ground hu).noteVoids ids

theorem Layer.loosened_sheetJob (l : Layer) : l.Loosened { l with sheetJob := false } := ⟨.inl rfl, rfl, fun _ => rfl⟩

theorem Layer.complete_of_not_live {m : Layer} (hd : m.sheetDue = false) (hp : ∀ x ∈ m.placements, x.live = false) :
    m.settle.complete = true := by
  have hs : m.settle = m := by simp [Layer.settle, hd]
  simpa [hs, Layer.complete, hd, Layer.over] using hp

/-- No placement of a layer with nothing in flight is live once its PENDING ones are voided. -/
theorem Layer.voided_not_live {l : Layer} (h : l.inFlight = false) : ∀ x ∈ l.placements.map Placement.voided, x.live = false := by
  simp only [Layer.inFlight, Bool.or_eq_false_iff, List.any_eq_false, beq_iff_eq] at h
  intro y hy
  obtain ⟨x, hx, rfl⟩ := List.mem_map.mp hy
  have hb := h.2 x hx
  unfold Placement.voided Placement.live
  split
  · rfl
  next hn => simp [hn, hb]

/-- A layer with nothing in flight is complete once it is withdrawn (R31). -/
theorem Layer.loosened_withdrawn {l : Layer} (h : l.inFlight = false) : l.Loosened l.withdrawn := by
  refine ⟨.inr rfl, rfl, fun hc => ?_⟩
  rw [Layer.complete_of_not_live rfl (Layer.voided_not_live h)] at hc
  cases hc

/-- A layer whose sheet-due state ABANDON_PLAN clears has nothing in flight, and is complete (R33). -/
theorem Layer.loosened_abandoned (l : Layer) : l.Loosened l.abandoned := by
  refine ⟨.inr rfl, rfl, fun hc => ?_⟩
  cases hf : l.inFlight with
  | true => simp [Layer.abandoned, hf]
  | false =>
    rw [Layer.complete_of_not_live (by simp [Layer.abandoned, hf]) (Layer.voided_not_live hf)] at hc
    cases hc

theorem changeTag_loosened {tag : Nat} {q : List Layer} {l : Layer} (hl : q.find? (fun l => l.tag == tag) = some l)
    (h : l.inFlight = false) : List.Forall₂ Layer.Loosened q (changeTag tag Layer.withdrawn q) := by
  induction q with
  | nil => exact .nil
  | cons m q ih =>
    rw [List.find?_cons] at hl
    unfold changeTag
    split at hl
    next ht =>
      obtain rfl := Option.some.inj hl
      rw [if_pos (beq_iff_eq.mp ht)]
      exact .cons (Layer.loosened_withdrawn h) (List.forall₂_same.mpr fun x _ => .refl x)
    next ht =>
      rw [if_neg (by simpa using ht)]
      exact .cons (.refl m) (ih hl)

end

end Sys2Proof.Machine
end

section
/-! THEOREM. The laws of the stacks are kept by every change of the ground, and so by every step. -/

namespace Sys2Proof.Machine

/-- The law of bindings and the laws of the stacks, part by part. -/
structure State.Sound (s : State) : Prop where
  binding : s.BindingLaw
  solid : s.Solid
  reserves : ∀ st, s.Reserves st
  verdicts : ∀ st, s.Verdicts st

section

variable {s t u : State} {st : StationId}

theorem State.outstanding_of_none (h : ∀ j, s.job = some j → j.station = none ∨ j.reservation = none) : s.outstanding st = none := by
  unfold State.outstanding
  split
  next j hj =>
    split
    next hs =>
      rcases h j hj with hn | hn
      · rw [hn] at hs
        cases hs
      · exact hn
    next => rfl
  next => rfl

/-! ### Changes at a station -/

/-- A calm change at a station keeps everything but the station's verdicts. -/
theorem State.Sound.of_calm (h : s.Sound) (hc : s.Calms t) (hl : s.Local st t) (hv : t.Verdicts st) : t.Sound where
  binding := h.binding.calms hc
  solid := h.solid.calms hc
  reserves st' := (h.reserves st').calms hc
  verdicts st' := by
    rcases eq_or_ne st' st with rfl | hn
    exacts [hv, (h.verdicts st').local_ne hl hn]

theorem State.Sound.of_ground (h : s.Sound) (he : t.ground = s.ground) : t.Sound :=
  h.of_calm (st := .A) (.of_ground he) (.of_ground he) ((h.verdicts .A).of_ground he)

theorem State.Sound.sweepTrigger (h : s.Sound) : (s.sweepTrigger st).Sound :=
  h.of_calm (s.sweepTrigger_calms st) (s.sweepTrigger_local st) h.binding.sweepTrigger_verdicts

theorem State.Sound.walkEnds (h : s.Sound) : (s.walkEnds st).Sound :=
  h.of_calm (s.walkEnds_calms st) (s.walkEnds_local st) ((h.verdicts st).walkEnds h.solid h.binding.distinct)

/-- A queue whose layers are changed and then examined. -/
theorem State.Sound.loosened (h : s.Sound) {p : Plan} {ids : List Nat}
    (hq : List.Forall₂ Layer.Loosened (s.plan.get st).queue p.queue) (hu : u.ground = (s.setPlan st p).ground) :
    ((ids.foldl (fun s id => s.noteVoid st id) u).examineLayers st).Sound :=
  h.of_calm
    (((State.Calms.setPlan (.voided (hq.imp fun _ _ hlm => hlm.1))).trans (.of_ground hu)).trans
      ((u.noteVoids_calms st ids).trans (State.examineLayers_calms _ st)))
    (((State.Local.setPlan p).trans (.of_ground hu)).trans
      ((State.Local.foldl (f := fun (s : State) id => s.noteVoid st id) (fun t id => t.noteVoid_local st id) ids u).trans
        (State.examineLayers_local _ st)))
    (h.binding.loosened_verdicts (h.verdicts st) hq hu)

theorem State.Sound.sheetJobOver (h : s.Sound) : (s.sheetJobOver st).Sound := by
  refine h.loosened (ids := []) ?_ rfl
  rw [List.forall₂_map_right_iff]
  exact List.forall₂_same.mpr fun l _ => l.loosened_sheetJob

theorem State.Sound.voidPlacement {id : Nat} {q : Placement} (h : s.Sound) (hq : (s.plan.get st).find? id = some q)
    (hs : q.state = .pending) : (s.voidPlacement st id).Sound := by
  have hv := ((h.verdicts st).setPState (id := id) (x := .void) (.inl rfl)).noteVoid id
  have he : (s.setPState st id .void).BindingLaw := by
    obtain ⟨hm, rfl⟩ := Plan.find?_eq_some hq
    refine h.binding.eases (s.setPState_eases st (fun x hx he => ?_) (.inr rfl))
    rw [h.binding.distinct.eq_of_id hx hm he]
    simp [Placement.live, hs]
  exact h.of_calm (State.voidPlacement_calms h.binding.distinct hq hs)
    (((s.setPState_local st id .void).trans (State.noteVoid_local _ st id)).trans (State.examineLayers_local _ st))
    (State.BindingLaw.examineLayers_verdicts (he.calms (State.noteVoid_calms _ st id)) fun _ => hv)

/-- Layers in the same order with the same placements and marks have the same verdicts. -/
theorem State.Verdicts.remarked (h : s.Verdicts st) {p : Plan} (hq : List.Forall₂ (fun l m : Layer =>
    m.placements = l.placements ∧ m.earlyEff = l.earlyEff ∧ m.sheetDue = l.sheetDue) (s.plan.get st).queue p.queue) :
    (s.setPlan st p).Verdicts st := by
  have he := Plan.eligible_forall₂ (p := s.plan.get st) (q := p) (List.forall₂_take 2 hq)
  refine h.mono rfl rfl (fun q r hc => ⟨q, ?_, rfl⟩) fun r hc => ?_
  · obtain ⟨hw, ⟨m, hm, hqm⟩, hrest⟩ := hc
    rw [State.setPlan_plan, PerStation.get_set_same] at hm
    obtain ⟨l, hl, hlm⟩ := forall₂_exists_of_mem he.1 hm
    exact ⟨hw, ⟨l, hl, hlm ▸ hqm⟩, hrest⟩
  · obtain ⟨hw, hd, ha⟩ := hc
    rw [State.setPlan_plan, PerStation.get_set_same, he.2] at hd
    exact ⟨hw, hd, ha⟩

theorem State.Sound.closed (h : s.Sound) : (s.setPlan st (s.plan.get st).close).Sound :=
  h.of_calm (.setPlan (.of_placements rfl)) (.setPlan _)
    ((h.verdicts st).remarked (List.forall₂_same.mpr fun _ _ => ⟨rfl, rfl, rfl⟩))

/-! ### The claim given up (R24, R54) -/

theorem State.Sound.returnPlacement_verdicts (h : s.Sound) (id : Nat) (b : Bool) (st' : StationId) :
    (s.returnPlacement st id b).Verdicts st' := by
  rcases eq_or_ne st' st with rfl | hn
  · unfold State.returnPlacement
    split
    next q hq =>
      obtain ⟨hm, rfl⟩ := Plan.find?_eq_some hq
      split
      next hb =>
        have hl : ∀ x ∈ (s.plan.get st').placements, x.id = q.id → x.live = true := by
          intro x hx he
          rw [h.binding.distinct.eq_of_id hx hm he]
          simp [Placement.live, hb]
        have hp := (h.verdicts st').setPState (x := .pending) (.inr hl)
        split
        · have he := h.binding.eases (s.setPState_eases st' hl (.inl rfl))
          refine State.BindingLaw.examineLayers_verdicts ?_ fun _ => (hp.setPState (.inl rfl)).noteVoid _
          refine (he.eases (State.setPState_eases _ st' (fun x hx hxi => ?_) (.inr rfl))).calms (State.noteVoid_calms _ st' _)
          rcases State.setPState_state hx with ⟨hs, -⟩ | ⟨-, hne⟩
          · simp [Placement.live, hs]
          · exact absurd hxi hne
        · exact hp
      next => exact h.verdicts st'
    next => exact h.verdicts st'
  · exact (h.verdicts st').local_ne (s.returnPlacement_local st id b) hn

theorem State.Sound.handBack_verdicts (h : s.Sound) (st' : StationId) : s.handBack.Verdicts st' := by
  unfold State.handBack
  split
  · exact h.verdicts st'
  · split
    exacts [h.returnPlacement_verdicts _ _ st', h.verdicts st']

theorem State.Sound.handBack_solid (h : s.Sound) : s.handBack.Solid :=
  h.solid.eases (State.handBack_eases h.binding.distinct)

/-- A state without a BOUND placement takes any job that holds no reservation for a station. -/
theorem State.Free.sound (hf : s.Free) (hs : s.Solid) (hv : ∀ st, s.Verdicts st)
    (hj : ∀ j, s.job = some j → j.station = none ∨ j.reservation = none) : s.Sound :=
  ⟨hf.bindingLaw, hs, fun _ => .of_outstanding (State.outstanding_of_none hj), hv⟩

theorem State.sweepResume_verdicts (h : s.Free) (hv : ∀ st, s.Verdicts st) (st' : StationId) :
    (s.sweepResume st).Verdicts st' := by
  unfold State.sweepResume
  split
  · rcases eq_or_ne st' st with rfl | hn
    exacts [h.startSweep_verdicts, (hv st').local_ne (s.startSweep_local st) hn]
  · exact hv st'

theorem State.Calms.job_reservation (h : s.Calms t) (hj : ∀ j, s.job = some j → j.reservation = none) :
    ∀ j, t.job = some j → j.reservation = none := by
  intro j hjt
  have ht := h.target
  rw [hjt, Option.map_some, eq_comm, Option.map_eq_some_iff] at ht
  obtain ⟨i, hi, hij⟩ := ht
  simp only [Job.target, Prod.mk.injEq] at hij
  exact hij.2.2 ▸ hj i hi

theorem State.Sound.unclaim (h : s.Sound) : s.handBack.dropReservation.Sound ∧
    ∀ j, s.handBack.dropReservation.job = some j → j.reservation = none := by
  have hf := h.binding.handBack_free
  have hv := h.handBack_verdicts
  have hs := h.handBack_solid
  have hdrop : ∀ j : Job, ∀ i, (s.handBack.setJob (some { j with reservation := none })).job = some i → i.reservation = none := by
    rintro j i hi
    obtain rfl := Option.some.inj hi
    rfl
  unfold State.dropReservation
  split
  next hn =>
    refine ⟨hf.sound hs hv fun j hj => ?_, fun j hj => ?_⟩ <;> simp [hn] at hj
  next j hj =>
    have hset : (s.handBack.setJob (some { j with reservation := none })).Sound :=
      (hf.setJob _).sound (hs.setJob _) (fun st => (hv st).congr rfl rfl rfl) fun i hi => .inr (hdrop j i hi)
    dsimp only
    split
    · exact ⟨hset, hdrop j⟩
    next st _ =>
      have hc := State.sweepResume_calms (s.handBack.setJob (some { j with reservation := none })) st
      have hr := hc.job_reservation (hdrop j)
      exact ⟨((hf.setJob _).calms hc).sound (hset.solid.calms hc) (State.sweepResume_verdicts (hf.setJob _) hset.verdicts)
        fun i hi => .inr (hr i hi), hr⟩

theorem State.Sound.unjob (h : s.Sound) : (s.handBack.setJob none).Sound :=
  (h.binding.handBack_free.setJob _).sound (h.handBack_solid.setJob _) (fun st => (h.handBack_verdicts st).congr rfl rfl rfl)
    fun j hj => by cases hj

theorem State.Sound.putaway {f : Job → Job} (h : s.Sound) (hf : ∀ j, (f j).station = none) :
    (s.handBack.dropReservation.modifyJob f).Sound := by
  have hu := h.unclaim.1
  refine ((State.unclaim_free h.binding).modifyJob f).sound (hu.solid.setJob _)
    (fun st => (hu.verdicts st).congr rfl rfl rfl) fun j hj => .inl ?_
  obtain ⟨i, -, rfl⟩ := Option.map_eq_some_iff.mp hj
  exact hf i

theorem State.Sound.rejob {j k : Job} (h : s.Sound) (hj : s.job = some j) (hs : j.station = none) (hk : k.station = none) :
    (s.setJob (some k)).Sound := by
  have hf : s.Free := h.binding.free fun i hi _ => by
    obtain rfl := Option.some.inj (hj.symm.trans hi)
    exact hs
  refine (hf.setJob _).sound (h.solid.setJob _) (fun st => (h.verdicts st).congr rfl rfl rfl) fun i hi => .inl ?_
  obtain rfl := Option.some.inj hi
  exact hk

/-! ### Commits (R52, R53) -/

/-- A commit ends the reservation and starts the sweep of its station: whatever its queue and stack have become, nothing is asked of
a reservation or of the verdicts of the station. -/
theorem State.Sound.committed (h : s.Sound) (hf : t.Free) (hs : t.Solid) (hl : s.Local st t) :
    (((t.examineLayers st).modifyJob Job.done).startSweep st).Sound := by
  have hc := t.examineLayers_calms st
  have hm : ((t.examineLayers st).modifyJob Job.done).Free := (hf.calms hc).modifyJob _
  have hsweep := State.startSweep_calms ((t.examineLayers st).modifyJob Job.done) st
  have hlocal : s.Local st ((t.examineLayers st).modifyJob Job.done) := hl.trans ((t.examineLayers_local st).trans (.of_types rfl rfl rfl))
  have hres := hsweep.job_reservation (by
    intro j hj
    obtain ⟨i, -, rfl⟩ := Option.map_eq_some_iff.mp hj
    rfl)
  refine (hm.calms hsweep).sound (((hs.calms hc).setJob _).calms hsweep) (fun st' => ?_) fun j hj => .inr (hres j hj)
  rcases eq_or_ne st' st with rfl | hn
  · exact hm.startSweep_verdicts
  · exact (h.verdicts st').local_ne (hlocal.trans (State.startSweep_local _ st)) hn

/-- The reservation of a PLACE job is that of the placement it is to place, which fits (R54). -/
theorem State.Sound.reserved_place {j : Job} {id : Nat} {r : WalkResult} (h : s.Sound) (hj : s.job = some j)
    (hk : j.kind = .place) (hd : j.dest = some (.placement st id)) (hr : j.reservation = some r) {p : Placement}
    (hp : (s.plan.get st).find? id = some p) : p.state = .bound ∧ s.FitsPlacement st p r := by
  have ho : s.outstanding st = some r := by simp [State.outstanding, hj, Job.station, hk, hd, hr]
  obtain ⟨q, hq, rfl, hb, hf⟩ := (h.reserves st j r hj ho).1 id hk hd
  rw [h.binding.distinct.find? hq] at hp
  obtain rfl := Option.some.inj hp
  exact ⟨hb, hf⟩

/-- A case that is committed leaves a stack that meets its laws, and a plan whose placements are PLACED where it carries them. -/
theorem State.Solid.commitCase (h : s.Solid) {p : Placement} {y : CaseType} {r : WalkResult} (n : Nat)
    (hm : p ∈ (s.plan.get st).placements) (hb : p.state = .bound) (hf : s.FitsPlacement st p r)
    (hy : s.dir.typeAt p.type = some y) :
    ((s.setPlan st ((s.plan.get st).modify p.id fun q => { q with state := .placed })).setStack st
      ((s.stack.get st).commit r (caseEntry p y r n))).Solid := by
  obtain ⟨c, hc, hfit⟩ := hf
  have hid : p.id ∉ (s.stack.get st).caseIds := fun hn => by
    rw [← h.placed st p hm, hb] at hn
    cases hn
  have hids : ((s.stack.get st).commit r (caseEntry p y r n)).caseIds = (s.stack.get st).caseIds ++ [p.id] :=
    Stack.commit_caseIds
  refine ⟨h.types, ?_, ?_, fun st' => ?_⟩
  · refine PerStation.forall_set (P := fun _ (q : Plan) => ∀ x ∈ q.placements, 0 < x.cx ∧ 0 < x.cy) s.plan st _ ?_
      fun st' _ => h.sized st'
    rw [Plan.placements_modify]
    intro x hx
    obtain ⟨q, hq, rfl⟩ := List.mem_map.mp hx
    split <;> exact h.sized st q hq
  · exact PerStation.forall_set (P := fun _ (k : Stack) => k.Law) s.stack st _
      ((h.law st).commit (hfit.takes_case hy hc hid n)) fun st' _ => h.law st'
  · rcases eq_or_ne st' st with rfl | hn
    · simp only [State.setStack_plan, State.setPlan_plan, State.setStack_stack, PerStation.get_set_same, hids,
        Plan.placements_modify]
      intro x hx
      obtain ⟨q, hq, rfl⟩ := List.mem_map.mp hx
      split
      next he => simp [he]
      next he => simp [h.placed st' q hq, he]
    · intro x hx
      rw [State.setStack_plan, State.setPlan_plan, PerStation.get_set_ne _ _ hn] at hx
      rw [State.setStack_stack, PerStation.get_set_ne _ _ hn]
      exact h.placed st' x hx

theorem State.Sound.commitCase {j : Job} {id : Nat} {p : Placement} {y : CaseType} {r : WalkResult} {c : ArrivalRec}
    (h : s.Sound) (hj : s.job = some j) (hk : j.kind = .place) (hd : j.dest = some (.placement st id))
    (hr : j.reservation = some r) (hp : (s.plan.get st).find? id = some p) (hy : s.dir.typeAt p.type = some y) :
    (s.commitCase st p y r c).Sound := by
  obtain ⟨hb, hf⟩ := h.reserved_place hj hk hd hr hp
  obtain ⟨hm, rfl⟩ := Plan.find?_eq_some hp
  obtain ⟨u, hu, he⟩ := s.commitCase_eq (st := st) p y r c
  have hfree := ((h.binding.boundOnly hj hd).place h.binding.distinct).setStack st
    ((s.stack.get st).commit r (caseEntry p y r ((c.meas.map Measured.wei).getD 0)))
  have hsolid := h.solid.commitCase ((c.meas.map Measured.wei).getD 0) hm hb hf hy
  rw [he]
  exact h.committed (hfree.calms (.of_ground hu)) (hsolid.calms (.of_ground hu))
    (((State.Local.setPlan _).trans (.setStack _)).trans (.of_ground hu))

theorem State.Sound.commitSheet {j : Job} {r : WalkResult} (h : s.Sound) (hj : s.job = some j) (hk : j.kind = .sheet)
    (hd : j.dest = some (.sheet st)) (hr : j.reservation = some r) : (s.commitSheet st r).Sound := by
  have ho : s.outstanding st = some r := by simp [State.outstanding, hj, Job.station, hk, hd, hr]
  have hfit := (h.reserves st j r hj ho).2 hk
  obtain ⟨u, hu, he⟩ := s.commitSheet_eq (st := st) r
  have hf : s.Free := h.binding.free fun i hi hp => by
    obtain rfl := Option.some.inj (hj.symm.trans hi)
    rw [hk] at hp
    cases hp
  have hplan : (s.setPlan st (s.plan.get st).sheetCommitted).Solid :=
    h.solid.calms (.setPlan (.of_placements (Plan.sheetCommitted_placements _)))
  have hlaw := (h.solid.law st).commit hfit.takes_sheet
  have hids : ((s.stack.get st).commit r (sheetEntry (s.stack.get st).limits.foot r)).caseIds = (s.stack.get st).caseIds :=
    Stack.commit_caseIds.trans (List.append_nil _)
  have hsolid : ((s.setPlan st (s.plan.get st).sheetCommitted).setStack st (((s.stack.get st).commit r
      (sheetEntry (s.stack.get st).limits.foot r)).setSheetVerdict .unswept)).Solid := by
    refine ⟨hplan.types, hplan.sized, ?_, ?_⟩
    · exact PerStation.forall_set (P := fun _ (k : Stack) => k.Law) s.stack st _ (hlaw.of_body rfl) fun st' _ => hplan.law st'
    · refine PerStation.forall_set (P := fun st' (k : Stack) =>
        ∀ x ∈ ((s.setPlan st (s.plan.get st).sheetCommitted).plan.get st').placements, x.state = .placed ↔ x.id ∈ k.caseIds)
        s.stack st _ ?_ fun st' _ => hplan.placed st'
      change ∀ x ∈ (_ : List Placement), x.state = .placed ↔ x.id ∈ ((s.stack.get st).commit r (sheetEntry (s.stack.get st).limits.foot r)).caseIds
      rw [hids]
      exact hplan.placed st
  have hfree := (hf.calms (.setPlan (st := st) (.of_placements (Plan.sheetCommitted_placements _)))).setStack st
    (((s.stack.get st).commit r (sheetEntry (s.stack.get st).limits.foot r)).setSheetVerdict .unswept)
  rw [he]
  exact h.committed (hfree.calms (.of_ground hu)) (hsolid.calms (.of_ground hu))
    (((State.Local.setPlan _).trans (.setStack _)).trans (.of_ground hu))

/-! ### The claim of a choice (R97) -/

theorem State.choice_sheet (h : s.choice = some (.sheet st)) : s.sheetReady st = true := by
  rcases State.choice_cases h with ⟨st', he, -, hr⟩ | hf
  · obtain rfl := Choice.sheet.inj he
    exact hr
  · cases hf

theorem State.admits_sweep (h : s.admits st = true) : (s.stack.get st).sweep.state ≠ .waiting := by
  simp only [State.admits, Bool.and_eq_true, beq_iff_eq] at h
  rw [h.2]
  decide

/-- A reservation is asked only of the station that the job is bound to. -/
theorem State.Reserves.of_station {j : Job} (hj : s.job = some j) (h : j.station ≠ some st) : s.Reserves st :=
  .of_outstanding (by simp [State.outstanding, hj, h])

/-- A job made of a PENDING placement whose verdict fits, the placement becoming BOUND (R97). -/
theorem State.Sound.bind {j : Job} {p : Placement} {r : WalkResult} (h : s.Sound) (hj : s.job = none)
    (hm : p ∈ (s.plan.get st).placements) (hp : p.state = .pending) (hf : s.FitsPlacement st p r) (hk : j.kind = .place)
    (hd : j.dest = some (.placement st p.id)) (hr : j.reservation = some r) :
    ((s.setJob (some j)).setPState st p.id .bound).Sound := by
  have hfree : (s.setJob (some j)).Free := (h.binding.free (by simp [hj])).setJob _
  have hg : ((s.setJob (some j)).setPState st p.id .bound).ground =
      ((s.setJob (some j)).setPlan st ((s.plan.get st).modify p.id fun q => { q with state := .bound })).ground := by
    simp [State.setPState]
  have hst : j.station = some st := by simp [Job.station, hk, hd]
  have hone : ∀ x ∈ (s.plan.get st).placements, x.id = p.id → x = p := fun x hx => h.binding.distinct.eq_of_id hx hm
  refine State.Sound.of_ground ⟨?_, ?_, fun st' => ?_, fun st' => ?_⟩ hg
  · exact (hfree.bind (State.setJob_job ..) hk hd (by rw [hr]; rfl)).calms (.of_ground hg.symm)
  · refine (h.solid.setJob (some j)).of_placements rfl (fun _ => rfl) ?_
    refine PerStation.forall_set (P := fun st' (q : Plan) => ∀ y ∈ q.placements, ∃ x ∈ (s.plan.get st').placements,
      y = { x with state := y.state, verdict := y.verdict } ∧ (y.state = .placed ↔ x.state = .placed)) s.plan st _ ?_
      fun _ _ y hy => ⟨y, hy, rfl, Iff.rfl⟩
    rw [Plan.placements_modify]
    intro y hy
    obtain ⟨x, hx, rfl⟩ := List.mem_map.mp hy
    refine ⟨x, hx, ?_⟩
    split
    next he =>
      obtain rfl := hone x hx he
      simp [hp]
    next => exact ⟨rfl, Iff.rfl⟩
  · rcases eq_or_ne st' st with rfl | hn
    · intro i q hi ho
      obtain rfl : j = i := Option.some.inj hi
      obtain rfl : r = q := by
        simpa [State.outstanding, State.setPlan, State.setJob, hst, hr] using ho
      refine ⟨fun id _ hdi => ⟨{ p with state := .bound }, ?_, ?_, rfl, hf.congr rfl rfl⟩, fun hs => ?_⟩
      · rw [State.setPlan_plan, PerStation.get_set_same, Plan.placements_modify]
        exact List.mem_map.mpr ⟨p, hm, if_pos rfl⟩
      · simpa using hd.symm.trans hdi
      · rw [hk] at hs
        cases hs
    · exact .of_station (j := j) rfl (by rw [hst]; simpa using hn.symm)
  · rcases eq_or_ne st' st with rfl | hn
    · have hv : (s.setJob (some j)).Verdicts st' := (h.verdicts st').congr rfl rfl rfl
      refine hv.mapPlacements fun x hx => ?_
      split
      next he => exact ⟨rfl, fun _ => by rw [hone x hx he, Placement.live, hp]; rfl⟩
      next => exact ⟨rfl, fun hl => hl⟩
    · exact (h.verdicts st').congr rfl (PerStation.get_set_ne _ _ hn) rfl

/-- A job made of a sheet whose verdict fits (R97). -/
theorem State.Sound.claimSheet {j : Job} {r : WalkResult} (h : s.Sound) (hj : s.job = none) (hf : s.FitsSheet st r)
    (hk : j.kind = .sheet) (hd : j.dest = some (.sheet st)) (hr : j.reservation = some r) :
    ((s.setJob (some j)).setPlan st (s.plan.get st).sheetJobMade).Sound := by
  have hst : j.station = some st := by simp [Job.station, hk, hd]
  have hfree : (s.setJob (some j)).Free := (h.binding.free (by simp [hj])).setJob _
  have hc : (s.setJob (some j)).Calms ((s.setJob (some j)).setPlan st (s.plan.get st).sheetJobMade) :=
    .setPlan (.of_placements (Plan.sheetJobMade_placements _))
  refine ⟨(hfree.calms hc).bindingLaw, (h.solid.setJob _).calms hc, fun st' => ?_, fun st' => ?_⟩
  · rcases eq_or_ne st' st with rfl | hn
    · intro i q hi ho
      obtain rfl : j = i := Option.some.inj hi
      obtain rfl : r = q := by
        simpa [State.outstanding, State.setPlan, State.setJob, hst, hr] using ho
      refine ⟨fun id hp => ?_, fun _ => hf.congr rfl⟩
      rw [hk] at hp
      cases hp
    · exact .of_station (j := j) rfl (by rw [hst]; simpa using hn.symm)
  · have hv : (s.setJob (some j)).Verdicts st' := (h.verdicts st').congr rfl rfl rfl
    rcases eq_or_ne st' st with rfl | hn
    · refine hv.remarked ?_
      change List.Forall₂ _ (s.plan.get st').queue (s.plan.get st').sheetJobMade.queue
      unfold Plan.sheetJobMade
      split
      next hq => rw [hq]; exact .nil
      next w rest hq =>
        rw [hq]
        exact .cons ⟨rfl, rfl, rfl⟩ (List.forall₂_same.mpr fun _ _ => ⟨rfl, rfl, rfl⟩)
    · exact hv.congr rfl (PerStation.get_set_ne _ _ hn) rfl

theorem State.Sound.claim {c : Choice} (h : s.Sound) (hj : s.job = none) (hc : s.choice = some c) :
    ((s.setJob (some (s.jobOf c))).claim c).Sound := by
  have hfree : (s.setJob (some (s.jobOf c))).Free := (h.binding.free (by simp [hj])).setJob _
  have hunbound : (s.jobOf c).station = none → (s.setJob (some (s.jobOf c))).Sound := fun hn =>
    hfree.sound (h.solid.setJob _) (fun st => (h.verdicts st).congr rfl rfl rfl) fun i hi => .inl (Option.some.inj hi ▸ hn)
  cases c with
  | place st p x =>
    obtain ⟨hadm, hp, r, hv⟩ := State.choice_place hc
    obtain ⟨⟨l, hl, hpl⟩, hpend⟩ := Plan.mem_eligiblePending hp
    have hfit : s.FitsPlacement st p r :=
      (h.verdicts st).1 p r ⟨State.admits_sweep hadm, ⟨l, hl, hpl⟩, by simp [Placement.live, hpend], hv⟩
    exact h.bind hj (Plan.mem_placements.mpr ⟨l, Plan.eligible_subset _ hl, hpl⟩) hpend hfit rfl rfl
      (by simp [State.jobOf, State.jobTerms, hv])
  | sheet st =>
    obtain ⟨hadm, hdue, r, hv⟩ : s.admits st = true ∧ (s.plan.get st).sheetDue = true
        ∧ ∃ r, (s.stack.get st).sheetVerdict = .admitted r := by
      simpa [State.sheetReady, Verdict.admits_iff, and_assoc] using State.choice_sheet hc
    exact h.claimSheet hj ((h.verdicts st).2 r ⟨State.admits_sweep hadm, hdue, hv⟩) rfl rfl
      (by simp [State.jobOf, State.jobTerms, hv])
  | put | putaway => exact hunbound rfl

/-! ### Stations, types and resets -/

/-- A station with an empty plan has no verdict to claim. -/
theorem State.Verdicts.of_empty (h : (s.plan.get st).queue = []) : s.Verdicts st := by
  refine ⟨fun p r hc => ?_, fun r hc => ?_⟩
  · obtain ⟨-, ⟨l, hl, -⟩, -⟩ := hc
    simp [Plan.eligible, h] at hl
  · have hd := hc.2.1
    simp [Plan.sheetDue, h] at hd

/-- What a station that is cleared leaves of the job: its reservation ends where it is bound to the station (R62). -/
theorem State.vacated_job : ((s.vacated st).job = s.job ∧ ∀ j, s.job = some j → j.station ≠ some st)
    ∨ ∀ j, (s.vacated st).job = some j → j.reservation = none := by
  unfold State.vacated State.endReservation
  split
  next j hj =>
    have hj' : s.job = some j := hj
    split
    next =>
      refine .inr fun i hi => ?_
      obtain rfl := Option.some.inj hi
      rfl
    next hs => exact .inl ⟨rfl, fun i hi => Option.some.inj (hj'.symm.trans hi) ▸ hs⟩
  next hj =>
    have hj' : s.job = none := hj
    exact .inl ⟨rfl, by simp [hj']⟩

theorem State.Sound.vacated (h : s.Sound) : (s.vacated st).Sound := by
  have hplan : (s.vacated st).plan = s.plan.set st .initial := by
    unfold State.vacated State.endReservation
    (repeat' split) <;> rfl
  have hstack : (s.vacated st).stack = s.stack.set st (.bare (s.stack.get st).limits) := by
    unfold State.vacated State.endReservation
    (repeat' split) <;> rfl
  have hdir : (s.vacated st).dir = s.dir := by
    unfold State.vacated State.endReservation
    (repeat' split) <;> rfl
  have hp : ∀ st', st' ≠ st → (s.vacated st).plan.get st' = s.plan.get st' := fun st' hn => by
    rw [hplan, PerStation.get_set_ne _ _ hn]
  have hk : ∀ st', st' ≠ st → (s.vacated st).stack.get st' = s.stack.get st' := fun st' hn => by
    rw [hstack, PerStation.get_set_ne _ _ hn]
  have hq : ((s.vacated st).plan.get st).queue = [] := by rw [hplan, PerStation.get_set_same]; rfl
  have hnone : ∀ x, x ∉ ((s.vacated st).plan.get st).placements := by simp [Plan.placements, hq]
  refine ⟨State.vacated_bindingLaw h.binding, ⟨by rw [hdir]; exact h.solid.types, fun st' => ?_, fun st' => ?_, fun st' => ?_⟩,
    fun st' => ?_, fun st' => ?_⟩
  all_goals rcases eq_or_ne st' st with rfl | hn
  · exact fun x hx => absurd hx (hnone x)
  · rw [hp _ hn]
    exact h.solid.sized st'
  · rw [hstack, PerStation.get_set_same]
    exact Stack.bare_law _
  · rw [hk _ hn]
    exact h.solid.law st'
  · exact fun x hx => absurd hx (hnone x)
  · rw [hp _ hn, hk _ hn]
    exact h.solid.placed st'
  · rcases s.vacated_job (st := st') with ⟨hj, hs⟩ | hr
    · refine .of_outstanding ?_
      unfold State.outstanding
      rw [hj]
      split
      next j hsj => rw [if_neg (hs j hsj)]
      next => rfl
    · exact .of_outstanding (State.outstanding_of_none fun j hj => .inr (hr j hj))
  · rcases s.vacated_job (st := st) with ⟨hj, -⟩ | hr
    · exact (h.reserves st').of_holds (by rw [hj]) (by rw [hk _ hn]) (by rw [hp _ hn]; exact (Plan.Calm.refl _).2)
        fun _ _ _ => by rw [hdir]
    · exact .of_outstanding (State.outstanding_of_none fun j hj => .inr (hr j hj))
  · exact .of_empty hq
  · exact (h.verdicts st').congr (by rw [hdir]) (hp _ hn) (hk _ hn)

/-- A layer that is taken stands behind the layers that were eligible. -/
theorem Plan.eligible_append (p : Plan) (l : Layer) :
    ∀ m ∈ ({ p with queue := p.queue ++ [l] } : Plan).eligible, m = l ∨ m ∈ p.eligible := by
  unfold Plan.eligible
  rcases p.queue with _ | ⟨w, _ | ⟨n, rest⟩⟩
  · dsimp only [List.nil_append]
    split
    exacts [by simp, by simp]
  · dsimp only [List.singleton_append]
    (repeat' split) <;> simp_all
  · dsimp only [List.cons_append]
    intro m hm
    exact .inr hm

/-- A footprint of a type with a size has a cell (R19). -/
theorem footprintOf_pos {y : CaseType} (hl : 0 < y.len) (hw : 0 < y.wid) (r : Turn) :
    0 < (footprintOf y r).1 ∧ 0 < (footprintOf y r).2 := by
  have hc : ∀ n, 0 < n → 0 < ceilDiv n 50 := fun n hn => by unfold ceilDiv; omega
  cases r
  exacts [⟨hc _ hl, hc _ hw⟩, ⟨hc _ hw, hc _ hl⟩]

theorem State.checkPlaces_sized {ps : List Placement} {bs : List PlaceBody}
    (ht : ∀ n y, s.dir.typeAt n = some y → 0 < y.len ∧ 0 < y.wid ∧ 0 < y.hei) (h : s.checkPlaces st [] bs = .ok ps) :
    ∀ p ∈ ps, 0 < p.cx ∧ 0 < p.cy := by
  refine State.checkPlaces_induct (P := fun ps => ∀ p ∈ ps, 0 < p.cx ∧ 0 < p.cy) (by simp) ?_ h
  intro done b p hd hp q hq
  obtain ⟨r, y, -, hy, rfl, -⟩ := State.checkPlace_ok hp
  rcases List.mem_append.mp hq with hq | hq
  · exact hd q hq
  · obtain rfl := List.mem_singleton.mp hq
    obtain ⟨hl, hw, -⟩ := ht _ y hy
    exact footprintOf_pos hl hw r

theorem State.Sound.layerTaken {bs : List PlaceBody} {l : Layer} (h : s.Sound)
    (hc : s.checkPlaces st [] bs = .ok l.placements) : (s.layerTaken st l).Sound := by
  have hsize := State.checkPlaces_sized h.solid.types hc
  have hfresh := (State.checkPlaces_fresh hc).2
  have hplan := s.layerTaken_plan st l
  have hdir : (s.layerTaken st l).dir = s.dir := by unfold State.layerTaken; dsimp only; split <;> rfl
  have hbody : ∀ st', ((s.layerTaken st l).stack.get st').body = (s.stack.get st').body := by
    unfold State.layerTaken
    dsimp only
    split
    · exact PerStation.forall_set (P := fun st' (k : Stack) => k.body = (s.stack.get st').body) s.stack st _ rfl fun _ _ => rfl
    · exact fun _ => rfl
  have hother : s.Local st (s.layerTaken st l) := by
    unfold State.layerTaken
    dsimp only
    split
    exacts [(State.Local.setPlan _).trans (.setStack _), .setPlan _]
  have hpl : Plan.placements { s.plan.get st with queue := (s.plan.get st).queue ++ [l] }
      = (s.plan.get st).placements ++ l.placements := by simp [Plan.placements]
  refine ⟨State.layerTaken_bindingLaw h.binding hc, ⟨by rw [hdir]; exact h.solid.types, ?_,
    fun st' => (h.solid.law st').of_body (hbody st'), fun st' => ?_⟩, fun st' => ?_, fun st' => ?_⟩
  · rw [hplan]
    refine PerStation.forall_set (P := fun _ (q : Plan) => ∀ x ∈ q.placements, 0 < x.cx ∧ 0 < x.cy) s.plan st _ ?_
      fun st' _ => h.solid.sized st'
    rw [hpl]
    exact fun x hx => (List.mem_append.mp hx).elim (h.solid.sized st x) (hsize x)
  · rw [hplan, Stack.caseIds_of_body (hbody st')]
    refine PerStation.forall_set (P := fun st' (q : Plan) => ∀ x ∈ q.placements,
      x.state = .placed ↔ x.id ∈ (s.stack.get st').caseIds) s.plan st _ ?_ (fun st' _ => h.solid.placed st') st'
    rw [hpl]
    intro x hx
    rcases List.mem_append.mp hx with hx | hx
    · exact h.solid.placed st x hx
    · obtain ⟨hp, -, hu⟩ := hfresh x hx
      have hn : x.id ∉ (s.stack.get st).caseIds := fun hm => by
        obtain ⟨i, -, -, hi, -⟩ := Stack.indexOf?_of_mem hm
        simp [State.idInUse, hi] at hu
      simp [hp, hn]
  · refine (h.reserves st').of_holds (by rw [State.layerTaken_job]) (hbody st') ?_ fun _ _ _ => by rw [hdir]
    rw [hplan]
    refine PerStation.forall_set (P := fun st' (q : Plan) => (s.plan.get st').Holds q) s.plan st _ ?_
      (fun st' _ => (Plan.Calm.refl _).2) st'
    exact fun x hx _ => ⟨x, by rw [hpl]; exact List.mem_append_left _ hx, rfl⟩
  · rcases eq_or_ne st' st with rfl | hn
    · have hpg : (s.layerTaken st' l).plan.get st' = { s.plan.get st' with queue := (s.plan.get st').queue ++ [l] } := by
        rw [hplan, PerStation.get_set_same]
      have hsweep : ((s.layerTaken st' l).stack.get st').sweep = (s.stack.get st').sweep := by
        unfold State.layerTaken
        dsimp only
        split
        · simp [Stack.setSheetVerdict]
        · rfl
      refine (h.verdicts st').mono (by rw [hdir]) (hbody st') (fun q r hq => ⟨q, ?_, rfl⟩) fun r hr => ?_
      · obtain ⟨hw, ⟨m, hm, hqm⟩, hlive, ha⟩ := hq
        rw [hpg] at hm
        rcases Plan.eligible_append _ l m hm with rfl | hm
        · rw [(hfresh q hqm).2.1] at ha
          cases ha
        · exact ⟨hsweep ▸ hw, ⟨m, hm, hqm⟩, hlive, ha⟩
      · obtain ⟨hw, hd, ha⟩ := hr
        by_cases hq : (s.plan.get st').queue.length = 0
        · have hv : ((s.layerTaken st' l).stack.get st').sheetVerdict = .unswept := by
            unfold State.layerTaken
            simp [hq, Stack.setSheetVerdict]
          rw [hv] at ha
          cases ha
        · have hst : (s.layerTaken st' l).stack = s.stack := by
            unfold State.layerTaken
            dsimp only
            rw [if_neg hq]
            rfl
          have hdue : (s.plan.get st').sheetDue = true := by
            rw [hpg] at hd
            unfold Plan.sheetDue at hd ⊢
            cases hqq : (s.plan.get st').queue with
            | nil => simp [hqq] at hq
            | cons w rest => simpa [hqq] using hd
          rw [hst] at hw ha
          exact ⟨hw, hdue, ha⟩
    · exact (h.verdicts st').local_ne hother hn

theorem State.Sound.setLimits {l : Limits} (h : s.Sound) (ht : (s.stack.get st).table = []) (ho : s.outstanding st = none)
    (hu : u.ground = (s.setStack st ((s.stack.get st).setLimits l)).ground) : (u.sweepTrigger st).Sound := by
  have hset : (s.setStack st ((s.stack.get st).setLimits l)).BindingLaw := h.binding
  have htable : ((s.stack.get st).setLimits l).table = [] := by
    unfold Stack.setLimits
    split <;> exact ht
  have hids : ∀ k : Stack, k.table = [] → k.caseIds = [] := fun k hk => by simp [Stack.caseIds, hk]
  have hsolid : (s.setStack st ((s.stack.get st).setLimits l)).Solid := by
    refine ⟨h.solid.types, h.solid.sized, ?_, ?_⟩
    · exact PerStation.forall_set (P := fun _ (k : Stack) => k.Law) s.stack st _ ((h.solid.law st).setLimits ht l)
        fun st' _ => h.solid.law st'
    · refine PerStation.forall_set (P := fun st' (k : Stack) =>
        ∀ x ∈ (s.plan.get st').placements, x.state = .placed ↔ x.id ∈ k.caseIds) s.stack st _ ?_ fun st' _ => h.solid.placed st'
      rw [hids _ htable, ← hids _ ht]
      exact h.solid.placed st
  have hc : (s.setStack st ((s.stack.get st).setLimits l)).Calms (u.sweepTrigger st) :=
    (State.Calms.of_ground hu).trans (u.sweepTrigger_calms st)
  refine ⟨hset.calms hc, hsolid.calms hc, fun st' => State.Reserves.calms ?_ hc, fun st' => ?_⟩
  · rcases eq_or_ne st' st with rfl | hn
    · exact .of_outstanding ho
    · exact (h.reserves st').of_holds rfl (by rw [State.setStack_stack, PerStation.get_set_ne _ _ hn]) (Plan.Calm.refl _).2
        fun _ _ _ => rfl
  · rcases eq_or_ne st' st with rfl | hn
    · exact (hset.calms (.of_ground hu)).sweepTrigger_verdicts
    · exact (h.verdicts st').local_ne (((State.Local.setStack _).trans (.of_ground hu)).trans (u.sweepTrigger_local st)) hn

theorem State.Sound.defineType {b : TypeBody} (h : s.Sound) (hb : b.ok = true) (hr : s.referenced b.index = false) :
    (s.setDir { s.dir with types := s.dir.types.setIfInBounds b.index (some b.stored) }).Sound := by
  have htype : ∀ n, n ≠ b.index → (Directory.typeAt { s.dir with types := s.dir.types.setIfInBounds b.index (some b.stored) } n)
      = s.dir.typeAt n := by
    intro n hn
    simp [Directory.typeAt, hn.symm]
  have hlive : ∀ st, ∀ p ∈ (s.plan.get st).placements, p.live = true → p.type ≠ b.index := by
    intro st p hp hl he
    have : s.referenced b.index = true :=
      (s.referenced_iff b.index).mpr (.inl ⟨st, p, hp, (Placement.live_iff p).mp hl, he⟩)
    rw [hr] at this
    cases this
  have hload : ∀ st, ∀ p ∈ (s.plan.get st).placements, p.live = true →
      Directory.placementLoad { s.dir with types := s.dir.types.setIfInBounds b.index (some b.stored) } p
        = s.dir.placementLoad p := fun st p hp hl => by
    unfold Directory.placementLoad
    rw [htype _ (hlive st p hp hl)]
  obtain ⟨-, hlen, -, hwid, -, hhei, -⟩ := (TypeBody.ok_iff b).mp hb
  refine ⟨h.binding, ⟨fun n y hy => ?_, h.solid.sized, h.solid.law, h.solid.placed⟩, fun st => ?_, fun st => ?_⟩
  · by_cases hn : n = b.index
    · obtain rfl : b.stored = y := by
        rw [State.setDir_dir, Directory.typeAt, hn, Vector.getElem?_setIfInBounds, if_pos rfl] at hy
        split at hy
        · exact Option.some.inj hy
        · cases hy
      have hsize : 0 < b.len ∧ 0 < b.wid ∧ 0 < b.hei := by omega
      exact hsize
    · rw [State.setDir_dir, htype n hn] at hy
      exact h.solid.types n y hy
  · exact (h.reserves st).of_holds rfl rfl (Plan.Calm.refl _).2 fun p hp hbd =>
      hload st p hp (by simp [Placement.live, hbd])
  · refine (h.verdicts st).of_loads rfl (fun q r hc => ⟨q, hc, ?_⟩) fun r hc => hc
    obtain ⟨-, ⟨l, hl, hq⟩, hlv, -⟩ := hc
    exact hload st q (Plan.mem_placements.mpr ⟨l, Plan.eligible_subset _ hl, hq⟩) hlv

/-- A state without plans, with bare stacks and without a job meets the laws where its types have sizes. -/
theorem State.Sound.of_bare (hp : s.plan = ⟨.initial, .initial⟩) (hk : ∀ st, s.stack.get st = .bare (s.stack.get st).limits)
    (hj : s.job = none) (ht : ∀ n y, s.dir.typeAt n = some y → 0 < y.len ∧ 0 < y.wid ∧ 0 < y.hei) : s.Sound := by
  have hq : ∀ st, (s.plan.get st).queue = [] := fun st => by rw [hp]; cases st <;> rfl
  have hnone : ∀ st x, x ∉ (s.plan.get st).placements := fun st x => by simp [Plan.placements, hq st]
  have hf : s.Free := ⟨fun st => by simp [Plan.placements, hq st], fun st x hx => absurd hx (hnone st x)⟩
  refine hf.sound ⟨ht, fun st x hx => absurd hx (hnone st x), fun st => ?_, fun st x hx => absurd hx (hnone st x)⟩
    (fun st => .of_empty (hq st)) (by simp [hj])
  rw [hk st]
  exact Stack.bare_law _

theorem Directory.typeAt_initial {d : Directory} (h : d.types = Directory.initial.types) (n : Nat) : d.typeAt n = none := by
  rw [Directory.typeAt, h, Directory.initial, Vector.getElem?_replicate]
  split <;> rfl

theorem State.Sound.reset (h : s.Sound) (hp : u.plan = ⟨.initial, .initial⟩)
    (hk : ∀ st, u.stack.get st = .bare (u.stack.get st).limits) (hj : u.job = none)
    (ht : u.dir.types = s.dir.types ∨ u.dir.types = Directory.initial.types) : u.Sound := by
  refine .of_bare hp hk hj fun n y hy => ?_
  rcases ht with ht | ht
  · exact h.solid.types n y (by rw [Directory.typeAt, ← ht]; exact hy)
  · rw [Directory.typeAt_initial ht] at hy
    cases hy

theorem State.Changes.sound (hc : s.Changes t) (h : s.Sound) : t.Sound := by
  induction hc with
  | refl => exact h
  | keep _ he ih => exact ih.of_ground he
  | sweepTrigger _ ih => exact ih.sweepTrigger
  | walkEnds _ ih => exact ih.walkEnds
  | sheetJobOver _ ih => exact ih.sheetJobOver
  | unclaim _ ih => exact ih.unclaim.1
  | unjob _ ih => exact ih.unjob
  | putaway _ hf ih => exact ih.putaway hf
  | rejob _ hj hs hk ih => exact ih.rejob hj hs hk
  | commitCase _ hj hk hd hr hp hy ih => exact ih.commitCase hj hk hd hr hp hy
  | commitSheet _ hj hk hd hr ih => exact ih.commitSheet hj hk hd hr
  | claim _ hj hc ih => exact ih.claim hj hc
  | vacated _ ih => exact ih.vacated
  | layerTaken _ hc ih => exact ih.layerTaken hc
  | voidPlacement _ hq hs ih => exact ih.voidPlacement hq hs
  | @withdrawn t st tag _ _ _ hl hf ih =>
    exact ih.loosened (p := { t.plan.get st with queue := changeTag tag Layer.withdrawn (t.plan.get st).queue })
      (changeTag_loosened hl hf) (by simp)
  | closed _ ih => exact ih.closed
  | abandoned _ he ih =>
    exact ih.loosened (by rw [List.forall₂_map_right_iff]; exact List.forall₂_same.mpr fun l _ => l.loosened_abandoned) he
  | setLimits _ ht ho he ih => exact ih.setLimits ht ho he
  | defineType _ hb hr ih => exact ih.defineType hb hr
  | reset _ hp hk hj ht ih => exact ih.reset hp hk hj ht

end

/-- Settles O57: every step is a chain of changes of the ground, and each of them keeps the laws of bindings and of the stacks. -/
theorem stackLawsAreKeptByEveryStep : Obligations.StackLawsAreKeptByEveryStep := by
  intro s t hb hs ht
  obtain ⟨hsolid, hr, hv⟩ := s.stackLaw_iff.mp hs
  have h : t.Sound := (step_changes ht).sound ⟨hb, hsolid, hr, hv⟩
  exact t.stackLaw_iff.mpr ⟨h.solid, h.reserves, h.verdicts⟩

end Sys2Proof.Machine
end

section
/-! THEOREM. The state after reset meets the laws, and LOAD_LAYER's checks refuse in their order (R21). -/

namespace Sys2Proof.Machine

/-! ### The reset state -/

theorem State.reset_bounded : State.reset.Bounded :=
  ⟨by decide, by decide, by decide, fun l => by cases l <;> decide, by decide, by decide, by decide,
    fun st => by cases st <;> decide, fun st => by cases st <;> decide⟩

theorem State.reset_sound : State.reset.Sound :=
  .of_bare rfl (fun st => by cases st <;> rfl) rfl fun n y hy => by
    rw [Directory.typeAt_initial (d := State.reset.dir) rfl] at hy
    cases hy

/-- Settles O4: the stores are empty or at their limits, nothing is counted, nothing is GUARD_STOPPED, and plans and stacks are
bare. -/
theorem resetMeetsTheLaws : Obligations.ResetMeetsTheLaws := by
  have hs := State.reset_sound
  refine ⟨State.reset_bounded, ?_, fun h => ?_, hs.binding, (State.stackLaw_iff _).mpr ⟨hs.solid, hs.reserves, hs.verdicts⟩⟩
  · unfold Gripper.LockoutLaw
    decide
  · cases h

/-! ### The checks of one placement (R21) -/

section

variable {s : State} {st : StationId} {done ps : List Placement} {q : PlaceBody} {p : Placement} {r : Turn} {y : CaseType}

theorem Plan.find?_isSome_iff {p : Plan} {id : Nat} : (p.find? id).isSome = true ↔ ∃ q ∈ p.placements, q.id = id := by
  simp [Plan.find?, List.find?_isSome]

theorem State.idInUse_iff {id : Nat} : s.idInUse st id = true ↔ s.IdTaken st id := by
  have hk : ((s.stack.get st).indexOf? id).isSome = true ↔ id ∈ (s.stack.get st).caseIds := by
    by_cases h : id ∈ (s.stack.get st).caseIds
    · obtain ⟨i, -, -, hi, -⟩ := Stack.indexOf?_of_mem h
      simp [h, hi]
    · simp [h, Stack.indexOf?_of_not_mem h]
  rw [State.idInUse, Bool.or_eq_true, Plan.find?_isSome_iff, hk, State.IdTaken]

/-- Footprints that share a cell overlap, and those with cells that overlap share one. -/
theorem Placement.overlaps_of_share {p q : Placement} (h : p.ShareCell q) : p.overlaps q = true := by
  obtain ⟨i, j, h⟩ := h
  simp only [Placement.overlaps, Bool.and_eq_true, decide_eq_true_eq]
  omega

theorem Placement.share_of_overlaps {p q : Placement} (hp : 0 < p.cx ∧ 0 < p.cy) (hq : 0 < q.cx ∧ 0 < q.cy)
    (h : p.overlaps q = true) : p.ShareCell q := by
  simp only [Placement.overlaps, Bool.and_eq_true, decide_eq_true_eq] at h
  exact ⟨max p.i0 q.i0, max p.j0 q.j0, by omega⟩

/-- The record that a placement of a LOAD_LAYER body gets, of a type at a turn (R19, R22). -/
def PlaceBody.placed (q : PlaceBody) (y : CaseType) (r : Turn) : Placement :=
  ⟨q.id, q.type, q.i0, q.j0, r, q.aisle, q.order, q.override, (footprintOf y r).1, (footprintOf y r).2, .pending, .unswept⟩

/-- Check 7 of R21: the fields of a placement are in their ranges. -/
def PlaceBody.InRange (q : PlaceBody) (r : Turn) : Prop :=
  turn? q.turn = some r ∧ q.type < 64 ∧ q.aisle ≤ 99 ∧ ∀ n, q.override = some n → n ≤ 5

theorem PlaceBody.fields_ok {q : PlaceBody} :
    (q.type < Config.typeCount && q.aisle ≤ 99 && q.override.all (fun n => n ≤ 5)) = true
      ↔ q.type < 64 ∧ q.aisle ≤ 99 ∧ ∀ n, q.override = some n → n ≤ 5 := by
  rw [show Config.typeCount = 64 from rfl]
  cases q.override <;> simp [and_assoc]

theorem State.checkPlace_range (h : ∀ r, ¬q.InRange r) : s.checkPlace st done q = .error .range := by
  unfold State.checkPlace
  split
  · rfl
  next r hr =>
    have hn : ¬(q.type < Config.typeCount && q.aisle ≤ 99 && q.override.all (fun n => n ≤ 5)) = true :=
      fun hf => h r ⟨hr, PlaceBody.fields_ok.mp hf⟩
    rw [if_pos (by rw [Bool.not_eq_true] at hn; rw [hn]; rfl)]

section

variable (hq : q.InRange r)
include hq

theorem State.checkPlace_undefined (hy : s.dir.typeAt q.type = none) : s.checkPlace st done q = .error .undefined := by
  obtain ⟨hr, hf⟩ := hq
  simp [State.checkPlace, hr, PlaceBody.fields_ok.mpr hf, hy]

/-- Checks 9 to 11 of R21, of a placement in its ranges with a type that is defined. -/
theorem State.checkPlace_typed (hy : s.dir.typeAt q.type = some y) : s.checkPlace st done q =
    if (s.stack.get st).limits.foot.ni < q.i0 + (footprintOf y r).1 ∨ (s.stack.get st).limits.foot.nj < q.j0 + (footprintOf y r).2
    then .error .outside
    else if s.idInUse st q.id = true ∨ ∃ x ∈ done, x.id = q.id then .error .overlap
    else if ∃ x ∈ done, x.overlaps (q.placed y r) = true then .error .overlap
    else .ok (q.placed y r) := by
  obtain ⟨hr, hf⟩ := hq
  simp only [State.checkPlace, hr, PlaceBody.fields_ok.mpr hf, hy]
  simp [PlaceBody.placed]
  congr

end

/-! ### The checks of a list (R21) -/

theorem PlaceBody.placed_ok {q : PlaceBody} (h : s.PlaceTaken st q p) : ∃ y r, q.InRange r ∧ s.dir.typeAt q.type = some y
    ∧ p = q.placed y r ∧ (0 < p.cx ∧ 0 < p.cy) ∧ p.i0 + p.cx ≤ (s.stack.get st).limits.foot.ni
    ∧ p.j0 + p.cy ≤ (s.stack.get st).limits.foot.nj := by
  obtain ⟨y, r, hr, ht, ha, ho, hy, rfl, hcx, hcy, hi, hj⟩ := h
  refine ⟨y, r, ⟨hr, ht, ha, ho⟩, hy, ?_, ⟨hcx, hcy⟩, hi, hj⟩
  cases r <;> rfl

/-- A placement that passes its checks behind those already taken. -/
theorem State.checkPlace_taken (h : s.PlaceTaken st q p) (hid : ¬s.IdTaken st p.id) (hne : ∀ x ∈ done, x.id ≠ p.id)
    (hsize : ∀ x ∈ done, 0 < x.cx ∧ 0 < x.cy) (hshare : ∀ x ∈ done, ¬x.ShareCell p) : s.checkPlace st done q = .ok p := by
  obtain ⟨y, r, hr, hy, rfl, hp, hi, hj⟩ := PlaceBody.placed_ok h
  rw [State.checkPlace_typed hr hy, if_neg, if_neg, if_neg]
  · rintro ⟨x, hx, ho⟩
    exact hshare x hx (Placement.share_of_overlaps (hsize x hx) hp ho)
  · rintro (hu | ⟨x, hx, he⟩)
    · exact hid (State.idInUse_iff.mp hu)
    · exact hne x hx he
  · simp only [PlaceBody.placed] at hi hj
    omega

/-- A list begins with placements that pass their checks: it goes on with their records taken. -/
theorem State.checkPlaces_append {before rest : List PlaceBody} (hf : List.Forall₂ (s.PlaceTaken st) before ps)
    (hid : ∀ p ∈ ps, ¬s.IdTaken st p.id) (hn : ((done ++ ps).map Placement.id).Nodup)
    (hs : (done ++ ps).Pairwise (fun p q => ¬p.ShareCell q)) (hd : ∀ x ∈ done, 0 < x.cx ∧ 0 < x.cy) :
    s.checkPlaces st done (before ++ rest) = s.checkPlaces st (done ++ ps) rest := by
  induction hf generalizing done with
  | nil => simp
  | @cons q p before ps hqp _ ih =>
    obtain ⟨-, -, -, -, -, hp, -⟩ := PlaceBody.placed_ok hqp
    rw [List.append_cons] at hn hs
    have hne : ∀ x ∈ done, x.id ≠ p.id := by
      have hx := hn
      rw [List.map_append, List.map_append, List.append_assoc, List.nodup_append] at hx
      exact fun x hm => hx.2.2 _ (List.mem_map_of_mem hm) _ (by simp)
    have hsh : ∀ x ∈ done, ¬x.ShareCell p := by
      have hx := hs
      rw [List.append_assoc, List.pairwise_append] at hx
      exact fun x hm => hx.2.2 x hm _ (by simp)
    rw [List.cons_append, State.checkPlaces, State.checkPlace_taken hqp (hid _ List.mem_cons_self) hne hd hsh]
    dsimp only
    rw [ih (fun x hx => hid x (List.mem_cons_of_mem _ hx)) hn hs, List.append_assoc, List.singleton_append]
    intro x hx
    rcases List.mem_append.mp hx with hx | hx
    · exact hd x hx
    · obtain rfl := List.mem_singleton.mp hx
      exact hp

theorem State.PlacesTaken.checkPlaces {qs : List PlaceBody} (h : s.PlacesTaken st qs ps) (rest : List PlaceBody) :
    s.checkPlaces st [] (qs ++ rest) = s.checkPlaces st ps rest := by
  obtain ⟨hf, hid, hn, hs⟩ := h
  exact State.checkPlaces_append hf hid hn hs (by simp)

/-- The first placement of a list that fails a check, with its result and list position. -/
theorem State.PlacesTaken.fails {before after : List PlaceBody} {e : Result} (h : s.PlacesTaken st before ps)
    (hq : s.checkPlace st ps q = .error e) :
    s.checkPlaces st [] (before ++ q :: after) = .error (e, before.length + 1) := by
  rw [h.checkPlaces, State.checkPlaces, hq, h.1.length_eq]

/-- The request that is taken in leaves the checks as they are. -/
theorem State.checkPlaces_of_taken (k : Nat) (tag : Byte) (b : List Byte) (bs : List PlaceBody) (done : List Placement) :
    (s.taken k tag b).checkPlaces st done bs = s.checkPlaces st done bs := by
  induction bs generalizing done with
  | nil => rfl
  | cons q rest ih =>
    rw [State.checkPlaces, State.checkPlaces, show (s.taken k tag b).checkPlace st done q = s.checkPlace st done q from rfl]
    cases s.checkPlace st done q with
    | ok p => exact ih _
    | error e => rfl

/-! ### The request (R21) -/

/-- The state, the tag and the body of a LOAD_LAYER that fits and is not held by its first checks. -/
theorem ownLoadLayer_none {b : List Byte} (h : layerBody? b = none) : ownLoadLayer b s = (s, .code .range) := by
  simp [ownLoadLayer, h, State.refuse]

section

variable {b : List Byte} {v : LayerBody} (hv : layerBody? b = some v)
include hv

theorem ownLoadLayer_count (h : v.count = 0 ∨ 40 < v.count) : ownLoadLayer b s = (s, .code .range) := by
  have hc : within v.count 1 40 = false := by
    simp only [within, Bool.and_eq_false_iff, decide_eq_false_iff_not]
    omega
  simp [ownLoadLayer, hv, hc, State.refuse]

variable (h₁ : 1 ≤ v.count) (h₂ : v.count ≤ 40)
include h₁ h₂

theorem ownLoadLayer_counted : ownLoadLayer b s =
    if (s.stn.get v.st).mode ≠ .plain .idle ∧ (s.stn.get v.st).mode ≠ .plain .building then s.refuse .state
    else if (s.plan.get v.st).closed then s.refuse .state
    else if 12 ≤ (s.plan.get v.st).queue.length then s.refuse .full
    else if (s.plan.get v.st).free < v.count then s.refuse .noRoom
    else
      match s.checkPlaces v.st [] v.places with
      | .error (r, pos) => (s, .layerRefused r pos)
      | .ok ps => (s.takeLayer v.st (v.record ps),
          .layerTaken (s.plan.get v.st).queue.length ((s.plan.get v.st).free - ps.length) (v.record ps).earlyEff) := by
  have hc : within v.count 1 40 = true := by simp [within, h₁, h₂]
  unfold ownLoadLayer
  rw [hv]
  dsimp only
  rw [hc]
  rfl

end

/-- Settles O22: LOAD_LAYER's decision, check by check; behind placements that pass theirs, the checks of the next. -/
theorem loadLayerRefusesInOrder : Obligations.LoadLayerRefusesInOrder := by
  intro s tag b hready hfit
  have hrun : ∀ {e : ReplyBody}, ownLoadLayer b (s.taken 0x10 tag b) = (s.taken 0x10 tag b, e) →
      exec (.loadLayer tag b) s = .next (s.answered 0x10 tag b e) := fun ho => run_request_answered hready rfl hfit rfl ho
  refine ⟨fun hb => hrun (ownLoadLayer_none hb), fun v hv => ⟨fun hc => hrun (ownLoadLayer_count hv hc), fun h₁ h₂ => ?_⟩⟩
  have hown := ownLoadLayer_counted (s := s.taken 0x10 tag b) hv h₁ h₂
  refine ⟨fun hi hb => hrun (hown.trans (if_pos ⟨hi, hb⟩)), fun hm => ?_⟩
  rw [if_neg (by rintro ⟨hi, hb⟩; exact hm.elim hi hb)] at hown
  refine ⟨fun hc => hrun (hown.trans (if_pos hc)), fun hc => ?_⟩
  rw [if_neg (by rw [show (s.taken 0x10 tag b).plan = s.plan from rfl, hc]; decide)] at hown
  refine ⟨fun hl => hrun (hown.trans (if_pos hl)), fun hl => ?_⟩
  rw [if_neg (show ¬12 ≤ ((s.taken 0x10 tag b).plan.get v.st).queue.length from Nat.not_le.mpr hl)] at hown
  refine ⟨fun hfree => hrun (hown.trans (if_pos hfree)), ?_⟩
  have hfails : v.count ≤ (s.plan.get v.st).free → ∀ r pos, s.checkPlaces v.st [] v.places = .error (r, pos) →
      exec (.loadLayer tag b) s = .next (s.answered 0x10 tag b (.layerRefused r pos)) := by
    intro hfree r pos hp
    rw [if_neg (show ¬((s.taken 0x10 tag b).plan.get v.st).free < v.count from Nat.not_lt.mpr hfree),
      State.checkPlaces_of_taken, hp] at hown
    exact hrun hown
  refine ⟨hfails, fun hfree before q after ps hpl hps => ?_⟩
  have hq : ∀ {r : Result}, s.checkPlace v.st ps q = .error r →
      exec (.loadLayer tag b) s = .next (s.answered 0x10 tag b (.layerRefused r (before.length + 1))) :=
    fun he => hfails hfree _ _ (hpl ▸ hps.fails he)
  refine ⟨fun h => hq (State.checkPlace_range fun r hr => ?_), fun r hr ha ho => ⟨fun ht hy => ?_, ?_⟩⟩
  · obtain ⟨hturn, ht, ha, ho⟩ := hr
    rcases h with h | h | h | ⟨n, hn, h⟩
    · omega
    · simp [h] at hturn
    · omega
    · have := ho n hn
      omega
  · exact hq (State.checkPlace_undefined ⟨hr, ht, ha, ho⟩ hy)
  · intro y cx cy ht hy hcx hcy
    have hcheck := State.checkPlace_typed (st := v.st) (done := ps) ⟨hr, ht, ha, ho⟩ hy
    obtain ⟨hx, hy'⟩ : (footprintOf y r).1 = cx ∧ (footprintOf y r).2 = cy := by
      rw [hcx, hcy]
      cases r <;> exact ⟨rfl, rfl⟩
    rw [hx, hy'] at hcheck
    refine ⟨fun hout => hq (hcheck.trans (if_pos hout)), fun hi hj => ?_⟩
    rw [if_neg (by omega)] at hcheck
    refine ⟨fun hid => hq (hcheck.trans (if_pos ?_)), fun hover => hq (hcheck.trans ?_)⟩
    · rwa [State.idInUse_iff]
    · obtain ⟨p, hp, hs⟩ := hover
      have ho : ∃ x ∈ ps, x.overlaps (q.placed y r) = true := ⟨p, hp, Placement.overlaps_of_share (by
        unfold Placement.ShareCell PlaceBody.placed
        dsimp only
        rwa [hx, hy'])⟩
      rw [if_pos ho, ite_self]

end

end Sys2Proof.Machine
end

section
/-! SUPPORT. The operations on one station: what they leave of the other station and of the rest of the cell, and what a sweep that
starts leaves of the plan and the stack (R58, R59). -/

namespace Sys2Proof.Machine

/-! ### What lies outside a station -/

/-- At most the plans, the stacks, the station blocks, the slots, the stall marks, the link and the dispatch event differ. -/
def State.PlansOnly (s u : State) : Prop :=
  u = { s with
    plan := u.plan, stack := u.stack, stn := u.stn, slots := u.slots, stall := u.stall, link := u.link, evalDue := u.evalDue }

theorem State.PlansOnly.trans {s t u : State} (h : s.PlansOnly t) (k : t.PlansOnly u) : s.PlansOnly u := by
  unfold State.PlansOnly at h
  rw [h] at k
  exact k

/-- Such a change that leaves everything of the other station. -/
structure State.Within (st : StationId) (s u : State) : Prop where
  rest : s.PlansOnly u
  plan : ∀ st', st' ≠ st → u.plan.get st' = s.plan.get st'
  stack : ∀ st', st' ≠ st → u.stack.get st' = s.stack.get st'
  stn : ∀ st', st' ≠ st → u.stn.get st' = s.stn.get st'
  stall : ∀ st', st' ≠ st → u.stall.get st' = s.stall.get st'

namespace State.Within

variable {st : StationId} {s t u : State}

theorem refl (st : StationId) (s : State) : s.Within st s := ⟨rfl, fun _ _ => rfl, fun _ _ => rfl, fun _ _ => rfl, fun _ _ => rfl⟩

theorem trans (h : s.Within st t) (k : t.Within st u) : s.Within st u where
  rest := h.rest.trans k.rest
  plan := fun st' hn => (k.plan st' hn).trans (h.plan st' hn)
  stack := fun st' hn => (k.stack st' hn).trans (h.stack st' hn)
  stn := fun st' hn => (k.stn st' hn).trans (h.stn st' hn)
  stall := fun st' hn => (k.stall st' hn).trans (h.stall st' hn)

theorem foldl {α : Type} {f : State → α → State} (hf : ∀ (t : State) a, t.Within st (f t a)) (l : List α) (s : State) :
    s.Within st (l.foldl f s) := by
  induction l generalizing s with
  | nil => exact refl st s
  | cons a l ih => exact (hf s a).trans (ih _)

theorem job (h : s.Within st u) : u.job = s.job := by rw [h.rest]
theorem dir (h : s.Within st u) : u.dir = s.dir := by rw [h.rest]
theorem boundTo (h : s.Within st u) (st' : StationId) : u.boundTo st' = s.boundTo st' := by rw [h.rest]; rfl
theorem outstanding (h : s.Within st u) (st' : StationId) : u.outstanding st' = s.outstanding st' := by rw [h.rest]; rfl

end State.Within

section

variable (s : State) (st : StationId)

theorem State.setPlan_within (p : Plan) : s.Within st (s.setPlan st p) :=
  ⟨rfl, fun _ h => PerStation.get_set_ne _ _ h, fun _ _ => rfl, fun _ _ => rfl, fun _ _ => rfl⟩

theorem State.setStack_within (k : Stack) : s.Within st (s.setStack st k) :=
  ⟨rfl, fun _ _ => rfl, fun _ h => PerStation.get_set_ne _ _ h, fun _ _ => rfl, fun _ _ => rfl⟩

theorem State.setStn_within (n : Station) : s.Within st (s.setStn st n) :=
  ⟨rfl, fun _ _ => rfl, fun _ _ => rfl, fun _ h => PerStation.get_set_ne _ _ h, fun _ _ => rfl⟩

theorem State.setStall_within (b : Bool) : s.Within st (s.setStall st b) :=
  ⟨rfl, fun _ _ => rfl, fun _ _ => rfl, fun _ _ => rfl, fun _ h => PerStation.get_set_ne _ _ h⟩

theorem State.setSlot_within (i : SlotId) (x : Slot) : s.Within st (s.setSlot i x) :=
  ⟨rfl, fun _ _ => rfl, fun _ _ => rfl, fun _ _ => rfl, fun _ _ => rfl⟩

theorem State.report_within (b : ReportBody) : s.Within st (s.report b) :=
  ⟨rfl, fun _ _ => rfl, fun _ _ => rfl, fun _ _ => rfl, fun _ _ => rfl⟩

theorem State.dispatchEvent_within : s.Within st s.dispatchEvent :=
  ⟨rfl, fun _ _ => rfl, fun _ _ => rfl, fun _ _ => rfl, fun _ _ => rfl⟩

theorem State.reschedule_within : s.Within st (s.reschedule st) := by
  unfold State.reschedule
  dsimp only
  split
  · exact s.setStn_within st _
  · exact (s.setStn_within st _).trans (State.report_within _ st _)

theorem State.stallTest_within : s.Within st (s.stallTest st) := by
  unfold State.stallTest
  split
  · exact .refl st s
  · split
    · split
      · exact .refl st s
      · dsimp only
        split
        · exact (s.setStall_within st _).trans (State.report_within _ st _)
        · exact s.setStall_within st _
    · exact s.setStall_within st _

theorem State.stationSet_within (m : Mode) (early : Bool) : s.Within st (s.stationSet st m early) := by
  unfold State.stationSet
  dsimp only
  split
  · exact .refl st s
  · exact ((((s.setStn_within st _).trans (State.report_within _ st _)).trans (State.reschedule_within _ st)).trans
      (State.dispatchEvent_within _ st)).trans (State.stallTest_within _ st)

theorem State.endOfQueue_within : s.Within st (s.endOfQueue st) := by
  unfold State.endOfQueue
  dsimp only
  split
  · exact s.stationSet_within st _ _
  · exact .refl st s

theorem State.setVerdict_within (c : Cand) (v : Verdict) : s.Within st (s.setVerdict st c v) := by
  unfold State.setVerdict
  split
  · exact s.setStack_within st _
  · exact s.setPlan_within st _

theorem State.setSweep_within (w : Sweep) : s.Within st (s.setSweep st w) := s.setStack_within st _

theorem State.sweepEnd_within : s.Within st (s.sweepEnd st) :=
  ((s.setSweep_within st _).trans (State.dispatchEvent_within _ st)).trans (State.stallTest_within _ st)

theorem State.startSweep_within : s.Within st (s.startSweep st) := by
  unfold State.startSweep
  have h := (State.Within.foldl (fun t c => t.setVerdict_within st c .unswept) (s.plan.get st).candidates s).trans
    (State.setSweep_within _ st ⟨.running, (s.plan.get st).candidates⟩)
  dsimp only
  split
  · exact h.trans (State.sweepEnd_within _ st)
  · exact h

theorem State.sweepTrigger_within : s.Within st (s.sweepTrigger st) := by
  unfold State.sweepTrigger
  split
  · exact s.setSweep_within st _
  · exact s.startSweep_within st

theorem State.sweepResume_within : s.Within st (s.sweepResume st) := by
  unfold State.sweepResume
  split
  · exact s.startSweep_within st
  · exact .refl st s

theorem State.returnToBuilding_within : s.Within st (s.returnToBuilding st) :=
  ((s.stationSet_within st _ _).trans (State.sweepTrigger_within _ st)).trans (State.endOfQueue_within _ st)

theorem State.noteVoid_within (id : Nat) : s.Within st (s.noteVoid st id) := by
  unfold State.noteVoid
  split
  · exact s.setSweep_within st _
  · exact .refl st s

theorem State.staleScanSlot_within (i : SlotId) : s.Within st (s.staleScanSlot i) := by
  unfold State.staleScanSlot
  split
  · split
    · split
      · exact .refl st s
      · exact ((s.setSlot_within st i _).trans (State.report_within _ st _)).trans (State.dispatchEvent_within _ st)
    · exact s.setSlot_within st i _
  · exact .refl st s

theorem State.staleScan_within : s.Within st s.staleScan := .foldl (fun t i => t.staleScanSlot_within st i) _ s

theorem State.layerDone_within (l : Layer) : s.Within st (s.layerDone st l) := by
  unfold State.layerDone
  split
  · exact s.report_within st _
  · exact .refl st s

theorem State.layersCut_within : s.Within st (s.layersCut st) := by
  unfold State.layersCut
  dsimp only
  split
  · exact (s.setPlan_within st _).trans (State.setStack_within _ st _)
  · exact s.setPlan_within st _

/-- The layers that are complete have left the queue: reports, schedule and stale scan (R27, R28, R164, R106). -/
def State.layersGone (s : State) (st : StationId) : State :=
  (((splitQueue 0 (s.plan.get st).queue).2.foldl (fun s q => s.layerDone st q.2) (s.layersCut st)).reschedule st).staleScan

/-- The examination of the layers: what follows where some leave (R26, R27, R29). -/
theorem State.examineLayers_eq : s.examineLayers st =
    if (splitQueue 0 (s.plan.get st).queue).2 = [] then s
    else State.endOfQueue (if (splitQueue 0 (s.plan.get st).queue).2.any (fun q => q.1 ≤ 1) then
      (s.layersGone st).sweepTrigger st else s.layersGone st) st := by
  unfold State.examineLayers
  simp only [List.isEmpty_iff]
  rfl

theorem State.layersGone_within : s.Within st (s.layersGone st) :=
  (((s.layersCut_within st).trans (.foldl (fun t _ => t.layerDone_within st _) _ _)).trans
    (State.reschedule_within _ st)).trans (State.staleScan_within _ st)

theorem State.examineLayers_within : s.Within st (s.examineLayers st) := by
  rw [State.examineLayers_eq]
  split
  · exact .refl st s
  · refine State.Within.trans ?_ (State.endOfQueue_within _ st)
    split
    · exact (s.layersGone_within st).trans (State.sweepTrigger_within _ st)
    · exact s.layersGone_within st

theorem State.setPState_within (id : Nat) (x : PState) : s.Within st (s.setPState st id x) :=
  ((s.setPlan_within st _).trans (State.reschedule_within _ st)).trans (State.staleScan_within _ st)

theorem State.voidPlacement_within (id : Nat) : s.Within st (s.voidPlacement st id) :=
  ((s.setPState_within st id _).trans (State.noteVoid_within _ st _)).trans (State.examineLayers_within _ st)

/-! ### The slots and the stations of a sweep -/

@[simp] theorem State.setVerdict_slots (c : Cand) (v : Verdict) : (s.setVerdict st c v).slots = s.slots := by
  cases c <;> rfl

@[simp] theorem State.setVerdict_stn (c : Cand) (v : Verdict) : (s.setVerdict st c v).stn = s.stn := by
  cases c <;> rfl

theorem State.stallTest_slots : (s.stallTest st).slots = s.slots := by rw [State.StationsOnly.stallTest s st]

theorem State.stationSet_slots (m : Mode) (early : Bool) : (s.stationSet st m early).slots = s.slots := by
  rw [State.StationsOnly.stationSet s st m early]

theorem State.setVerdicts_stn (cs : List Cand) (v : Verdict) :
    (cs.foldl (fun s c => s.setVerdict st c v) s).stn = s.stn ∧ (cs.foldl (fun s c => s.setVerdict st c v) s).slots = s.slots := by
  induction cs generalizing s with
  | nil => exact ⟨rfl, rfl⟩
  | cons c cs ih => simpa using ih (s.setVerdict st c v)

/-- A sweep's start touches no station block and no slot. -/
theorem State.startSweep_stn : (s.startSweep st).stn = s.stn ∧ (s.startSweep st).slots = s.slots := by
  obtain ⟨hn, hs⟩ := s.setVerdicts_stn st (s.plan.get st).candidates .unswept
  unfold State.startSweep
  dsimp only
  split
  · simp [State.sweepEnd, State.setSweep, State.stallTest_slots, hn, hs]
  · exact ⟨hn, hs⟩

theorem State.sweepTrigger_stn : (s.sweepTrigger st).stn = s.stn ∧ (s.sweepTrigger st).slots = s.slots := by
  unfold State.sweepTrigger
  split
  · exact ⟨rfl, rfl⟩
  · exact s.startSweep_stn st

theorem State.endOfQueue_slots : (s.endOfQueue st).slots = s.slots := by
  unfold State.endOfQueue
  dsimp only
  split
  · exact s.stationSet_slots st _ _
  · rfl

theorem State.StationsOnly.endOfQueue : s.StationsOnly (s.endOfQueue st) := .ite (State.StationsOnly.stationSet s st _ _) rfl

/-- The state of a station after the end-of-queue event (R29). -/
theorem State.endOfQueue_mode : ((s.endOfQueue st).stn.get st).mode =
    if (s.stn.get st).mode = .plain .building ∧ (s.plan.get st).queue = [] ∧ s.boundTo st = false
      then .plain (if (s.plan.get st).closed then .complete else .idle) else (s.stn.get st).mode := by
  unfold State.endOfQueue
  dsimp only
  split
  · exact s.stationSet_mode st _ _
  · rfl

@[simp] theorem State.stallTest_evalDue : (s.stallTest st).evalDue = s.evalDue := by
  unfold State.stallTest
  dsimp only
  (repeat' split) <;> rfl

theorem State.stationSet_evalDue (m : Mode) (early : Bool) (h : (s.stn.get st).mode ≠ m) :
    (s.stationSet st m early).evalDue = true := by
  unfold State.stationSet
  dsimp only
  rw [if_neg h]
  exact State.stallTest_evalDue _ st

theorem State.endOfQueue_evalDue (h : s.evalDue = true) : (s.endOfQueue st).evalDue = true := by
  unfold State.endOfQueue
  dsimp only
  split
  next hm => exact s.stationSet_evalDue st _ _ (by rw [hm.1]; split <;> simp)
  next => exact h

/-! ### A sweep that starts -/

/-- A station after a trigger of its sweep (R58, R59, R61): the plan but for its verdicts and the stack but for its sweep stay; the
sweep waits while a reservation is outstanding, and otherwise goes over every candidate with the verdicts taken away. -/
structure State.Swept (s u : State) (st : StationId) : Prop where
  closed : (u.plan.get st).closed = (s.plan.get st).closed
  queue : (u.plan.get st).queue.map Layer.unswept = (s.plan.get st).queue.map Layer.unswept
  candidates : (u.plan.get st).candidates = (s.plan.get st).candidates
  stack : u.stack.get st = { s.stack.get st with
    sweep := (u.stack.get st).sweep, sheetVerdict := (u.stack.get st).sheetVerdict }
  waits : s.outstanding st ≠ none → (u.stack.get st).sweep = ⟨.waiting, []⟩
  runs : s.outstanding st = none → (u.stack.get st).sweep = (match (s.plan.get st).candidates with
      | [] => ⟨.idle, []⟩
      | cs => ⟨.running, cs⟩)
    ∧ ((s.plan.get st).sheetDue = true → (u.stack.get st).sheetVerdict = .unswept)
    ∧ ∀ p ∈ (u.plan.get st).eligiblePending, p.verdict = .unswept

end

theorem Layer.unswept_unsweep (l : Layer) (ids : List Nat) : Layer.unswept { l with
    placements := l.placements.map fun q => if q.id ∈ ids then { q with verdict := .unswept } else q } = l.unswept := by
  simp only [Layer.unswept, List.map_map, Layer.mk.injEq, true_and, and_true]
  refine List.map_congr_left fun q _ => ?_
  simp only [Function.comp_apply]
  split <;> rfl

theorem Plan.unsweep_unswept (p : Plan) (ids : List Nat) :
    (p.unsweep ids).queue.map Layer.unswept = p.queue.map Layer.unswept := by
  simp only [Plan.unsweep, Plan.mapPlacements, List.map_map]
  exact List.map_congr_left fun l _ => l.unswept_unsweep ids

/-- A change of placements that keeps their states makes the same change of those that wait. -/
theorem Plan.eligiblePending_mapPlacements (p : Plan) {f : Placement → Placement} (hf : ∀ q, (f q).state = q.state) :
    (p.mapPlacements f).eligiblePending = p.eligiblePending.map f := by
  have he : ((p.mapPlacements f).eligible.map Layer.placements).flatten = ((p.eligible.map Layer.placements).flatten).map f := by
    rw [List.map_flatten, List.map_map]
    refine congrArg List.flatten ?_
    have h := (Plan.eligible_mapPlacements p f).1
    generalize p.eligible = l at h
    generalize (p.mapPlacements f).eligible = m at h
    induction h with
    | nil => rfl
    | cons hx _ ih => simp [hx, ih]
  simp [Plan.eligiblePending, he, List.filter_map, Function.comp_def, hf]

theorem Plan.eligiblePending_unsweep (p : Plan) (ids : List Nat) : (p.unsweep ids).eligiblePending =
    p.eligiblePending.map fun q => if q.id ∈ ids then { q with verdict := .unswept } else q :=
  Plan.eligiblePending_mapPlacements p fun q => by split <;> rfl

theorem Plan.unsweep_candidates (p : Plan) (ids : List Nat) : (p.unsweep ids).candidates = p.candidates := by
  have hs : (p.unsweep ids).sheetDue = p.sheetDue := (Plan.eligible_mapPlacements p _).2
  rw [Plan.candidates, Plan.candidates, hs, Plan.eligiblePending_unsweep, List.map_map]
  congr 1
  exact List.map_congr_left fun q _ => by dsimp only [Function.comp_apply]; split <;> rfl

/-- A sweep over every candidate that may wait takes all their verdicts away (R59). -/
theorem Plan.unsweep_fresh (p : Plan) : ∀ q ∈ (p.unsweep (p.eligiblePending.map Placement.id)).eligiblePending, q.verdict = .unswept := by
  intro q hq
  rw [Plan.eligiblePending_unsweep] at hq
  obtain ⟨x, hx, rfl⟩ := List.mem_map.mp hq
  rw [if_pos (List.mem_map_of_mem hx)]

section

variable {s t u : State} {st : StationId}

/-- A description of a station's sweep speaks of its plan, its stack and the outstanding reservation. -/
theorem State.Swept.congr (h : s.Swept t st) (hp : u.plan.get st = t.plan.get st) (hk : u.stack.get st = t.stack.get st) :
    s.Swept u st where
  closed := by rw [hp]; exact h.closed
  queue := by rw [hp]; exact h.queue
  candidates := by rw [hp]; exact h.candidates
  stack := by rw [hk]; exact h.stack
  waits := by rw [hk]; exact h.waits
  runs := by rw [hp, hk]; exact h.runs

theorem State.Swept.after (h : t.Swept u st) (hp : t.plan.get st = s.plan.get st) (hk : t.stack.get st = s.stack.get st)
    (ho : t.outstanding st = s.outstanding st) : s.Swept u st where
  closed := by rw [← hp]; exact h.closed
  queue := by rw [← hp]; exact h.queue
  candidates := by rw [← hp]; exact h.candidates
  stack := by rw [← hk]; exact h.stack
  waits := by rw [← ho]; exact h.waits
  runs := by rw [← ho, ← hp]; exact h.runs

theorem State.sweepEnd_plan_stack : (s.sweepEnd st).plan = s.plan ∧ (s.sweepEnd st).stack = (s.setSweep st ⟨.idle, []⟩).stack :=
  ⟨(congrArg Ground.plan State.sweepEnd_ground :), (congrArg Ground.stack State.sweepEnd_ground :)⟩

/-- A sweep that starts goes over every candidate (R59). -/
theorem State.startSweep_swept (ho : s.outstanding st = none) : s.Swept (s.startSweep st) st := by
  cases hd : (s.plan.get st).sheetDue with
  | true =>
    have hc : (s.plan.get st).candidates = [.sheet] := by simp [Plan.candidates, hd]
    rw [State.startSweep_of_sheet hd]
    have he : (s.plan.get st).eligiblePending = [] := by simp [Plan.eligiblePending, Plan.eligible_of_sheetDue hd]
    exact ⟨rfl, rfl, rfl, by simp [State.setSweep, Stack.setSheetVerdict], fun h => absurd ho h,
      fun _ => ⟨by simp [State.setSweep, hc], fun _ => by simp [State.setSweep, Stack.setSheetVerdict],
        by simp [State.setSweep, he]⟩⟩
  | false =>
    let p := (s.plan.get st).unsweep ((s.plan.get st).eligiblePending.map Placement.id)
    have hc : (s.plan.get st).eligiblePending = [] ↔ (s.plan.get st).candidates = [] := by simp [Plan.candidates, hd]
    have hp : (s.startSweep st).plan.get st = p
        ∧ (s.startSweep st).stack.get st = { s.stack.get st with
          sweep := match (s.plan.get st).candidates with
            | [] => ⟨.idle, []⟩
            | cs => ⟨.running, cs⟩ } := by
      rw [State.startSweep_of_places hd]
      dsimp only
      split
      next he =>
        rw [State.sweepEnd_plan_stack.1, State.sweepEnd_plan_stack.2, hc.mp he]
        simp [State.setSweep, p]
      next he =>
        cases hl : (s.plan.get st).candidates with
        | nil => exact absurd (hc.mpr hl) he
        | cons c cs => simp [State.setSweep, p]
    obtain ⟨hp, hk⟩ := hp
    refine ⟨by rw [hp]; rfl, by rw [hp]; exact Plan.unsweep_unswept _ _, by rw [hp]; exact Plan.unsweep_candidates _ _, by rw [hk],
      fun h => absurd ho h, fun _ => ⟨by rw [hk], fun h => by simp [hd] at h, ?_⟩⟩
    rw [hp]
    exact Plan.unsweep_fresh _

theorem State.sweepTrigger_swept : s.Swept (s.sweepTrigger st) st := by
  unfold State.sweepTrigger
  split
  next h =>
    have ho : s.outstanding st ≠ none := Option.isSome_iff_ne_none.mp h
    exact ⟨rfl, rfl, rfl, by simp [State.setSweep], fun _ => by simp [State.setSweep], fun h => absurd h ho⟩
  next h => exact State.startSweep_swept (by simpa using h)

/-- A station that returns to BUILDING (R156, R58, R29): its sweep, and its state. -/
theorem State.returnToBuilding_swept : s.Swept (s.returnToBuilding st) st := by
  have hs := State.StationsOnly.stationSet s st (.plain .building) false
  have he := State.StationsOnly.endOfQueue ((s.stationSet st (.plain .building)).sweepTrigger st) st
  exact (State.sweepTrigger_swept.after (congrArg (PerStation.get · st) hs.plan) (congrArg (PerStation.get · st) hs.stack)
    ((s.stationSet_within st _ _).outstanding st)).congr (congrArg (PerStation.get · st) he.plan)
    (congrArg (PerStation.get · st) he.stack)

theorem State.Swept.queue_nil (h : s.Swept u st) : (u.plan.get st).queue = [] ↔ (s.plan.get st).queue = [] := by
  rw [← List.map_eq_nil_iff, h.queue, List.map_eq_nil_iff]

theorem State.returnToBuilding_mode : ((s.returnToBuilding st).stn.get st).mode =
    if (s.plan.get st).queue = [] ∧ s.boundTo st = false then .plain (if (s.plan.get st).closed then .complete else .idle)
    else .plain .building := by
  have hs := State.StationsOnly.stationSet s st (.plain .building) false
  have hw := (s.stationSet_within st (.plain .building) false).trans (State.sweepTrigger_within _ st)
  have hq : s.Swept ((s.stationSet st (.plain .building)).sweepTrigger st) st :=
    State.sweepTrigger_swept.after (congrArg (PerStation.get · st) hs.plan) (congrArg (PerStation.get · st) hs.stack)
      ((s.stationSet_within st _ _).outstanding st)
  have hm : ((((s.stationSet st (.plain .building)).sweepTrigger st).stn).get st).mode = .plain .building := by
    rw [(State.sweepTrigger_stn _ st).1]
    exact s.stationSet_mode st _ _
  unfold State.returnToBuilding
  rw [State.endOfQueue_mode, hm, hw.boundTo, hq.closed]
  simp [hq.queue_nil]

theorem State.returnToBuilding_slots : (s.returnToBuilding st).slots = s.slots := by
  rw [State.returnToBuilding, State.endOfQueue_slots, (State.sweepTrigger_stn _ st).2, State.stationSet_slots]

end

/-! ### A request with an effect -/

/-- A state with the request side of the link, as far as requests pass through it, that of another. -/
def State.relinked (v s : State) : State :=
  { v with link := { v.link with framer := s.link.framer, backlog := s.link.backlog } }

section

variable {s v : State} {kind : Nat} {tag : Byte} {body : List Byte} {owner : State → State × ReplyBody} {b : ReplyBody}

/-- A request whose owner leaves the queue, the inputs, the settings and the request side of the link: its effect, with the reply
formed. -/
theorem run_request_effect (h : s.link.Ready) (hk : isRequestKind kind = true) (hfit : bodyFits kind body = true)
    (hl : lockedKind kind = false) (ho : owner (s.taken kind tag body) = (v, b)) (hx : v.fixed = (s.taken kind tag body).fixed) :
    run (fun s => s.request kind tag body owner) s = .next ((v.relinked s).replied kind tag body b).settle :=
  run_request_owner s kind tag body _ owner h hk hfit (.inl hl) ho (congrArg Fixed.framer hx) (congrArg Fixed.backlog hx)

end

end Sys2Proof.Machine
end

section
/-! THEOREM. SET_SHEETS stores the count and ends the holds for sheets (R90, R158). -/

namespace Sys2Proof.Machine

section

variable {s t : State} {st : StationId}

/-- A station HELD for sheets returns to BUILDING, and any other stays as it is (R158). -/
theorem State.sheetsIn_within (s : State) (st : StationId) : s.Within st (s.sheetsIn st) := by
  unfold State.sheetsIn
  split
  · exact s.returnToBuilding_within st
  · exact .refl st s

theorem State.sheetsIn_of_ne (h : (s.stn.get st).mode ≠ .plain (.held .sheetsOut)) : s.sheetsIn st = s := if_neg h

theorem State.sheetsIn_slots (s : State) (st : StationId) : (s.sheetsIn st).slots = s.slots := by
  unfold State.sheetsIn
  split
  · exact State.returnToBuilding_slots
  · rfl

/-- What the return of one station leaves of it, said of a state that agrees about that station. -/
theorem State.sheetsIn_returns (hm : (t.stn.get st).mode = .plain (.held .sheetsOut)) :
    t.Swept (t.sheetsIn st) st ∧ ((t.sheetsIn st).stn.get st).mode =
      if (t.plan.get st).queue = [] ∧ t.boundTo st = false then .plain (if (t.plan.get st).closed then .complete else .idle)
      else .plain .building := by
  unfold State.sheetsIn
  rw [if_pos hm]
  exact ⟨State.returnToBuilding_swept, State.returnToBuilding_mode⟩

end

/-- The holds for sheets of both stations end, A's first: each station as if the other were not there. -/
theorem State.sheetsIn_all (t : State) :
    t.PlansOnly (allStations.foldl State.sheetsIn t) ∧ (allStations.foldl State.sheetsIn t).slots = t.slots
      ∧ (allStations.foldl State.sheetsIn t).fixed = t.fixed
      ∧ ∀ st, ∃ v w : State, (v.plan.get st = t.plan.get st ∧ v.stack.get st = t.stack.get st ∧ v.stn.get st = t.stn.get st
          ∧ v.boundTo st = t.boundTo st ∧ v.outstanding st = t.outstanding st) ∧ w = v.sheetsIn st
        ∧ (allStations.foldl State.sheetsIn t).plan.get st = w.plan.get st
        ∧ (allStations.foldl State.sheetsIn t).stack.get st = w.stack.get st
        ∧ (allStations.foldl State.sheetsIn t).stn.get st = w.stn.get st := by
  have ha := t.sheetsIn_within .A
  have hb := (t.sheetsIn .A).sheetsIn_within .B
  change t.PlansOnly ((t.sheetsIn .A).sheetsIn .B) ∧ _
  refine ⟨ha.rest.trans hb.rest, ?_, ?_, fun st => ?_⟩
  · exact ((t.sheetsIn .A).sheetsIn_slots .B).trans (t.sheetsIn_slots .A)
  · exact ((t.sheetsIn .A).sheetsIn_fixed .B).trans (t.sheetsIn_fixed .A)
  · cases st with
    | A =>
      exact ⟨t, _, ⟨rfl, rfl, rfl, rfl, rfl⟩, rfl, hb.plan .A (by simp), hb.stack .A (by simp), hb.stn .A (by simp)⟩
    | B =>
      exact ⟨t.sheetsIn .A, _, ⟨ha.plan .B (by simp), ha.stack .B (by simp), ha.stn .B (by simp), ha.boundTo .B, ha.outstanding .B⟩,
        rfl, rfl, rfl, rfl⟩

/-- Settles O26: each station is returned on its own, and the sweep of one that is not HELD for sheets is not touched. -/
theorem setSheetsStoresTheCountAndEndsHolds : Obligations.SetSheetsStoresTheCountAndEndsHolds := by
  intro s tag b h hb
  have hfit : bodyFits 0x15 b = true := bodyFits_of_length hb (by decide)
  refine ⟨fun hn => ?_, fun hn hm => ?_, fun hn h1 => ?_⟩
  · exact run_request_answered h rfl hfit rfl (if_pos hn)
  · have ho : ownSetSheets b (s.taken 0x15 tag b) = ((s.taken 0x15 tag b).setMagazine (u8 b 0), .sheetsStored (u8 b 0)) := by
      unfold ownSetSheets
      dsimp only
      rw [if_neg (by simpa [Config.magazineMax] using hn)]
      rcases hm with hm | hm
      · rw [if_pos hm]
      · have hs (st : StationId) : ((s.taken 0x15 tag b).setMagazine (u8 b 0)).sheetsIn st
            = (s.taken 0x15 tag b).setMagazine (u8 b 0) := State.sheetsIn_of_ne (hm st)
        simp [allStations, hs]
    refine (run_request_effect h rfl hfit rfl ho rfl).trans ?_
    rw [State.settle_ended _ rfl rfl]
    rfl
  · obtain ⟨hr, hs, hx, hst⟩ := ((s.taken 0x15 tag b).setMagazine (u8 b 0)).sheetsIn_all
    have ho : ownSetSheets b (s.taken 0x15 tag b)
        = (allStations.foldl State.sheetsIn ((s.taken 0x15 tag b).setMagazine (u8 b 0)), .sheetsStored (u8 b 0)) := by
      unfold ownSetSheets
      dsimp only
      rw [if_neg (by simpa [Config.magazineMax] using hn), if_neg (by omega)]
    refine ⟨_, run_request_effect h rfl hfit rfl ho hx, ?_, fun st => ?_⟩
    · have hu := hr
      unfold State.PlansOnly at hu
      rw [hs] at hu
      exact congrArg (fun v : State => v.relinked s) hu
    · obtain ⟨v, w, ⟨hp, hk, hn, hbd, hou⟩, rfl, ep, ek, en⟩ := hst st
      constructor
      · intro hm
        obtain ⟨hsw, hmode⟩ := State.sheetsIn_returns (t := v) (st := st) (by rw [hn]; exact hm)
        have hu : s.Swept ((allStations.foldl State.sheetsIn ((s.taken 0x15 tag b).setMagazine (u8 b 0))).relinked s) st :=
          State.Swept.after (s := s) (hsw.congr (u := State.relinked _ s) ep ek) hp hk hou
        refine ⟨?_, hu.closed, hu.queue, hu.stack, hu.waits, hu.runs⟩
        exact (congrArg Station.mode en).trans (by rw [hmode, hp, hbd]; rfl)
      · intro hm
        have hv : v.sheetsIn st = v := State.sheetsIn_of_ne (by rw [hn]; exact hm)
        exact ⟨(en.trans (by rw [hv])).trans hn, (ep.trans (by rw [hv])).trans hp, (ek.trans (by rw [hv])).trans hk⟩

end Sys2Proof.Machine
end

section
/-! THEOREM. LOAD_LAYER puts the layer at the tail of the queue (R15 to R22, R26). -/

namespace Sys2Proof.Machine

section

variable {s : State} {st : StationId} {l : Layer}

/-- A layer taken, up to the eligibility change: the schedule, the stale scan, the dispatch event and the station's state (R22). -/
def State.layerEntered (s : State) (st : StationId) (l : Layer) : State :=
  let t := ((((s.layerTaken st l).reschedule st).staleScan).dispatchEvent).awaitLayer l
  if (t.stn.get st).mode = .plain .idle then t.stationSet st (.plain .building) else t

theorem State.takeLayer_eq (s : State) (st : StationId) (l : Layer) : s.takeLayer st l =
    if (s.plan.get st).queue.length = 0 ∨ ((s.plan.get st).queue.length = 1 ∧ l.earlyEff = true)
      then (s.layerEntered st l).sweepTrigger st else s.layerEntered st l := rfl

theorem State.layerTaken_within (s : State) (st : StationId) (l : Layer) : s.Within st (s.layerTaken st l) := by
  unfold State.layerTaken
  dsimp only
  split
  · exact (s.setPlan_within st _).trans (State.setStack_within _ st _)
  · exact s.setPlan_within st _

theorem State.layerTaken_stack : (s.layerTaken st l).stack.get st = { s.stack.get st with
    sheetVerdict := if (s.plan.get st).queue.length = 0 then .unswept else (s.stack.get st).sheetVerdict } := by
  unfold State.layerTaken
  dsimp only
  split
  · simp [Stack.setSheetVerdict]
  · rfl

/-- A layer that a waiting job may choose marks the destination event, and that alone (R103). -/
theorem State.awaitLayer_eq (s : State) (l : Layer) : s.awaitLayer l = { s with awaitDue := (s.awaitLayer l).awaitDue } := by
  unfold State.awaitLayer
  split
  · split <;> rfl
  · rfl

theorem State.awaitLayer_stn (s : State) (l : Layer) : (s.awaitLayer l).stn = s.stn := by rw [State.awaitLayer_eq]
theorem State.awaitLayer_evalDue (s : State) (l : Layer) : (s.awaitLayer l).evalDue = s.evalDue := by rw [State.awaitLayer_eq]

theorem State.awaitLayer_plan (s : State) (l : Layer) : (s.awaitLayer l).plan = s.plan := by rw [State.awaitLayer_eq]
theorem State.awaitLayer_stack (s : State) (l : Layer) : (s.awaitLayer l).stack = s.stack := by rw [State.awaitLayer_eq]
theorem State.awaitLayer_job (s : State) (l : Layer) : (s.awaitLayer l).job = s.job := by rw [State.awaitLayer_eq]

theorem State.outstanding_of_job {s t : State} (h : t.job = s.job) (st : StationId) : t.outstanding st = s.outstanding st := by
  unfold State.outstanding
  rw [h]

/-- A layer taken, up to its schedule and its stale scan. -/
def State.layerScanned (s : State) (st : StationId) (l : Layer) : State :=
  (((s.layerTaken st l).reschedule st).staleScan).dispatchEvent

theorem State.layerScanned_within (s : State) (st : StationId) (l : Layer) : s.Within st (s.layerScanned st l) :=
  (((s.layerTaken_within st l).trans (State.reschedule_within _ st)).trans (State.staleScan_within _ st)).trans
    (State.dispatchEvent_within _ st)

theorem State.layerScanned_ground : (s.layerScanned st l).ground = (s.layerTaken st l).ground := by
  simp [State.layerScanned]

theorem State.layerScanned_modes (st' : StationId) : ((s.layerScanned st l).stn.get st').mode = (s.stn.get st').mode := by
  have hn : (s.layerTaken st l).stn = s.stn := by
    unfold State.layerTaken
    dsimp only
    split <;> rfl
  rw [State.layerScanned, State.dispatchEvent_stn, (State.staleScan_keeps _).stn, State.reschedule_modes, hn]

theorem State.layerScanned_evalDue : (s.layerScanned st l).evalDue = true := rfl

theorem State.layerEntered_eq : s.layerEntered st l =
    if (((s.layerScanned st l).awaitLayer l).stn.get st).mode = .plain .idle
      then ((s.layerScanned st l).awaitLayer l).stationSet st (.plain .building) else (s.layerScanned st l).awaitLayer l := rfl

/-- The station of a layer taken, from the state before the choice of a waiting job. -/
theorem State.layerEntered_within : ((s.layerScanned st l).awaitLayer l).Within st (s.layerEntered st l) := by
  rw [State.layerEntered_eq]
  split
  · exact State.stationSet_within _ st _ _
  · exact .refl st _

theorem State.takeLayer_within : (s.layerEntered st l).Within st (s.takeLayer st l) := by
  rw [State.takeLayer_eq]
  split
  · exact State.sweepTrigger_within _ st
  · exact .refl st _

theorem State.layerEntered_ground : (s.layerEntered st l).ground = (s.layerTaken st l).ground := by
  have h : ((s.layerScanned st l).awaitLayer l).ground = (s.layerTaken st l).ground :=
    (State.awaitLayer_ground _ l).trans State.layerScanned_ground
  rw [State.layerEntered_eq]
  split
  · exact (State.stationSet_ground _ st _ _).trans h
  · exact h

/-- A station that takes a layer is BUILDING (R22). -/
theorem State.layerEntered_mode (hm : (s.stn.get st).mode = .plain .idle ∨ (s.stn.get st).mode = .plain .building) :
    ((s.layerEntered st l).stn.get st).mode = .plain .building := by
  have hs : (((s.layerScanned st l).awaitLayer l).stn.get st).mode = (s.stn.get st).mode := by
    rw [State.awaitLayer_stn, State.layerScanned_modes]
  rw [State.layerEntered_eq]
  split
  · exact State.stationSet_mode _ st _ _
  next hn => exact hs.trans (hm.resolve_left fun h => hn (hs.trans h))

theorem State.layerEntered_evalDue : (s.layerEntered st l).evalDue = true := by
  rw [State.layerEntered_eq]
  split
  next h => exact State.stationSet_evalDue _ st _ _ (by rw [h]; simp)
  next => rw [State.awaitLayer_evalDue, State.layerScanned_evalDue]

/-- A trigger of a sweep changes a plan by verdicts taken away alone (R59). -/
theorem State.sweepTrigger_plan (s : State) (st : StationId) :
    ∃ ids, (s.sweepTrigger st).plan.get st = (s.plan.get st).unsweep ids := by
  unfold State.sweepTrigger
  split
  · exact ⟨[], by simp [Plan.unsweep_nil, State.setSweep]⟩
  · cases hd : (s.plan.get st).sheetDue with
    | true => exact ⟨[], by rw [State.startSweep_of_sheet hd, Plan.unsweep_nil]; rfl⟩
    | false =>
      refine ⟨(s.plan.get st).eligiblePending.map Placement.id, ?_⟩
      rw [State.startSweep_of_places hd]
      dsimp only
      split
      · rw [State.sweepEnd_plan_stack.1]
        simp [State.setSweep]
      · simp [State.setSweep]

theorem State.setVerdict_evalDue (s : State) (st : StationId) (c : Cand) (v : Verdict) : (s.setVerdict st c v).evalDue = s.evalDue := by
  cases c <;> rfl

/-- A trigger of a sweep takes no dispatch event back. -/
theorem State.sweepTrigger_evalDue (h : s.evalDue = true) : (s.sweepTrigger st).evalDue = true := by
  have hf (cs : List Cand) : (cs.foldl (fun s c => s.setVerdict st c .unswept) s).evalDue = true :=
    List.foldlRecOn (motive := fun t : State => t.evalDue = true) cs _ h fun (t : State) ht c _ => (t.setVerdict_evalDue st c _).trans ht
  unfold State.sweepTrigger
  split
  · exact h
  · unfold State.startSweep
    dsimp only
    split
    · exact (State.stallTest_evalDue _ st).trans rfl
    · exact hf _

theorem Layer.unsweep_of_fresh {l : Layer} (h : ∀ q ∈ l.placements, q.verdict = .unswept) (ids : List Nat) :
    { l with placements := l.placements.map fun q => if q.id ∈ ids then { q with verdict := .unswept } else q } = l := by
  have he : (l.placements.map fun q => if q.id ∈ ids then { q with verdict := .unswept } else q) = l.placements.map id :=
    List.map_congr_left fun q hq => by
      split
      · rw [← h q hq]
        rfl
      · rfl
  rw [he, List.map_id]

/-- The queue with a layer behind it whose placements have no verdict, after verdicts are taken away (R22, R59). -/
theorem Plan.unsweep_queue_append {q : List Layer} {c : Bool} (h : ∀ x ∈ l.placements, x.verdict = .unswept) (ids : List Nat) :
    (Plan.unsweep ⟨q ++ [l], c⟩ ids).queue.getLast? = some l
      ∧ (Plan.unsweep ⟨q ++ [l], c⟩ ids).queue.dropLast.map Layer.unswept = q.map Layer.unswept := by
  simp only [Plan.unsweep, Plan.mapPlacements, List.map_append, List.map_cons, List.map_nil, List.getLast?_concat,
    List.dropLast_concat, Layer.unsweep_of_fresh h, List.map_map, true_and]
  exact List.map_congr_left fun x _ => x.unswept_unsweep ids

/-- A layer of its own placements gives the sweep a candidate, as the working layer or as an early one behind it (R26, R59). -/
theorem Plan.candidates_append_ne_nil {q : List Layer} {c : Bool} (hl : l.placements ≠ [])
    (hp : ∀ x ∈ l.placements, x.state = .pending) (hq : q.length = 0 ∨ q.length = 1 ∧ l.earlyEff = true) :
    (⟨q ++ [l], c⟩ : Plan).candidates ≠ [] := by
  obtain ⟨x, hx⟩ := List.exists_mem_of_ne_nil _ hl
  cases hd : (⟨q ++ [l], c⟩ : Plan).sheetDue with
  | true => simp [Plan.candidates, hd]
  | false =>
    have hm : l ∈ (⟨q ++ [l], c⟩ : Plan).eligible := by
      rcases hq with hq | ⟨hq, he⟩
      · obtain rfl := List.length_eq_zero_iff.mp hq
        have hd' : l.sheetDue = false := hd
        simp [Plan.eligible, hd']
      · obtain ⟨w, rfl⟩ := List.length_eq_one_iff.mp hq
        have hd' : w.sheetDue = false := hd
        simp [Plan.eligible, hd', he]
    have hx' : x ∈ (⟨q ++ [l], c⟩ : Plan).eligiblePending := Plan.mem_eligiblePending_iff.mpr ⟨⟨l, hm, hx⟩, hp x hx⟩
    have := List.ne_nil_of_mem (List.mem_map_of_mem (f := fun q => Cand.placement q.id) hx')
    simpa [Plan.candidates, hd] using this

/-- Changes of plans and stations around one of the destination event. -/
theorem State.PlansOnly.awaits {s a b u : State} (h : s.PlansOnly a) (hb : b = { a with awaitDue := b.awaitDue })
    (k : b.PlansOnly u) : u = { s with
      plan := u.plan, stack := u.stack, stn := u.stn, slots := u.slots, stall := u.stall, link := u.link
      evalDue := u.evalDue, awaitDue := u.awaitDue } := by
  unfold State.PlansOnly at h k
  have ha : u.awaitDue = b.awaitDue := by rw [k]
  rw [ha]
  rw [hb, h] at k
  exact k

theorem State.takeLayer_evalDue : (s.takeLayer st l).evalDue = true := by
  rw [State.takeLayer_eq]
  split
  · exact State.sweepTrigger_evalDue State.layerEntered_evalDue
  · exact State.layerEntered_evalDue

/-- The frame of a layer taken. -/
theorem State.takeLayer_rest (s : State) (st : StationId) (l : Layer) : s.takeLayer st l = { s with
    plan := (s.takeLayer st l).plan, stack := (s.takeLayer st l).stack, stn := (s.takeLayer st l).stn
    slots := (s.takeLayer st l).slots, stall := (s.takeLayer st l).stall, link := (s.takeLayer st l).link
    evalDue := true, awaitDue := (s.takeLayer st l).awaitDue } := by
  have h := (s.layerScanned_within st l).rest.awaits (State.awaitLayer_eq _ l)
    (s.layerEntered_within.trans s.takeLayer_within).rest
  rw [State.takeLayer_evalDue] at h
  exact h

theorem State.takeLayer_others (s : State) (st : StationId) (l : Layer) : ∀ st', st' ≠ st →
    (s.takeLayer st l).plan.get st' = s.plan.get st' ∧ (s.takeLayer st l).stack.get st' = s.stack.get st'
      ∧ (s.takeLayer st l).stn.get st' = s.stn.get st' := by
  intro st' hn
  have hs := s.layerScanned_within st l
  have hr := (s.layerEntered_within (st := st) (l := l)).trans s.takeLayer_within
  rw [hr.plan st' hn, hr.stack st' hn, hr.stn st' hn, State.awaitLayer_plan, State.awaitLayer_stack, State.awaitLayer_stn]
  exact ⟨hs.plan st' hn, hs.stack st' hn, hs.stn st' hn⟩

theorem State.layerEntered_plan_stack : (s.layerEntered st l).plan.get st = ⟨(s.plan.get st).queue ++ [l], (s.plan.get st).closed⟩
    ∧ (s.layerEntered st l).stack.get st = (s.layerTaken st l).stack.get st := by
  have hp : (s.layerEntered st l).plan = (s.layerTaken st l).plan := congrArg Ground.plan State.layerEntered_ground
  have hk : (s.layerEntered st l).stack = (s.layerTaken st l).stack := congrArg Ground.stack State.layerEntered_ground
  rw [hp, hk, State.layerTaken_plan]
  exact ⟨by simp, rfl⟩

theorem State.layerEntered_outstanding : (s.layerEntered st l).outstanding st = s.outstanding st := by
  rw [s.layerEntered_within.outstanding, State.outstanding_of_job (State.awaitLayer_job _ l)]
  exact (s.layerScanned_within st l).outstanding st

theorem State.takeLayer_mode (hm : (s.stn.get st).mode = .plain .idle ∨ (s.stn.get st).mode = .plain .building) :
    ((s.takeLayer st l).stn.get st).mode = .plain .building := by
  rw [State.takeLayer_eq]
  split
  · rw [(State.sweepTrigger_stn _ st).1]
    exact State.layerEntered_mode hm
  · exact State.layerEntered_mode hm

/-- The plan of a station that has taken a layer. -/
theorem State.takeLayer_plan :
    ∃ ids, (s.takeLayer st l).plan.get st = Plan.unsweep ⟨(s.plan.get st).queue ++ [l], (s.plan.get st).closed⟩ ids := by
  have hp := (State.layerEntered_plan_stack (s := s) (st := st) (l := l)).1
  rw [State.takeLayer_eq]
  split
  · obtain ⟨ids, hi⟩ := State.sweepTrigger_plan (s.layerEntered st l) st
    exact ⟨ids, hi.trans (by rw [hp])⟩
  · exact ⟨[], hp.trans (Plan.unsweep_nil _).symm⟩

/-- A layer that changes the eligible layers has its station swept (R26, R58, R59). -/
theorem State.takeLayer_swept (hq : (s.plan.get st).queue.length = 0 ∨ (s.plan.get st).queue.length = 1 ∧ l.earlyEff = true)
    (hl : l.placements ≠ []) (hp : ∀ q ∈ l.placements, q.state = .pending) :
    ((s.takeLayer st l).stack.get st).sweep = (if s.outstanding st = none
        then ⟨.running, ((s.takeLayer st l).plan.get st).candidates⟩ else ⟨.waiting, []⟩)
      ∧ (s.outstanding st = none → ∀ p ∈ ((s.takeLayer st l).plan.get st).eligiblePending, p.verdict = .unswept) := by
  have hs := State.sweepTrigger_swept (s := s.layerEntered st l) (st := st)
  rw [State.takeLayer_eq, if_pos hq]
  have hc : ((s.layerEntered st l).plan.get st).candidates ≠ [] := by
    rw [State.layerEntered_plan_stack.1]
    exact Plan.candidates_append_ne_nil hl hp hq
  refine ⟨?_, fun ho => (hs.runs (State.layerEntered_outstanding.trans ho)).2.2⟩
  split
  next ho =>
    rw [(hs.runs (State.layerEntered_outstanding.trans ho)).1, hs.candidates]
    split
    next h => exact absurd h hc
    next => rfl
  next ho => exact hs.waits fun h => ho (State.layerEntered_outstanding.symm.trans h)

/-- Any other layer leaves the stack and the layers before it as they are. -/
theorem State.takeLayer_behind (h0 : (s.plan.get st).queue ≠ [])
    (h1 : (s.plan.get st).queue.length ≠ 1 ∨ l.earlyEff = false) :
    (s.takeLayer st l).stack.get st = s.stack.get st
      ∧ ((s.takeLayer st l).plan.get st).queue.dropLast = (s.plan.get st).queue := by
  have hn : (s.plan.get st).queue.length ≠ 0 := fun h => h0 (List.length_eq_zero_iff.mp h)
  rw [State.takeLayer_eq, if_neg (by rintro (h | ⟨h, he⟩) <;> simp_all)]
  rw [State.layerEntered_plan_stack.1, State.layerEntered_plan_stack.2, State.layerTaken_stack, if_neg hn]
  simp

end

theorem State.PlacesTaken.fresh {s : State} {st : StationId} {qs : List PlaceBody} {ps : List Placement}
    (h : s.PlacesTaken st qs ps) : (∀ p ∈ ps, p.state = .pending ∧ p.verdict = .unswept) ∧ ps.length = qs.length := by
  obtain ⟨hf, -⟩ := h
  refine ⟨fun p hp => ?_, hf.length_eq.symm⟩
  obtain ⟨q, -, t, r, -, -, -, -, -, rfl, -⟩ := forall₂_exists_of_mem hf hp
  exact ⟨rfl, rfl⟩

/-- A body that fits lists as many placements as its count says (R182). -/
theorem placeBodies_length {n : Nat} {b : List Byte} (h : placementsFit n b = true) : (placeBodies n b).length = n := by
  induction n generalizing b with
  | zero => rfl
  | succ n ih =>
    unfold placementsFit at h
    unfold placeBodies
    cases hk : placementLength b with
    | none => simp [hk] at h
    | some k =>
      rw [hk] at h
      have hr : placementsFit n (b.drop k) = true := by
        simp only [Bool.and_eq_true] at h
        exact h.2
      simp [ih hr]

theorem layerBody_length {b : List Byte} {v : LayerBody} (hfit : bodyFits 0x10 b = true) (hv : layerBody? b = some v) :
    v.places.length = v.count := by
  have hf : placementsFit (u8 b 3) (b.drop 4) = true := by
    have h : loadLayerFits b = true := hfit
    unfold loadLayerFits at h
    simp only [Bool.and_eq_true] at h
    exact h.2
  unfold layerBody? at hv
  split at hv
  · cases hv
  · dsimp only at hv
    split at hv
    · obtain rfl := Option.some.inj hv
      exact placeBodies_length hf
    · cases hv

/-- Settles O21: the layer is taken, and its sweep follows where it stands among the eligible layers. -/
theorem loadLayerAppendsTheLayer : Obligations.LoadLayerAppendsTheLayer := by
  intro s tag b v ps h hfit hv h1 h40 hm hcl hq hfree hps
  obtain ⟨hfresh, hlen⟩ := hps.fresh
  have hck : (s.taken 0x10 tag b).checkPlaces v.st [] v.places = .ok ps := by
    rw [State.checkPlaces_of_taken]
    have := hps.checkPlaces []
    rwa [List.append_nil] at this
  have ho : ownLoadLayer b (s.taken 0x10 tag b) = ((s.taken 0x10 tag b).takeLayer v.st (v.record ps),
      .layerTaken (s.plan.get v.st).queue.length ((s.plan.get v.st).free - ps.length) (v.early && !v.sheet)) := by
    have hm' : ¬((s.stn.get v.st).mode ≠ .plain .idle ∧ (s.stn.get v.st).mode ≠ .plain .building) := fun ⟨ha, hb⟩ => hm.elim ha hb
    rw [ownLoadLayer_counted hv h1 h40, hck]
    refine (if_neg hm').trans ((if_neg (Bool.not_eq_true _ ▸ hcl)).trans ((if_neg ?_).trans ((if_neg ?_).trans rfl)))
    · exact Nat.not_le.mpr hq
    · exact Nat.not_lt.mpr hfree
  have hne : (v.record ps).placements ≠ [] := by
    have := layerBody_length hfit hv
    intro he
    have : ps.length = 0 := by rw [show ps = [] from he]; rfl
    omega
  have hpend : ∀ q ∈ (v.record ps).placements, q.state = .pending := fun q hq => (hfresh q hq).1
  have hunsw : ∀ q ∈ (v.record ps).placements, q.verdict = .unswept := fun q hq => (hfresh q hq).2
  refine ⟨hfresh, hlen, _, run_request_effect h rfl hfit rfl ho (State.takeLayer_fixed _ _ _), ?_, ?_⟩
  · exact congrArg (fun x : State => x.relinked s) (State.takeLayer_rest _ _ _)
  · obtain ⟨ids, hplan⟩ := State.takeLayer_plan (s := s.taken 0x10 tag b) (st := v.st) (l := v.record ps)
    obtain ⟨hlast, hinit⟩ := Plan.unsweep_queue_append (q := (s.plan.get v.st).queue) (c := (s.plan.get v.st).closed) hunsw ids
    refine ⟨(congrArg (fun p : Plan => p.queue.getLast?) hplan).trans hlast,
      (congrArg (fun p : Plan => p.queue.dropLast.map Layer.unswept) hplan).trans hinit,
      (congrArg Plan.closed hplan).trans hcl, State.takeLayer_mode hm, fun hw => ?_, fun h0 hw => ?_, ?_⟩
    · exact State.takeLayer_swept (s := s.taken 0x10 tag b) (hw.imp (fun e => List.length_eq_zero_iff.mpr e) id) hne hpend
    · exact State.takeLayer_behind (s := s.taken 0x10 tag b) h0 hw
    · exact State.takeLayer_others (s.taken 0x10 tag b) v.st (v.record ps)

end Sys2Proof.Machine
end

section
/-! SUPPORT. What the examination of the layers leaves of a station (R27 to R29): its plan, its state, the stale marks of the slots,
and the reports of a kind that it enqueues. -/

namespace Sys2Proof.Machine

/-! ### Reports of a kind -/

/-- The reports of a kind that wait, in order. -/
def State.filed (s : State) (k : ReportBody → Bool) : List ReportBody := (s.link.reports.map Report.body).filter k

/-- Between two states at most `n` reports are enqueued, and those of the kind `k` are the list `l`, where the queue has room. -/
def State.Files (k : ReportBody → Bool) (n : Nat) (l : List ReportBody) (s t : State) : Prop :=
  s.link.reports.length + n ≤ Config.reportMax →
    t.link.reports.length ≤ s.link.reports.length + n ∧ t.filed k = s.filed k ++ l

/-- The reports of a station's schedule, state and stall, and of a slot's stale mark. -/
def ReportBody.routine : ReportBody → Bool
  | .stall .. | .station .. | .schedule .. | .slot .. => true
  | _ => false

section files

variable {k : ReportBody → Bool} {n m : Nat} {l l' : List ReportBody} {s t u : State} {st : StationId}

theorem State.Files.of_link (h : t.link = s.link) : State.Files k n [] s t := by
  intro _
  simp [State.filed, h]

theorem State.Files.refl (s : State) : State.Files k n [] s s := .of_link rfl

theorem State.Files.trans (h : State.Files k n l s t) (h' : State.Files k m l' t u) : State.Files k (n + m) (l ++ l') s u := by
  intro hr
  obtain ⟨hn, hf⟩ := h (by omega)
  obtain ⟨hm, hf'⟩ := h' (by omega)
  exact ⟨by omega, by rw [hf', hf, List.append_assoc]⟩

/-- Behind a change of no report of the kind. -/
theorem State.Files.quiet (h : State.Files k n l s t) (h' : State.Files k m [] t u) : State.Files k (n + m) l s u := by
  simpa using h.trans h'

theorem State.Files.mono (h : State.Files k n l s t) (hn : n ≤ m) : State.Files k m l s t := fun hr =>
  ⟨(h (by omega)).1.trans (by omega), (h (by omega)).2⟩

theorem State.Files.before (h : State.Files k n l s t) (h' : u.link = t.link) : State.Files k n l s u := by
  simpa using h.trans (.of_link (n := 0) h')

theorem State.Files.after (h' : State.Files k n l t u) (h : t.link = s.link) : State.Files k n l s u := by
  have := (State.Files.of_link (k := k) (n := 0) h).trans h'
  rwa [Nat.zero_add, List.nil_append] at this

theorem State.report_files (s : State) (b : ReportBody) : State.Files k 1 (if k b then [b] else []) s (s.report b) := by
  intro hr
  have h := s.report_reports b (by omega)
  refine ⟨by rw [h]; simp, ?_⟩
  rw [State.filed, h]
  cases hb : k b <;> simp [State.filed, hb]

theorem State.foldl_files {α : Type} {f : State → α → State} (h : ∀ t a, State.Files k n [] t (f t a)) (q : List α) (s : State) :
    State.Files k (q.length * n) [] s (q.foldl f s) := by
  induction q generalizing s with
  | nil => exact .refl s
  | cons a q ih =>
    rw [List.length_cons, Nat.succ_mul, Nat.add_comm]
    exact (h s a).quiet (ih (f s a))

section

variable (hk : ∀ b : ReportBody, b.routine = true → k b = false) (s : State) (st : StationId)
include hk

theorem State.report_routine {b : ReportBody} (hb : b.routine = true) : State.Files k 1 [] s (s.report b) := by
  simpa [hk b hb] using s.report_files (k := k) b

theorem State.reschedule_files : State.Files k 1 [] s (s.reschedule st) := by
  unfold State.reschedule
  dsimp only
  split
  · exact .of_link rfl
  · exact (State.report_routine hk _ rfl).after rfl

theorem State.stallTest_files : State.Files k 1 [] s (s.stallTest st) := by
  unfold State.stallTest
  dsimp only
  split
  · exact .refl s
  · split
    · split
      · exact .refl s
      · split
        · exact (State.report_routine hk _ rfl).after rfl
        · exact .of_link rfl
    · exact .of_link rfl

theorem State.startSweep_files : State.Files k 1 [] s (s.startSweep st) := by
  have hv : State.Files k 0 [] s ((s.plan.get st).candidates.foldl (fun s c => s.setVerdict st c .unswept) s) := by
    simpa using State.foldl_files (k := k) (n := 0) (fun t c => .of_link (t.setVerdict_link st c .unswept)) (s.plan.get st).candidates s
  unfold State.startSweep
  dsimp only
  split
  · exact hv.trans ((State.stallTest_files hk _ st).after (by rfl))
  · exact (hv.before rfl).mono (Nat.zero_le _)

theorem State.sweepTrigger_files : State.Files k 1 [] s (s.sweepTrigger st) := by
  unfold State.sweepTrigger
  split
  · exact .of_link rfl
  · exact s.startSweep_files hk st

theorem State.sweepResume_files : State.Files k 1 [] s (s.sweepResume st) := by
  unfold State.sweepResume
  split
  · exact s.startSweep_files hk st
  · exact .refl s

/-- A change of a station's state reports it, with the schedule and, in BUILDING, the stall test (R156). -/
theorem State.stationSet_files (m : Mode) (early : Bool) : State.Files k 3 [] s (s.stationSet st m early) := by
  unfold State.stationSet
  dsimp only
  split
  · exact .refl s
  · have hr : State.Files k 1 [] s ((s.setStn st { s.stn.get st with mode := m }).report (.station st (s.stn.get st).mode m early)) :=
      (State.report_routine hk _ rfl).after rfl
    exact ((hr.quiet (State.reschedule_files hk _ st)).before (State.dispatchEvent_link _)).quiet (State.stallTest_files hk _ st)

/-- One that leaves BUILDING has no stall to report (R105). -/
theorem State.stationSet_files_of_ne {m : Mode} (early : Bool) (h : m ≠ .plain .building) :
    State.Files k 2 [] s (s.stationSet st m early) := by
  unfold State.stationSet
  dsimp only
  split
  · exact .refl s
  · have hr : State.Files k 1 [] s ((s.setStn st { s.stn.get st with mode := m }).report (.station st (s.stn.get st).mode m early)) :=
      (State.report_routine hk _ rfl).after rfl
    exact ((hr.quiet (State.reschedule_files hk _ st)).before (State.dispatchEvent_link _)).before (State.stallTest_link _ st (by simpa using h))

theorem State.endOfQueue_files : State.Files k 2 [] s (s.endOfQueue st) := by
  unfold State.endOfQueue
  dsimp only
  split
  · exact s.stationSet_files_of_ne hk st false (by split <;> simp)
  · exact .refl s

theorem State.staleScanSlot_files (i : SlotId) : State.Files k 1 [] s (s.staleScanSlot i) := by
  unfold State.staleScanSlot
  split
  · split
    · split
      · exact .refl s
      · exact ((State.report_routine (k := k) hk (s.setSlot i _) (b := .slot i .held .stale _) rfl).after rfl).before rfl
    · exact .of_link rfl
  · exact .refl s

theorem State.staleScan_files : State.Files k 8 [] s s.staleScan :=
  (State.foldl_files (State.staleScanSlot_files hk) allSlots s).mono (by decide)

theorem State.setPState_files (id : Nat) (x : PState) : State.Files k 9 [] s (s.setPState st id x) := by
  unfold State.setPState
  exact (State.reschedule_files hk (s.setPlan st _) st).quiet (State.staleScan_files hk _) |>.after rfl

end

end files

/-! ### The stale marks -/

/-- The stale mark of every held slot is what its case's record says (R106), the records staying where they are. -/
def State.Scanned (s u : State) : Prop :=
  ∀ (i : SlotId) r n m, s.slots[i] = .held r n m → u.slots[i] = .held r n (!u.wantedRec r)

section

variable {s t u : State} {st : StationId}

theorem State.wantedRec_congr (h : ∀ n, t.wanted n = s.wanted n) (r : ArrivalRec) : t.wantedRec r = s.wantedRec r := by
  simp [State.wantedRec, funext h]

theorem State.wanted_of_plan (h : t.plan = s.plan) (n : Nat) : t.wanted n = s.wanted n := by
  unfold State.wanted
  rw [h]

/-- A type is wanted or not whatever the verdicts are. -/
theorem State.wanted_of_unsweep {ids : List Nat} (hp : t.plan.get st = (s.plan.get st).unsweep ids)
    (ho : ∀ st', st' ≠ st → t.plan.get st' = s.plan.get st') (n : Nat) : t.wanted n = s.wanted n := by
  unfold State.wanted
  refine congrArg allStations.any (funext fun st' => ?_)
  by_cases he : st' = st
  · subst he
    rw [hp, Plan.unsweep, Plan.placements_mapPlacements, List.any_map]
    refine congrArg (List.any _) (funext fun q => ?_)
    simp only [Function.comp_apply]
    split <;> rfl
  · rw [ho st' he]

theorem State.Scanned.keep (h : s.Scanned t) (hs : u.slots = t.slots) (hw : ∀ n, u.wanted n = t.wanted n) : s.Scanned u := by
  intro i r n m hi
  rw [hs, State.wantedRec_congr hw]
  exact h i r n m hi

theorem State.Scanned.trans (h : s.Scanned t) (k : t.Scanned u) : s.Scanned u := fun i r n m hi => k i r n _ (h i r n m hi)

/-- A slot with the stale mark its record gets from a scan (R106). -/
def State.marked (s : State) : Slot → Slot
  | .held r n _ => .held r n (s.staleRec r)
  | x => x

/-- The stale scan of a slot sets its mark and leaves the other slots. -/
theorem State.staleScanSlot_slots (s : State) (i : SlotId) : (s.staleScanSlot i).slots = s.slots.set i (s.marked s.slots[i]) := by
  have hset {x : Slot} (h : s.slots[i] = x) : s.slots = s.slots.set i x := by
    subst h
    exact (Vector.set_getElem_self _).symm
  unfold State.staleScanSlot
  split
  next r n m hi =>
    rw [hi]
    split
    next hr =>
      rw [State.marked, hr]
      split
      next hm => exact hset (hm ▸ hi)
      next => rfl
    next hr => rw [State.marked, eq_false_of_ne_true hr]; rfl
  next h =>
    refine hset ?_
    unfold State.marked
    split
    next r n m hi => exact absurd hi (h r n m)
    next => rfl

theorem State.staleScanSlot_wanted (s : State) (i : SlotId) (r : ArrivalRec) : (s.staleScanSlot i).staleRec r = s.staleRec r := by
  unfold State.staleRec
  rw [State.wantedRec_congr (State.wanted_of_plan (s.staleScanSlot_keeps i).plan)]

theorem State.staleScanSlot_marked (s : State) (i : SlotId) : (s.staleScanSlot i).marked = s.marked := by
  funext x
  cases x <;> simp [State.marked, State.staleScanSlot_wanted]

/-- The scan goes over every slot in turn (R106). -/
theorem State.staleScan_foldl (l : List SlotId) (s : State) (i : SlotId) :
    (l.foldl State.staleScanSlot s).slots[i] = if i ∈ l then s.marked s.slots[i] else s.slots[i] := by
  induction l generalizing s with
  | nil => simp
  | cons k l ih =>
    rw [List.foldl_cons, ih, State.staleScanSlot_slots, State.staleScanSlot_marked]
    by_cases hk : i = k
    · subst hk
      cases hi : s.slots[i] <;> simp [State.marked]
    · have hv : k.val ≠ i.val := fun e => hk (Fin.ext e.symm)
      simp [Vector.getElem_set_ne, hv, hk]

theorem State.staleScan_scanned (s : State) : s.Scanned s.staleScan := by
  intro i r n m hi
  have h := State.staleScan_foldl allSlots s i
  rw [if_pos (mem_allSlots i), hi] at h
  rw [State.wantedRec_congr (State.wanted_of_plan s.staleScan_keeps.plan)]
  exact h

end

/-! ### The examination of the layers (R27) -/

/-- The layers of a queue that are not complete. -/
def Plan.staying (p : Plan) : Plan := { p with queue := p.queue.filter fun l => !l.settle.complete }

theorem splitQueue_append (before after : List Layer) (l : Layer) (pos : Nat)
    (h : ∀ x ∈ before ++ after, x.settle.complete = false) : (splitQueue pos (before ++ l :: after)).2 =
      if l.settle.complete then [(pos + before.length, l.settle)] else [] := by
  have hr : ∀ (q : List Layer) pos, (∀ x ∈ q, x.settle.complete = false) → (splitQueue pos q).2 = [] := by
    intro q
    induction q with
    | nil => intros; rfl
    | cons x q ih =>
      intro pos hq
      unfold splitQueue
      simp [hq x (by simp), ih (pos + 1) fun y hy => hq y (by simp [hy])]
  induction before generalizing pos with
  | nil =>
    have ha (pos : Nat) := hr after pos fun x hx => h x (by simpa using hx)
    rw [List.nil_append, splitQueue]
    split <;> simp [ha]
  | cons x before ih =>
    have hx := h x (by simp)
    rw [List.cons_append, splitQueue]
    simp only [hx, Bool.false_eq_true, if_false]
    rw [ih (pos + 1) fun y hy => h y (by simp_all), show pos + 1 + before.length = pos + (x :: before).length by simp; omega]

/-- One layer of a queue that may be complete, among layers that are not. -/
theorem Plan.staying_append {before after : List Layer} {l : Layer} {c : Bool} (h : ∀ x ∈ before ++ after, x.settle.complete = false) :
    Plan.staying ⟨before ++ l :: after, c⟩ = ⟨if l.settle.complete then before ++ after else before ++ l :: after, c⟩ := by
  have hf {q : List Layer} (hq : ∀ x ∈ q, x ∈ before ++ after) : q.filter (fun l => !l.settle.complete) = q :=
    List.filter_eq_self.mpr fun x hx => by simp [h x (hq x hx)]
  simp only [Plan.staying, List.filter_append, List.filter_cons, hf (q := before) (by simp_all), hf (q := after) (by simp_all)]
  cases l.settle.complete <;> rfl

section

variable {s : State} {st : StationId}

/-- The state after the layers that are complete have left, with the sweep where the eligible layers change (R26). -/
def State.layersSwept (s : State) (st : StationId) : State :=
  if (splitQueue 0 (s.plan.get st).queue).2.any (fun q => q.1 ≤ 1) then (s.layersGone st).sweepTrigger st else s.layersGone st

theorem State.examineLayers_kept (h : (splitQueue 0 (s.plan.get st).queue).2 = []) : s.examineLayers st = s := by
  rw [State.examineLayers_eq, if_pos h]

theorem State.examineLayers_gone (h : (splitQueue 0 (s.plan.get st).queue).2 ≠ []) :
    s.examineLayers st = (s.layersSwept st).endOfQueue st := by
  rw [State.examineLayers_eq, if_neg h]
  rfl

theorem State.layersGone_ground : (s.layersGone st).ground = (s.layersCut st).ground := by
  rw [State.layersGone, State.staleScan_ground, State.reschedule_ground]
  exact State.foldl_ground _ (fun t _ => t.layerDone_ground st _) _

theorem State.plan_of_ground {t : State} (h : t.ground = s.ground) : t.plan = s.plan := congrArg Ground.plan h

theorem State.layersGone_plan : (s.layersGone st).plan.get st = (s.plan.get st).staying := by
  have hg : (s.layersGone st).plan = (s.layersCut st).plan := State.plan_of_ground State.layersGone_ground
  have hc : (s.layersCut st).plan.get st = { s.plan.get st with queue := (splitQueue 0 (s.plan.get st).queue).1 } := by
    unfold State.layersCut
    dsimp only
    split <;> simp
  rw [hg, hc, splitQueue_fst]
  rfl

theorem State.layersSwept_within : s.Within st (s.layersSwept st) := by
  unfold State.layersSwept
  split
  · exact (s.layersGone_within st).trans (State.sweepTrigger_within _ st)
  · exact s.layersGone_within st

theorem State.layersSwept_plan : ∃ ids, (s.layersSwept st).plan.get st = (s.plan.get st).staying.unsweep ids := by
  unfold State.layersSwept
  split
  · obtain ⟨ids, h⟩ := State.sweepTrigger_plan (s.layersGone st) st
    exact ⟨ids, by rw [h, State.layersGone_plan]⟩
  · exact ⟨[], by rw [State.layersGone_plan, Plan.unsweep_nil]⟩

theorem State.layersSwept_mode : ((s.layersSwept st).stn.get st).mode = (s.stn.get st).mode := by
  have hd (q : List (Nat × Layer)) (t : State) : (q.foldl (fun s q => s.layerDone st q.2) t).stn = t.stn := by
    induction q generalizing t with
    | nil => rfl
    | cons x q ih =>
      rw [List.foldl_cons, ih]
      unfold State.layerDone
      split <;> rfl
  have hg : ((s.layersGone st).stn.get st).mode = (s.stn.get st).mode := by
    rw [State.layersGone, (State.staleScan_keeps _).stn, State.reschedule_modes, hd]
    unfold State.layersCut
    dsimp only
    split <;> rfl
  unfold State.layersSwept
  split
  · rw [(State.sweepTrigger_stn _ st).1, hg]
  · exact hg

/-- The plan of a station whose layers are examined: the layers that are not complete (R27). -/
theorem State.examineLayers_plan : ∃ ids, (s.examineLayers st).plan.get st = (s.plan.get st).staying.unsweep ids := by
  by_cases h : (splitQueue 0 (s.plan.get st).queue).2 = []
  · refine ⟨[], ?_⟩
    rw [State.examineLayers_kept h, Plan.unsweep_nil, Plan.staying, ← splitQueue_fst _ 0]
    have hq : ∀ (q : List Layer) pos, (splitQueue pos q).2 = [] → (splitQueue pos q).1 = q := by
      intro q
      induction q with
      | nil => intros; rfl
      | cons l q ih =>
        intro pos hn
        unfold splitQueue at hn ⊢
        split at hn
        · cases hn
        next hc =>
          rw [if_neg hc]
          dsimp only
          rw [ih _ hn, Layer.settle_of_incomplete (eq_false_of_ne_true hc)]
    rw [hq _ 0 h]
  · obtain ⟨ids, hp⟩ := State.layersSwept_plan (s := s) (st := st)
    refine ⟨ids, ?_⟩
    rw [State.examineLayers_gone h, (State.StationsOnly.endOfQueue _ st).plan, hp]

theorem State.examineLayers_queue : ((s.examineLayers st).plan.get st).queue.map Layer.unswept
    = (s.plan.get st).staying.queue.map Layer.unswept ∧ ((s.examineLayers st).plan.get st).closed = (s.plan.get st).closed := by
  obtain ⟨ids, h⟩ := State.examineLayers_plan (s := s) (st := st)
  rw [h, Plan.unsweep_unswept]
  exact ⟨rfl, rfl⟩

/-- The state of a station some of whose layers have left (R29). -/
theorem State.examineLayers_mode (h : (splitQueue 0 (s.plan.get st).queue).2 ≠ []) :
    ((s.examineLayers st).stn.get st).mode =
      if (s.stn.get st).mode = .plain .building ∧ ((s.examineLayers st).plan.get st).queue = [] ∧ s.boundTo st = false
        then .plain (if (s.plan.get st).closed then .complete else .idle) else (s.stn.get st).mode := by
  have he := (State.StationsOnly.endOfQueue (s.layersSwept st) st).plan
  have hc : ((s.layersSwept st).plan.get st).closed = (s.plan.get st).closed := by
    obtain ⟨ids, hp⟩ := State.layersSwept_plan (s := s) (st := st)
    rw [hp]
    rfl
  rw [State.examineLayers_gone h, State.endOfQueue_mode, State.layersSwept_mode, State.layersSwept_within.boundTo, he, hc]

/-- Every buffered case is scanned anew where a layer leaves (R106). -/
theorem State.examineLayers_scanned (h : (splitQueue 0 (s.plan.get st).queue).2 ≠ []) : s.Scanned (s.examineLayers st) := by
  have hd (q : List (Nat × Layer)) (t : State) : (q.foldl (fun s q => s.layerDone st q.2) t).slots = t.slots := by
    induction q generalizing t with
    | nil => rfl
    | cons x q ih =>
      rw [List.foldl_cons, ih]
      unfold State.layerDone
      split <;> rfl
  have hg : s.Scanned (s.layersGone st) := by
    have hs : (((splitQueue 0 (s.plan.get st).queue).2.foldl (fun s q => s.layerDone st q.2) (s.layersCut st)).reschedule st).slots
        = s.slots := by
      rw [State.StationsOnly.reschedule _ st]
      refine (hd _ _).trans ?_
      unfold State.layersCut
      dsimp only
      split <;> rfl
    intro i r n m hi
    exact State.staleScan_scanned _ i r n m (by rw [hs]; exact hi)
  have hw : s.Scanned (s.layersSwept st) := by
    unfold State.layersSwept
    split
    · obtain ⟨ids, hp⟩ := State.sweepTrigger_plan (s.layersGone st) st
      exact hg.keep (State.sweepTrigger_stn _ st).2 (State.wanted_of_unsweep hp (State.sweepTrigger_within _ st).plan)
    · exact hg
  rw [State.examineLayers_gone h]
  exact hw.keep (State.endOfQueue_slots _ st) (State.wanted_of_plan (State.StationsOnly.endOfQueue _ st).plan)

/-- The LAYER_DONE report of a layer that leaves, where its report flag is set (R28). -/
def Layer.doneReports (l : Layer) (st : StationId) : List ReportBody :=
  if l.report then [.layerDone st l.tag (l.count .placed) (l.count .void) l.sheetDone] else []

theorem State.layerDone_files {k : ReportBody → Bool} {l : Layer} (s : State) : State.Files k 1 ((l.doneReports st).filter k) s (s.layerDone st l) := by
  unfold State.layerDone Layer.doneReports
  cases l.report with
  | true => simpa [List.filter_cons] using s.report_files (k := k) _
  | false => exact .refl s

section

variable {k : ReportBody → Bool} (hk : ∀ b : ReportBody, b.routine = true → k b = false) {pos : Nat} {l : Layer}
include hk

theorem State.layersGone_files (h : (splitQueue 0 (s.plan.get st).queue).2 = [(pos, l)]) :
    State.Files k 10 ((l.doneReports st).filter k) s (s.layersGone st) := by
  have hc : (s.layersCut st).link = s.link := by
    unfold State.layersCut
    dsimp only
    split <;> rfl
  have hl := (State.layerDone_files (k := k) (st := st) (l := l) (s.layersCut st)).after hc
  have hr := hl.quiet (State.reschedule_files hk _ st)
  rw [State.layersGone, h, List.foldl_cons, List.foldl_nil]
  exact hr.quiet (State.staleScan_files hk _)

/-- The reports of a kind where one layer leaves: its LAYER_DONE, where that is of the kind (R28). -/
theorem State.examineLayers_files (h : (splitQueue 0 (s.plan.get st).queue).2 = [(pos, l)]) :
    State.Files k 13 ((l.doneReports st).filter k) s (s.examineLayers st) := by
  have hg := State.layersGone_files hk h
  have hw : State.Files k 11 ((l.doneReports st).filter k) s (s.layersSwept st) := by
    unfold State.layersSwept
    split
    · exact hg.quiet (State.sweepTrigger_files hk _ st)
    · exact hg.mono (by omega)
  rw [State.examineLayers_gone (by simp [h])]
  exact hw.quiet (State.endOfQueue_files hk _ st)

end

end

end Sys2Proof.Machine
end

section
/-! THEOREM. WITHDRAW of a placement id (R27 to R30). -/

namespace Sys2Proof.Machine

/-! ### One layer that may be complete -/

theorem Layer.settle_fields (l : Layer) : l.settle.tag = l.tag ∧ l.settle.report = l.report ∧ l.settle.sheetDone = l.sheetDone := by
  unfold Layer.settle
  split <;> exact ⟨rfl, rfl, rfl⟩

theorem Layer.settle_doneReports (l : Layer) (st : StationId) : l.settle.doneReports st = l.doneReports st := by
  obtain ⟨ht, hr, hd⟩ := l.settle_fields
  simp [Layer.doneReports, Layer.count, ht, hr, hd]

section

variable {s t u : State} {st : StationId} {before after : List Layer} {l : Layer}

theorem State.gone_of_append (hq : (s.plan.get st).queue = before ++ l :: after) (hx : ∀ x ∈ before ++ after, x.settle.complete = false) :
    (splitQueue 0 (s.plan.get st).queue).2 = if l.settle.complete then [(before.length, l.settle)] else [] := by
  rw [hq, splitQueue_append _ _ _ _ hx, Nat.zero_add]

/-- The reports of a kind of an examination that finds one layer complete, or none (R28). -/
theorem State.examineLayers_files_append {k : ReportBody → Bool} (hk : ∀ b : ReportBody, b.routine = true → k b = false)
    (hq : (s.plan.get st).queue = before ++ l :: after) (hx : ∀ x ∈ before ++ after, x.settle.complete = false) :
    State.Files k 13 (if l.settle.complete then (l.doneReports st).filter k else []) s (s.examineLayers st) := by
  have hg := State.gone_of_append hq hx
  split at hg
  next hc =>
    rw [if_pos hc, ← Layer.settle_doneReports]
    exact State.examineLayers_files hk hg
  next hc =>
    rw [if_neg hc, State.examineLayers_kept hg]
    exact .refl s

/-- A queue of which one layer may be complete, after the examination. -/
theorem State.examineLayers_append (hq : (s.plan.get st).queue = before ++ l :: after)
    (hx : ∀ x ∈ before ++ after, x.settle.complete = false) :
    (l.settle.complete = false → (s.examineLayers st).plan = s.plan)
      ∧ ((s.examineLayers st).plan.get st).queue.map Layer.unswept =
        (if l.settle.complete then before ++ after else before ++ l :: after).map Layer.unswept := by
  refine ⟨fun hc => ?_, ?_⟩
  · have hg := State.gone_of_append hq hx
    rw [State.examineLayers_kept (by rw [hg, hc]; rfl)]
  · have hp : s.plan.get st = ⟨before ++ l :: after, (s.plan.get st).closed⟩ := by rw [← hq]
    rw [State.examineLayers_queue.1, hp, Plan.staying_append hx]

/-! ### A placement voided (R30) -/

/-- A PENDING placement voided, before its layer is examined. -/
def State.idVoided (s : State) (st : StationId) (id : Nat) : State := (s.setPState st id .void).noteVoid st id

theorem State.voidPlacement_eq (s : State) (st : StationId) (id : Nat) :
    s.voidPlacement st id = (s.idVoided st id).examineLayers st := rfl

theorem State.noteVoid_slots (s : State) (st : StationId) (id : Nat) : (s.noteVoid st id).slots = s.slots := by
  unfold State.noteVoid
  split <;> rfl

theorem State.noteVoid_stn (s : State) (st : StationId) (id : Nat) : (s.noteVoid st id).stn = s.stn := by
  unfold State.noteVoid
  split <;> rfl

theorem State.noteVoid_link (s : State) (st : StationId) (id : Nat) : (s.noteVoid st id).link = s.link := by
  unfold State.noteVoid
  split <;> rfl

variable {id : Nat}

theorem State.idVoided_plan : (s.idVoided st id).plan.get st = (s.plan.get st).modify id fun q => { q with state := .void } := by
  rw [State.idVoided, State.noteVoid_plan, State.setPState_plan, PerStation.get_set_same]

theorem State.idVoided_mode : ((s.idVoided st id).stn.get st).mode = (s.stn.get st).mode := by
  rw [State.idVoided, State.noteVoid_stn]
  exact (s.setPState_keeps st id .void).2.1 st

theorem State.idVoided_boundTo : (s.idVoided st id).boundTo st = s.boundTo st :=
  ((s.setPState_within st id .void).trans (State.noteVoid_within _ st id)).boundTo st

/-- A change of a placement's state scans every buffered case anew (R106). -/
theorem State.setPState_scanned (x : PState) : s.Scanned (s.setPState st id x) := by
  intro i r n m hi
  unfold State.setPState
  refine State.staleScan_scanned _ i r n m ?_
  rw [State.StationsOnly.reschedule _ st]
  exact hi

theorem State.idVoided_scanned : s.Scanned (s.idVoided st id) :=
  (State.setPState_scanned .void).keep (State.noteVoid_slots _ st id) (State.wanted_of_plan (State.noteVoid_plan id))

theorem State.idVoided_files {k : ReportBody → Bool} (hk : ∀ b : ReportBody, b.routine = true → k b = false) :
    State.Files k 9 [] s (s.idVoided st id) :=
  (State.setPState_files hk s st id .void).before (State.noteVoid_link _ st id)

theorem State.voidPlacement_scanned : s.Scanned (s.voidPlacement st id) := by
  rw [State.voidPlacement_eq]
  by_cases h : (splitQueue 0 ((s.idVoided st id).plan.get st).queue).2 = []
  · rw [State.examineLayers_kept h]
    exact State.idVoided_scanned
  · exact State.idVoided_scanned.trans (State.examineLayers_scanned h)

/-- The placements of a plan after an examination of the layers, but for their verdicts (R27). -/
theorem State.examineLayers_placement {p : Placement} (hp : p ∈ ((s.examineLayers st).plan.get st).placements) :
    ∃ q ∈ (s.plan.get st).placements, q.id = p.id ∧ q.state = p.state := by
  obtain ⟨ids, h⟩ := State.examineLayers_plan (s := s) (st := st)
  rw [h, Plan.unsweep, Plan.placements_mapPlacements] at hp
  obtain ⟨q, hq, rfl⟩ := List.mem_map.mp hp
  refine ⟨q, ?_, by split <;> rfl, by split <;> rfl⟩
  obtain ⟨l, hl, hq⟩ := Plan.mem_placements.mp hq
  exact Plan.mem_placements.mpr ⟨l, List.mem_of_mem_filter hl, hq⟩

/-- A placement after one has been voided: the one with the id is VOID, every other keeps its state. -/
theorem State.voidPlacement_placement {p : Placement} (hp : p ∈ ((s.voidPlacement st id).plan.get st).placements) :
    (p.id = id → p.state = .void)
      ∧ (p.id ≠ id → ∃ q ∈ (s.plan.get st).placements, q.id = p.id ∧ q.state = p.state) := by
  rw [State.voidPlacement_eq] at hp
  obtain ⟨q, hq, hid, hst⟩ := State.examineLayers_placement hp
  rw [State.idVoided_plan, Plan.placements_modify] at hq
  obtain ⟨x, hx, rfl⟩ := List.mem_map.mp hq
  rw [← hid, ← hst]
  by_cases hn : x.id = id
  · simp [hn]
  · simpa [hn] using ⟨x, hx, rfl, rfl⟩

/-- A layer whose placement with an id is voided. -/
def Layer.voidedAt (l : Layer) (id : Nat) : Layer :=
  { l with placements := l.placements.map fun p => if p.id = id then { p with state := .void } else p }

theorem Plan.modify_append {p : Plan} (f : Placement → Placement) (hq : p.queue = before ++ l :: after)
    (hx : ∀ x ∈ before ++ after, ∀ q ∈ x.placements, q.id ≠ id) : (p.modify id f).queue =
      before ++ { l with placements := l.placements.map fun q => if q.id = id then f q else q } :: after := by
  have hs {m : List Layer} (hm : ∀ x ∈ m, x ∈ before ++ after) :
      m.map (fun l => { l with placements := l.placements.map fun q => if q.id = id then f q else q }) = m := by
    refine (List.map_congr_left fun x hx' => ?_).trans (List.map_id m)
    have hp : (x.placements.map fun q => if q.id = id then f q else q) = x.placements.map fun q => q :=
      List.map_congr_left fun q hq => if_neg (hx x (hm x hx') q hq)
    rw [hp, List.map_id']
    rfl
  simp only [Plan.modify, Plan.mapPlacements, hq, List.map_append, List.map_cons, hs (m := before) (by simp_all),
    hs (m := after) (by simp_all)]

theorem State.idVoided_queue (hq : (s.plan.get st).queue = before ++ l :: after)
    (hx : ∀ x ∈ before ++ after, ∀ q ∈ x.placements, q.id ≠ id) :
    ((s.idVoided st id).plan.get st).queue = before ++ l.voidedAt id :: after := by
  rw [State.idVoided_plan]
  exact Plan.modify_append _ hq hx

/-- The state of a station one of whose placements is voided (R29). -/
theorem State.voidPlacement_mode {q : Placement} (hq : q ∈ (s.plan.get st).placements) :
    ((s.voidPlacement st id).stn.get st).mode =
      if (s.stn.get st).mode = .plain .building ∧ ((s.voidPlacement st id).plan.get st).queue = [] ∧ s.boundTo st = false
        then .plain (if (s.plan.get st).closed then .complete else .idle) else (s.stn.get st).mode := by
  rw [State.voidPlacement_eq]
  by_cases h : (splitQueue 0 ((s.idVoided st id).plan.get st).queue).2 = []
  · have hne : ((s.idVoided st id).plan.get st).queue ≠ [] := by
      obtain ⟨l, hl, -⟩ := Plan.mem_placements.mp hq
      rw [State.idVoided_plan]
      exact List.ne_nil_of_mem (List.mem_map_of_mem hl)
    rw [State.examineLayers_kept h, State.idVoided_mode, if_neg fun hc => hne hc.2.1]
  · rw [State.examineLayers_mode h, State.idVoided_mode, State.idVoided_boundTo, State.idVoided_plan]
    rfl

end

/-! ### The request -/

/-- The layer whose tag the reply to a WITHDRAW of an id names (R30). -/
def State.goneTag (s v : State) (st : StationId) (id : Nat) : Option Nat :=
  if ((v.plan.get st).find? id).isSome then none else ((s.plan.get st).layerWith id).map Layer.tag

theorem exec_withdrawId {tag : Byte} {b : List Byte} (h : u8 b 0 = 0) (s : State) :
    exec (.withdrawId tag b) s = run (fun s => s.request 0x11 tag b (ownWithdrawId b)) s := by
  change run (fun s => if u8 b 0 = 1 then s else s.request 0x11 tag b (ownWithdrawId b)) s = _
  rw [h]
  rfl

theorem withdrawFits_of {b : List Byte} (h : b.length = 4 ∧ u8 b 0 = 0 ∨ b.length = 3 ∧ u8 b 0 = 1) : bodyFits 0x11 b = true := by
  change withdrawFits b = true
  cases b with
  | nil => simp at h
  | cons f b =>
    have hf : u8 (f :: b) 0 = f.toNat := rfl
    rw [hf] at h
    unfold withdrawFits
    rcases h with ⟨hl, h0⟩ | ⟨hl, h1⟩
    · have : f = 0 := BitVec.eq_of_toNat_eq h0
      simpa [this] using hl
    · have : f = 1 := BitVec.eq_of_toNat_eq h1
      simpa [this] using hl

theorem ownWithdrawId_found {s : State} {b : List Byte} {st : StationId} {q : Placement} (hst : station? (u8 b 1) = some st)
    (hq : (s.plan.get st).find? (u16 b 2) = some q) : ownWithdrawId b s = match q.state with
      | .bound => (s, .code .inFlight)
      | .placed => (s, .code .state)
      | .void => (s, .withdrawn .void none)
      | .pending => (s.voidPlacement st (u16 b 2), .withdrawn .void (s.goneTag (s.voidPlacement st (u16 b 2)) st (u16 b 2))) := by
  unfold ownWithdrawId
  rw [hst]
  dsimp only
  rw [hq]
  dsimp only
  cases q.state <;> rfl

/-- The tag in the reply: none while the layer stays, its tag once it has left. -/
theorem State.goneTag_append {s : State} {st : StationId} {id : Nat} {before after : List Layer} {l : Layer}
    (hq : (s.plan.get st).queue = before ++ l :: after) (hl : ∃ p ∈ l.placements, p.id = id)
    (hx : ∀ x ∈ before ++ after, (∀ p ∈ x.placements, p.id ≠ id) ∧ x.settle.complete = false) :
    ((l.voidedAt id).settle.complete = false → s.goneTag (s.voidPlacement st id) st id = none
      ∧ ((s.voidPlacement st id).plan.get st).queue = before ++ l.voidedAt id :: after)
    ∧ ((l.voidedAt id).settle.complete = true → s.goneTag (s.voidPlacement st id) st id = some l.tag
      ∧ ((s.voidPlacement st id).plan.get st).queue.map Layer.unswept = (before ++ after).map Layer.unswept) := by
  have hv := State.idVoided_queue (s := s) (st := st) (id := id) hq fun x h => (hx x h).1
  obtain ⟨hkeep, hqueue⟩ := State.examineLayers_append hv fun x h => (hx x h).2
  constructor
  · intro hc
    have hp : ((s.voidPlacement st id).plan.get st).queue = before ++ l.voidedAt id :: after := by
      rw [State.voidPlacement_eq, hkeep hc, hv]
    refine ⟨?_, hp⟩
    obtain ⟨p, hp', hid⟩ := hl
    have hf : (((s.voidPlacement st id).plan.get st).find? id).isSome = true := Plan.find?_isSome_iff.mpr
      ⟨{ p with state := .void }, Plan.mem_placements.mpr ⟨l.voidedAt id, by simp [hp],
        List.mem_map.mpr ⟨p, hp', by simp [hid]⟩⟩, hid⟩
    rw [State.goneTag, if_pos hf]
  · intro hc
    rw [hc, if_pos rfl] at hqueue
    refine ⟨?_, hqueue⟩
    have hf : ¬(((s.voidPlacement st id).plan.get st).find? id).isSome = true := by
      rw [Plan.find?_isSome_iff]
      rintro ⟨p, hp, hid⟩
      obtain ⟨m, hm, hpm⟩ := Plan.mem_placements.mp hp
      have hu : m.unswept ∈ (before ++ after).map Layer.unswept := hqueue ▸ List.mem_map_of_mem hm
      obtain ⟨x, hx', he⟩ := List.mem_map.mp hu
      have hpu : { p with verdict := .unswept } ∈ x.unswept.placements := by
        rw [he]
        exact List.mem_map_of_mem hpm
      obtain ⟨y, hy, hye⟩ := List.mem_map.mp hpu
      exact (hx x hx').1 y hy ((congrArg Placement.id hye).trans hid)
    have hfind : (s.plan.get st).layerWith id = some l := by
      have hn : before.find? (fun l => l.placements.any fun q => q.id == id) = none := by
        simpa using fun x h => (hx x (by simp [h])).1
      have hy : (l.placements.any fun q => q.id == id) = true := by simpa using hl
      rw [Plan.layerWith, hq, List.find?_append, hn, List.find?_cons, hy]
      rfl
    rw [State.goneTag, if_neg hf, hfind]
    rfl

/-- LAYER_DONE is no report of a station's routine. -/
theorem ReportBody.routine_layerDone (b : ReportBody) :
    b.routine = true → (fun r : ReportBody => match r with | .layerDone .. => true | _ => false) b = false := by
  intro h
  cases b
  case layerDone => exact absurd h Bool.false_ne_true
  all_goals rfl

/-- The LAYER_DONE reports of a removal, where no report waited (R28). -/
theorem State.voidPlacement_layerDone {s : State} {st : StationId} {id : Nat} {before after : List Layer} {l : Layer}
    (hr : s.link.reports = []) (hq : (s.plan.get st).queue = before ++ l :: after)
    (hx : ∀ x ∈ before ++ after, (∀ p ∈ x.placements, p.id ≠ id) ∧ x.settle.complete = false) :
    ((s.voidPlacement st id).link.reports.map Report.body).filter (fun r => match r with | .layerDone .. => true | _ => false) =
      if (l.voidedAt id).settle.complete = true ∧ l.report = true then
        [.layerDone st l.tag ((l.voidedAt id).placements.countP (fun p => p.state == .placed))
          ((l.voidedAt id).placements.countP (fun p => p.state == .void)) l.sheetDone]
      else [] := by
  have hv := State.idVoided_queue (s := s) (st := st) (id := id) hq fun x h => (hx x h).1
  have hf := (State.idVoided_files (s := s) (st := st) (id := id) ReportBody.routine_layerDone).trans
    (State.examineLayers_files_append ReportBody.routine_layerDone hv fun x h => (hx x h).2)
  have := (hf (by simp [hr, Config.reportMax])).2
  rw [State.filed, State.filed, hr] at this
  refine this.trans ?_
  cases hc : (l.voidedAt id).settle.complete <;> cases hl : l.report <;>
    simp [Layer.doneReports, Layer.voidedAt, hl, Layer.count]

/-- Settles O23: a PENDING placement is voided and its layer examined, every other state refuses or stays. -/
theorem withdrawIdVoidsAPendingPlacement : Obligations.WithdrawIdVoidsAPendingPlacement := by
  intro s tag b st h hlen h0 hst
  have hfit := withdrawFits_of (b := b) (.inl ⟨hlen, h0⟩)
  rw [exec_withdrawId h0]
  refine ⟨fun hn => run_request_answered h rfl hfit rfl ?_, fun q hq => ?_⟩
  · unfold ownWithdrawId
    rw [hst]
    dsimp only
    rw [show ((s.taken 0x11 tag b).plan.get st).find? (u16 b 2) = none from hn]
    rfl
  have ho := ownWithdrawId_found (s := s.taken 0x11 tag b) hst hq
  refine ⟨fun hs => ?_, fun hs => ?_, fun hs => ?_, fun hs => ?_⟩
  · exact run_request_answered h rfl hfit rfl (ho.trans (by rw [hs]))
  · exact run_request_answered h rfl hfit rfl (ho.trans (by rw [hs]))
  · exact run_request_answered h rfl hfit rfl (ho.trans (by rw [hs]))
  · rw [hs] at ho
    have hfix : ((s.taken 0x11 tag b).voidPlacement st (u16 b 2)).fixed = (s.taken 0x11 tag b).fixed := by simp
    have hw := (s.taken 0x11 tag b).voidPlacement_within st (u16 b 2)
    refine ⟨_, _, run_request_effect h rfl hfit rfl ho hfix, ?_, ?_, ?_, hw.plan, ?_, ?_, ?_, ?_⟩
    · exact congrArg (fun v : State => v.relinked s) hw.rest
    · exact fun p hp => (State.voidPlacement_placement hp).1
    · exact fun p hp => (State.voidPlacement_placement hp).2
    · intro before l after hqu hl hx l' hl'
      subst hl'
      exact State.goneTag_append (s := s.taken 0x11 tag b) hqu hl hx
    · exact State.voidPlacement_mode (s := s.taken 0x11 tag b) (Plan.find?_eq_some hq).1
    · intro before l after l' hr hqu hl hx hl'
      subst hl'
      exact State.voidPlacement_layerDone (s := s.taken 0x11 tag b) hr hqu hx
    · exact State.voidPlacement_scanned (s := s.taken 0x11 tag b)

end Sys2Proof.Machine
end

section
/-! THEOREM. WITHDRAW of a layer tag (R31). -/

namespace Sys2Proof.Machine

section

variable {s : State} {st : StationId} {p : Plan} {ids : List Nat}

/-- A plan set, with the schedule, the stale scan and the sweep's notice of the placements it voids, before its layers are examined. -/
def State.replanned (s : State) (st : StationId) (p : Plan) (ids : List Nat) : State :=
  ids.foldl (fun s id => s.noteVoid st id) (((s.setPlan st p).reschedule st).staleScan)

theorem State.requeue_eq : s.requeue st p ids = (s.replanned st p ids).examineLayers st := rfl

theorem State.noteVoids_keep (s : State) : (ids.foldl (fun s id => s.noteVoid st id) s).slots = s.slots
    ∧ (ids.foldl (fun s id => s.noteVoid st id) s).stn = s.stn ∧ (ids.foldl (fun s id => s.noteVoid st id) s).link = s.link := by
  induction ids generalizing s with
  | nil => exact ⟨rfl, rfl, rfl⟩
  | cons id ids ih =>
    obtain ⟨hs, hn, hl⟩ := ih (s.noteVoid st id)
    exact ⟨hs.trans (s.noteVoid_slots st id), hn.trans (s.noteVoid_stn st id), hl.trans (s.noteVoid_link st id)⟩

theorem State.replanned_within : s.Within st (s.replanned st p ids) :=
  (((s.setPlan_within st p).trans (State.reschedule_within _ st)).trans (State.staleScan_within _ st)).trans
    (.foldl (fun t id => t.noteVoid_within st id) _ _)

theorem State.requeue_within : s.Within st (s.requeue st p ids) :=
  State.replanned_within.trans (State.examineLayers_within _ st)

theorem State.replanned_plan : (s.replanned st p ids).plan.get st = p := by
  rw [State.replanned, State.noteVoids_plan, (State.staleScan_keeps _).plan, (State.StationsOnly.reschedule _ st).plan]
  exact PerStation.get_set_same _ _ _

theorem State.replanned_mode : ((s.replanned st p ids).stn.get st).mode = (s.stn.get st).mode := by
  rw [State.replanned, (State.noteVoids_keep _).2.1, (State.staleScan_keeps _).stn, State.reschedule_modes]
  rfl

theorem State.replanned_scanned : s.Scanned (s.replanned st p ids) := by
  refine State.Scanned.keep (t := ((s.setPlan st p).reschedule st).staleScan) (fun i r n m hi => ?_) (State.noteVoids_keep _).1
    (State.wanted_of_plan (State.noteVoids_plan ids _))
  refine State.staleScan_scanned _ i r n m ?_
  rw [State.StationsOnly.reschedule _ st]
  exact hi

theorem State.replanned_files {k : ReportBody → Bool} (hk : ∀ b : ReportBody, b.routine = true → k b = false) :
    State.Files k 9 [] s (s.replanned st p ids) := by
  have h := (State.reschedule_files hk (s.setPlan st p) st).after (s := s) rfl
  exact (h.quiet (State.staleScan_files hk _)).before (State.noteVoids_keep _).2.2

theorem State.requeue_scanned : s.Scanned (s.requeue st p ids) := by
  rw [State.requeue_eq]
  by_cases h : (splitQueue 0 ((s.replanned st p ids).plan.get st).queue).2 = []
  · rw [State.examineLayers_kept h]
    exact State.replanned_scanned
  · exact State.replanned_scanned.trans (State.examineLayers_scanned h)

/-- The state of a station whose new plan has a complete layer (R29). -/
theorem State.requeue_mode (h : (splitQueue 0 p.queue).2 ≠ []) : ((s.requeue st p ids).stn.get st).mode =
    if (s.stn.get st).mode = .plain .building ∧ ((s.requeue st p ids).plan.get st).queue = [] ∧ s.boundTo st = false
      then .plain (if p.closed then .complete else .idle) else (s.stn.get st).mode := by
  rw [State.requeue_eq, State.examineLayers_mode (by rw [State.replanned_plan]; exact h), State.replanned_mode,
    State.replanned_within.boundTo, State.replanned_plan]

end

/-! ### The layer withdrawn -/

/-- Layers leave a queue where some are complete (R27). -/
theorem splitQueue_gone {q : List Layer} {pos : Nat} : (splitQueue pos q).2 = [] ↔ ∀ l ∈ q, l.settle.complete = false := by
  induction q generalizing pos with
  | nil => simp [splitQueue]
  | cons l q ih =>
    unfold splitQueue
    split
    next hc => simp [hc]
    next hc => simpa [eq_false_of_ne_true hc] using ih

theorem changeTag_append {tag : Nat} {f : Layer → Layer} {before after : List Layer} {l : Layer} (hl : l.tag = tag)
    (hx : ∀ x ∈ before, x.tag ≠ tag) : changeTag tag f (before ++ l :: after) = before ++ f l :: after := by
  induction before with
  | nil => exact if_pos hl
  | cons x before ih =>
    have hn := hx x (by simp)
    rw [List.cons_append, changeTag, if_neg hn, ih fun y hy => hx y (by simp [hy])]
    rfl

theorem Layer.inFlight_iff (l : Layer) : l.inFlight = true ↔ l.sheetJob = true ∨ ∃ p ∈ l.placements, p.state = .bound := by
  simp [Layer.inFlight]

/-- A layer withdrawn whole is complete (R27, R31). -/
theorem Layer.withdrawn_complete {l : Layer} (h : l.inFlight = false) : l.withdrawn.settle.complete = true := by
  have hs : l.withdrawn.settle = l.withdrawn := by simp [Layer.settle, Layer.withdrawn]
  rw [hs]
  exact Layer.complete_of_not_live (m := l.withdrawn) rfl (Layer.voided_not_live h)

theorem Layer.withdrawn_doneReports (l : Layer) (st : StationId) : l.withdrawn.doneReports st = if l.report then
    [.layerDone st l.tag (l.placements.countP (fun p => p.state == .placed))
      (l.placements.countP (fun p => p.state == .pending || p.state == .void)) l.sheetDone] else [] := by
  have hp (p : Placement) : (p.voided.state == .placed) = (p.state == .placed) := by
    unfold Placement.voided
    split <;> simp_all
  have hv (p : Placement) : (p.voided.state == .void) = (p.state == .pending || p.state == .void) := by
    unfold Placement.voided
    split <;> simp_all
  simp [Layer.doneReports, Layer.withdrawn, Layer.count, List.countP_map, Function.comp_def, hp, hv]

/-! ### The request -/

theorem exec_withdrawTag {tag : Byte} {b : List Byte} (h : u8 b 0 = 1) (s : State) :
    exec (.withdrawTag tag b) s = run (fun s => s.request 0x11 tag b (ownWithdrawTag b)) s := by
  change run (fun s => if u8 b 0 = 1 then s.request 0x11 tag b (ownWithdrawTag b) else s) s = _
  rw [h]
  rfl

/-- The placements that a withdrawal of a layer voids. -/
def Layer.pendingIds (l : Layer) : List Nat := (l.placements.filter (fun q => q.state == .pending)).map Placement.id

section

variable {s : State} {b : List Byte} {st : StationId} {before after : List Layer} {l : Layer}

theorem ownWithdrawTag_found (hst : station? (u8 b 1) = some st) (hq : (s.plan.get st).queue = before ++ l :: after)
    (hl : l.tag = u8 b 2) (hx : ∀ x ∈ before, x.tag ≠ u8 b 2) : ownWithdrawTag b s =
      if l.inFlight then s.refuse .inFlight
      else (s.requeue st ⟨before ++ l.withdrawn :: after, (s.plan.get st).closed⟩ l.pendingIds,
        .tagWithdrawn (l.count .pending) (l.count .placed)) := by
  have hf : (s.plan.get st).queue.find? (fun l => l.tag == u8 b 2) = some l := by
    have hn : before.find? (fun l => l.tag == u8 b 2) = none := by simpa using hx
    rw [hq, List.find?_append, hn, List.find?_cons, beq_iff_eq.mpr hl]
    rfl
  unfold ownWithdrawTag
  rw [hst]
  dsimp only
  rw [hf]
  dsimp only
  rw [hq, changeTag_append hl hx]
  rfl

/-- The queue after a layer is withdrawn from it. -/
theorem State.requeue_withdrawn {ids : List Nat} {c : Bool} (h : l.inFlight = false) :
    (((s.requeue st ⟨before ++ l.withdrawn :: after, c⟩ ids).plan.get st).queue.map Layer.tag).Sublist
        ((before ++ after).map Layer.tag)
      ∧ ((∀ x ∈ before ++ after, x.settle.complete = false) →
        ((s.requeue st ⟨before ++ l.withdrawn :: after, c⟩ ids).plan.get st).queue.map Layer.unswept
          = (before ++ after).map Layer.unswept) := by
  have hc := Layer.withdrawn_complete h
  obtain ⟨i, hp⟩ := State.examineLayers_plan (s := s.replanned st ⟨before ++ l.withdrawn :: after, c⟩ ids) (st := st)
  rw [State.replanned_plan] at hp
  rw [State.requeue_eq, hp]
  constructor
  · have ht (p : Plan) : (p.unsweep i).queue.map Layer.tag = p.queue.map Layer.tag := by
      simp [Plan.unsweep, Plan.mapPlacements]
    rw [ht]
    refine List.Sublist.map _ ?_
    simp only [Plan.staying, List.filter_append, List.filter_cons, hc, Bool.not_true, Bool.false_eq_true, if_false]
    exact List.Sublist.append List.filter_sublist List.filter_sublist
  · intro hx
    rw [Plan.unsweep_unswept, Plan.staying_append hx, if_pos hc]

/-- The LAYER_DONE report of a layer withdrawn, where no report waited (R28). -/
theorem State.requeue_layerDone {ids : List Nat} {c : Bool} (h : l.inFlight = false) (hr : s.link.reports = [])
    (hx : ∀ x ∈ before ++ after, x.settle.complete = false) :
    ((s.requeue st ⟨before ++ l.withdrawn :: after, c⟩ ids).link.reports.map Report.body).filter
        (fun r => match r with | .layerDone .. => true | _ => false) =
      if l.report then [.layerDone st l.tag (l.placements.countP (fun p => p.state == .placed))
        (l.placements.countP (fun p => p.state == .pending || p.state == .void)) l.sheetDone] else [] := by
  have hq : ((s.replanned st ⟨before ++ l.withdrawn :: after, c⟩ ids).plan.get st).queue = before ++ l.withdrawn :: after := by
    rw [State.replanned_plan]
  have hf := (State.replanned_files (s := s) (st := st) (p := ⟨before ++ l.withdrawn :: after, c⟩) (ids := ids)
    ReportBody.routine_layerDone).trans (State.examineLayers_files_append ReportBody.routine_layerDone hq hx)
  have hw := (hf (by simp [hr, Config.reportMax])).2
  rw [State.filed, State.filed, hr, if_pos (Layer.withdrawn_complete h), Layer.withdrawn_doneReports] at hw
  refine hw.trans ?_
  cases l.report <;> simp

end

/-- Settles O24: the first layer with the tag is found, and leaves complete. -/
theorem withdrawTagRemovesTheFirstSuchLayer : Obligations.WithdrawTagRemovesTheFirstSuchLayer := by
  intro s tag b st h hlen h1 hst
  have hfit := withdrawFits_of (b := b) (.inr ⟨hlen, h1⟩)
  rw [exec_withdrawTag h1]
  refine ⟨fun hn => run_request_answered h rfl hfit rfl ?_, fun before l after hq hl hx => ?_⟩
  · have hf : (s.plan.get st).queue.find? (fun l => l.tag == u8 b 2) = none := by simpa using hn
    unfold ownWithdrawTag
    rw [hst]
    dsimp only
    rw [show ((s.taken 0x11 tag b).plan.get st).queue.find? (fun l => l.tag == u8 b 2) = none from hf]
    rfl
  have ho := ownWithdrawTag_found (s := s.taken 0x11 tag b) hst hq hl hx
  refine ⟨fun hfl => run_request_answered h rfl hfit rfl ?_, fun hsj hbd => ?_⟩
  · rw [ho, if_pos (l.inFlight_iff.mpr hfl)]
    rfl
  · have hnf : l.inFlight = false := Bool.not_eq_true _ ▸ fun hc => (l.inFlight_iff.mp hc).elim (by simp [hsj])
      fun ⟨p, hp, hb⟩ => hbd p hp hb
    rw [hnf] at ho
    have hfix := ownWithdrawTag_fixed b (s.taken 0x11 tag b)
    rw [ho] at hfix
    have hw := State.requeue_within (s := s.taken 0x11 tag b) (st := st)
      (p := ⟨before ++ l.withdrawn :: after, (s.plan.get st).closed⟩) (ids := l.pendingIds)
    obtain ⟨htags, hqueue⟩ := State.requeue_withdrawn (s := s.taken 0x11 tag b) (st := st) (before := before) (after := after)
      (ids := l.pendingIds) (c := (s.plan.get st).closed) hnf
    refine ⟨_, run_request_effect h rfl hfit rfl ho hfix, ?_, htags, hqueue, hw.plan, ?_, ?_, ?_⟩
    · exact congrArg (fun v : State => v.relinked s) hw.rest
    · refine State.requeue_mode (s := s.taken 0x11 tag b) fun hn => ?_
      have hc := splitQueue_gone.mp hn l.withdrawn (by simp)
      rw [Layer.withdrawn_complete hnf] at hc
      cases hc
    · exact fun hr hx' => State.requeue_layerDone (s := s.taken 0x11 tag b) hnf hr hx'
    · exact State.requeue_scanned (s := s.taken 0x11 tag b)

end Sys2Proof.Machine
end

section
/-! SUPPORT. The starts of moves and phases, said exactly (R113, R115, R120, R121): what a rise, a travel, a descent and a release
make of the gantry where nothing stops them. -/

namespace Sys2Proof.Machine

section

variable {s : State} {j : Job} {a : LinAxis}

/-! ### A linear axis -/

theorem State.startLin_stay {m : Move} (h : m.target = (s.gantry.axes.get a).at) : s.startLin a m = (s, true) := if_pos h

theorem State.startLin_go {m : Move} (h : m.target ≠ (s.gantry.axes.get a).at) (hz : a = .X → s.zoneHit? m.target = none)
    (hl : s.limitToward a (s.gantry.axes.get a).at m.target = false) :
    s.startLin a m = (s.setGantry (s.gantry.setAxis a { s.gantry.axes.get a with move := some m }), true) := by
  have hz' : (if a = .X then s.zoneHit? m.target else none) = none := by
    split
    · exact hz ‹_›
    · rfl
  simp only [State.startLin, if_neg h, hz', hl, Bool.false_eq_true, if_false]

/-- With every curtain whole no target lies in a broken one's zone (R159). -/
theorem State.zoneHit?_of_whole (h : ∀ st, s.inputs.curtain.get st = false) (x : Int) : s.zoneHit? x = none := by
  simp [State.zoneHit?, h]

/-- With no end limit active none stands in the way (R127). -/
theorem State.limitToward_of_free (h : ∀ side, s.inputs.limit a side = false) (x y : Int) : s.limitToward a x y = false := by
  unfold State.limitToward
  split
  · exact h .high
  · exact h .low

/-- A profile move where nothing stands in its way (R113, R115). -/
theorem State.startMove_free {p : Profile} {x : Int} (hl : ∀ side, s.inputs.limit a side = false)
    (hz : a = .X → ∀ st, s.inputs.curtain.get st = false) :
    s.startMove a p x = (s.setGantry (s.gantry.setAxis a ((s.gantry.axes.get a).sentTo s.inputs.warning a p x)), true) := by
  by_cases h : x = (s.gantry.axes.get a).at
  · refine (State.startLin_stay h).trans ?_
    rw [LinState.sentTo, if_pos h, Gantry.setAxis, PerAxis.set_get]
    rfl
  · refine (State.startLin_go h (fun ha => State.zoneHit?_of_whole (hz ha) _) (State.limitToward_of_free hl _ _)).trans ?_
    rw [LinState.sentTo, if_neg h]
    rfl

/-! ### A rise -/

/-- Z sent up where its upper limit is free (R113, R127). -/
theorem State.startMove_up {p : Profile} {x : Int} (h : s.gantry.axes.z.at < x) (hl : s.inputs.limitHigh.z = false) :
    s.startMove .Z p x = (s.setGantry (s.gantry.setAxis .Z (s.gantry.axes.z.sentTo s.inputs.warning .Z p x)), true) := by
  have hn : x ≠ s.gantry.axes.z.at := by omega
  have hlim : s.limitToward .Z s.gantry.axes.z.at x = false := (if_pos h).trans hl
  refine (State.startLin_go (a := .Z) hn (by simp) hlim).trans ?_
  rw [LinState.sentTo, if_neg hn]
  rfl

/-- A rise where Z stands below the travel height and may move up (R120, R121). -/
theorem State.riseOr_below {next : State → State} (h : s.gantry.axes.z.at < (s.travelHeight : Int)) (hl : s.inputs.limitHigh.z = false) :
    s.riseOr j next = s.computeTravel.setGantry (s.computeTravel.rising j) := by
  have hm := State.startMove_up (s := s.computeTravel) (p := s.computeTravel.gantry.profileOf j.laden) h hl
  unfold State.riseOr
  refine (if_pos h).trans ?_
  rw [show s.computeTravel.gantry.lastTravel = s.travelHeight from rfl, hm]
  rfl

/-- No rise where Z stands no lower than the travel height. -/
theorem State.riseOr_above {next : State → State} (h : (s.travelHeight : Int) ≤ s.gantry.axes.z.at) :
    s.riseOr j next = next s.computeTravel := if_neg (Int.not_lt.mpr h)

/-! ### Travel and descent -/

/-- XY travel where nothing stands in its way (R115). -/
theorem State.startXY_clear {p : Profile} {xy : Int × Int} {t : Turn} (h : s.inputs.Clear) :
    s.startXY p xy t = (s.setGantry (s.sentXY p xy t), true) := by
  obtain ⟨hl, hz⟩ := h
  have hx := State.startMove_free (s := s) (a := .X) (p := p) (x := xy.1) (hl .X) fun _ => hz
  have hy := State.startMove_free (s := s.setGantry (s.gantry.setAxis .X ((s.gantry.axes.get .X).sentTo s.inputs.warning .X p xy.1)))
    (a := .Y) (p := p) (x := xy.2) (hl .Y) fun _ => hz
  unfold State.startXY
  rw [hx]
  dsimp only
  rw [hy]
  by_cases ht : s.gantry.t.pos = some t
  · rw [State.sentXY, if_pos ht]
    exact congrArg (·, true) (if_pos ht)
  · rw [State.sentXY, if_neg ht]
    exact congrArg (·, true) (if_neg ht)

/-- A descent where nothing stands in its way (R115). -/
theorem State.descendOr_free {next : State → State} {x : Int} (hl : ∀ side, s.inputs.limit .Z side = false) :
    s.descendOr j x next = (s.setGantry (s.lowered j x)).movingOr .descent next := by
  unfold State.descendOr
  dsimp only
  by_cases h : x = s.gantry.axes.z.at
  · rw [State.startLin_stay (a := .Z) h, State.lowered, if_pos h]
    rfl
  · rw [State.startLin_go (a := .Z) h (by simp) (State.limitToward_of_free hl _ _), State.lowered, if_neg h]
    rfl

/-! ### Phases -/

/-- RELEASE starts (R121, R143). -/
theorem State.startReleasePhase_starts (hj : s.job = some j) : s.ReleaseStarts s.startReleasePhase j := by
  unfold State.startReleasePhase State.ReleaseStarts
  dsimp only
  split
  next h => exact ⟨by simp [hj], rfl, (if_pos h).symm⟩
  next h => exact ⟨by simp [hj], rfl, (if_neg h).symm⟩

/-- SET_DOWN's descent (R121). -/
theorem State.startSetDown_free {d : Dest} (hj : s.job = some j) (hd : j.dest = some d)
    (hl : ∀ side, s.inputs.limit .Z side = false) : s.startSetDown =
    ((s.setPhase .setDown).setGantry (s.lowered { j with phase := .setDown } (s.destZ { j with phase := .setDown } d))).movingOr
      .descent State.startReleasePhase := by
  unfold State.startSetDown
  simp only [State.setPhase_job, hj, Option.map_some, hd]
  exact State.descendOr_free hl

/-- SET_DOWN starts where no end limit of Z is active (R115, R121). -/
theorem State.startSetDown_starts {d : Dest} (hj : s.job = some j) (hd : j.dest = some d)
    (hl : ∀ side, s.inputs.limit .Z side = false) : s.SetDownStarts s.startSetDown j d := by
  rintro k g rfl rfl
  rw [State.startSetDown_free hj hd hl]
  constructor
  · intro hm
    rw [State.movingOr, if_pos (by simpa using hm)]
    exact ⟨by simp [hj], rfl⟩
  · intro hm
    rw [State.movingOr, if_neg (by simpa using hm)]
    exact State.startReleasePhase_starts (by simp [hj])

/-- The job in TRAVEL, its place on the spill table fixed with the first start toward it (R119). -/
def Job.onTravel (j : Job) (spill : Nat) (d : Dest) : Job :=
  { j with phase := .travel, spillK := if d = .spill ∧ j.spillK = none then some spill else j.spillK }

/-- The state with its job in TRAVEL. -/
def State.onTravel (s : State) : State :=
  (s.setPhase .travel).modifyJob (fun j => if j.dest = some .spill ∧ j.spillK = none then { j with spillK := some s.spill } else j)

theorem State.onTravel_job {d : Dest} (hj : s.job = some j) (hd : j.dest = some d) : s.onTravel.job = some (j.onTravel s.spill d) := by
  unfold State.onTravel Job.onTravel
  simp only [State.modifyJob_job, State.setPhase_job, hj, Option.map_some, hd, Option.some.injEq]
  split <;> rfl

/-- The starts of a travel in X and Y toward a job's destination (R121). -/
def State.travelOn (s : State) : State :=
  match s.job with
  | none => s
  | some j =>
    match j.dest with
    | none => s
    | some d =>
      match s.startXY (s.gantry.profileOf j.laden) (s.destXY j d) j.turn with
      | (s, true) => s.movingOr .travel State.startSetDown
      | (s, false) => s

theorem State.travelXY_eq (s : State) : s.travelXY = s.onTravel.travelOn := rfl

theorem State.travelOn_clear {d : Dest} (hj : s.job = some j) (hd : j.dest = some d) (hc : s.inputs.Clear) : s.travelOn =
    (s.setGantry (s.sentXY (s.gantry.profileOf j.laden) (s.destXY j d) j.turn)).movingOr .travel State.startSetDown := by
  unfold State.travelOn
  rw [hj]
  dsimp only
  rw [hd]
  dsimp only
  rw [State.startXY_clear hc]

/-- TRAVEL starts in X and Y where no end limit is active and no curtain broken (R115, R119, R121). -/
theorem State.travelXY_starts {d : Dest} (hj : s.job = some j) (hd : j.dest = some d) (hc : s.inputs.Clear) :
    s.TravelStarts s.travelXY j d := by
  intro k g hk hg
  obtain rfl : k = j.onTravel s.spill d := hk
  have hk := State.onTravel_job hj hd
  have he : s.travelXY = (s.onTravel.setGantry g).movingOr .travel State.startSetDown := by
    rw [State.travelXY_eq, State.travelOn_clear hk hd hc, hg]
    rfl
  rw [he]
  constructor
  · intro hm
    rw [State.movingOr, if_pos (by simpa using hm)]
    exact ⟨hk, rfl⟩
  · intro hm
    rw [State.movingOr, if_neg (by simpa using hm)]
    exact State.startSetDown_starts (s := s.onTravel.setGantry g) hk hd (hc.1 .Z)

/-! ### Descents and travels of the fetch -/

/-- The starts of the travel to a job's source (R119, R121). -/
theorem State.approachXY_clear (hj : s.job = some j) (hc : s.inputs.Clear) : s.approachXY =
    (s.setGantry (s.sentXY (s.gantry.profileOf j.unladen) (s.sourceXY j) .t0)).movingOr .travel State.startPickDown := by
  unfold State.approachXY
  rw [hj]
  dsimp only
  rw [State.startXY_clear hc]

/-- PICK_DOWN's descent (R121). -/
theorem State.startPickDown_free (hj : s.job = some j) (hl : ∀ side, s.inputs.limit .Z side = false) : s.startPickDown =
    ((s.setPhase .pickDown).setGantry (s.lowered { j with phase := .pickDown } (s.sourceZ { j with phase := .pickDown }))).movingOr
      .descent State.startGripPhase := by
  unfold State.startPickDown
  simp only [State.setPhase_job, hj, Option.map_some]
  exact State.descendOr_free hl

/-- GRIP starts with enough zones (R121, R138). -/
theorem State.startGripPhase_enough (hj : s.job = some j) (hg : s.gripper.state = .idle)
    (hz : (s.gripNeeds (s.sourceCase j)).2 ≤ zoneCount (s.gripper.usable (s.gripNeeds (s.sourceCase j)).1)) :
    s.startGripPhase = (s.setPhase .grip).setGripper { ({ s.gripper with
        used := s.gripper.usable (s.gripNeeds (s.sourceCase j)).1 } : Gripper).mapUsed (ZoneRec.setValve .full) with
      state := .gripping, attempt := 1, timer := some s.gripper.set.gripMs } := by
  have hb : (s.setPhase .grip).gripBegin { j with phase := .grip } = ((s.setPhase .grip).setGripper { ({ s.gripper with
        used := s.gripper.usable (s.gripNeeds (s.sourceCase j)).1 } : Gripper).mapUsed (ZoneRec.setValve .full) with
      state := .gripping, attempt := 1, timer := some s.gripper.set.gripMs }, true) := if_neg (Nat.not_lt.mpr hz)
  have hk : (s.setPhase .grip).job = some { j with phase := .grip } := by simp [hj]
  unfold State.startGripPhase
  dsimp only
  rw [hk]
  dsimp only
  rw [if_pos (show (s.setPhase .grip).gripper.state = .idle from hg)]
  rw [hb]

end

end Sys2Proof.Machine
end

section
/-! SUPPORT. What the gantry keeps on its way with a job (R121, R123 to R127): a property that every change of the gantry, every
report and the mirrored phase leave stands at the end of a travel, a set-down or a stop, up to the loss of the carry. -/

namespace Sys2Proof.Machine

/-- A property `Q` of states that hold while a job is under way, and what is left of it, `R`, where a stop or the loss of its carry
(R141) cuts it short. -/
structure State.Carries (Q R : State → Prop) : Prop where
  weaken : ∀ {s}, Q s → R s
  gantry : ∀ {s} (g : Gantry), g.counters = s.gantry.counters → Q s → Q (s.setGantry g)
  report : ∀ {s} (b : ReportBody), Q s → Q (s.report b)
  dispatch : ∀ {s}, Q s → Q s.dispatchEvent
  cell : ∀ {s} (r : CellRun), Q s → Q (s.setCellRun r)
  phase : ∀ {s} (p : Phase), Q s → Q (s.setPhase p)
  spill : ∀ {s} (k : Nat), Q s →
    Q (s.modifyJob fun j => if j.dest = some .spill ∧ j.spillK = none then { j with spillK := some k } else j)
  blow : ∀ {s}, Q s → R (s.setGripper (s.gripper.blow 1))
  carry : ∀ {s}, Q s → Q s.carryTest ∨ R s.carryTest ∧ s.carryTest.job = none

section

variable {Q R : State → Prop} {s : State}

namespace State.Carries

theorem carryTest (h : State.Carries Q R) (hs : Q s) : R s.carryTest := (h.carry hs).elim h.weaken And.left

theorem gantryTo (h : State.Carries Q R) (hs : Q s) (g : GState) : Q (s.gantryTo g) := by
  have hg : Q ((s.setGantry { s.gantry with state := g }).gantryReport none) := h.report _ (h.gantry _ rfl hs)
  unfold State.gantryTo
  split
  · exact hs
  · dsimp only
    split
    · exact h.dispatch hg
    · exact hg

theorem motion (h : State.Carries Q R) (hs : Q s) (m : Motion) : Q (s.setMotion m) := h.gantry _ rfl hs

theorem faultStop (h : State.Carries Q R) (hs : Q s) (c : FaultCause) : Q (s.faultStop c) :=
  h.gantryTo (h.gantry { s.gantry.halt with heldChange := false } rfl hs) _

theorem homingStop (h : State.Carries Q R) (hs : Q s) : Q s.homingStop :=
  h.gantryTo (h.gantry { s.gantry.halt.clearMarks with kept := none } rfl hs) _

/-! ### Stops -/

theorem takeStopped (h : State.Carries Q R) (hs : Q s) : R s.takeStopped := by
  unfold State.takeStopped
  split
  · exact h.weaken hs
  · split
    · exact h.carryTest (h.gantryTo (h.phase _ hs) _)
    · exact h.carryTest (h.phase _ hs)

theorem enterStopped (h : State.Carries Q R) (hs : Q s) : R s.enterStopped := by
  have hg := h.gantryTo (h.gantry { s.gantry with heldChange := false } rfl hs) .stopped
  unfold State.enterStopped
  dsimp only
  split
  · exact h.weaken (h.gantryTo hg _)
  · split
    · exact h.takeStopped hg
    · exact h.weaken hg

theorem quickStop (h : State.Carries Q R) (hs : Q s) : R s.quickStop := by
  have hg : Q (s.setGantry s.gantry.halt) := h.gantry _ (Gantry.halt_counters _) hs
  unfold State.quickStop
  dsimp only
  split
  · exact h.enterStopped hg
  · exact h.enterStopped hg
  · exact h.enterStopped hg
  · exact h.weaken (h.homingStop hg)
  · exact h.weaken hg

theorem guardStop (h : State.Carries Q R) (hs : Q s) (i : GuardInput) (z : Option Bool) : R (s.guardStop i z) := by
  have hg : Q ((s.setCellRun (s.cell.run.trip i).1).guardReport i true (s.cell.run.trip i).2 z) := h.report _ (h.cell _ hs)
  unfold State.guardStop State.guardHalt
  dsimp only
  split
  · exact h.quickStop hg
  · split
    · exact h.weaken (h.homingStop hg)
    · exact h.weaken hg

/-! ### Starts of moves -/

theorem startLin (h : State.Carries Q R) (hs : Q s) (a : LinAxis) (m : Move) :
    ((s.startLin a m).2 = true → Q (s.startLin a m).1) ∧ R (s.startLin a m).1 := by
  unfold State.startLin
  dsimp only
  split
  · exact ⟨fun _ => hs, h.weaken hs⟩
  · split
    · exact ⟨nofun, h.guardStop hs _ _⟩
    · split
      · exact ⟨nofun, h.weaken (h.faultStop hs _)⟩
      · have hg := h.gantry (s.gantry.setAxis a { s.gantry.axes.get a with move := some m }) (by cases a <;> rfl) hs
        exact ⟨fun _ => hg, h.weaken hg⟩

theorem startT (h : State.Carries Q R) (hs : Q s) (t : Turn) : Q (s.startT t) := by
  unfold State.startT
  split
  · exact hs
  · exact h.gantry _ rfl hs

theorem startXY (h : State.Carries Q R) (hs : Q s) (p : Profile) (xy : Int × Int) (t : Turn) :
    ((s.startXY p xy t).2 = true → Q (s.startXY p xy t).1) ∧ R (s.startXY p xy t).1 := by
  obtain ⟨hx, hx'⟩ := h.startLin hs .X (newMove s.capInForce .X p (s.gantry.axes.get .X).at xy.1)
  unfold State.startXY State.startMove
  split
  next u e =>
    rw [e] at hx'
    exact ⟨nofun, hx'⟩
  next u e =>
    rw [e] at hx
    obtain ⟨hy, hy'⟩ := h.startLin (hx rfl) .Y (newMove u.capInForce .Y p (u.gantry.axes.get .Y).at xy.2)
    split
    next v e' =>
      rw [e'] at hy'
      exact ⟨nofun, hy'⟩
    next v e' =>
      rw [e'] at hy
      exact ⟨fun _ => h.startT (hy rfl) t, h.weaken (h.startT (hy rfl) t)⟩

/-! ### Segments -/

section

variable {next : State → State}

theorem movingOr (h : State.Carries Q R) (hn : ∀ t, Q t → R (next t)) (hs : Q s) (m : Motion) : R (s.movingOr m next) := by
  unfold State.movingOr
  split
  · exact h.weaken (h.motion hs m)
  · exact hn s hs

theorem riseOr (h : State.Carries Q R) (hn : ∀ t, Q t → R (next t)) (hs : Q s) (j : Job) : R (s.riseOr j next) := by
  have hc : Q s.computeTravel := h.gantry _ rfl hs
  unfold State.riseOr State.startMove
  dsimp only
  split
  · obtain ⟨hz, hz'⟩ := h.startLin hc .Z (newMove s.computeTravel.capInForce .Z (s.computeTravel.gantry.profileOf j.laden)
      (s.computeTravel.gantry.axes.get .Z).at s.computeTravel.gantry.lastTravel)
    split
    next e =>
      rw [e] at hz
      exact h.weaken (h.motion (hz rfl) _)
    next e =>
      rw [e] at hz'
      exact hz'
  · exact hn _ hc

theorem descendOr (h : State.Carries Q R) (hn : ∀ t, Q t → R (next t)) (hs : Q s) (j : Job) (x : Int) :
    R (s.descendOr j x next) := by
  obtain ⟨hz, hz'⟩ := h.startLin hs .Z
    (newDescent s.capInForce (s.gantry.profileOf j.laden) j.speed j.dist (s.gantry.axes.z).at x)
  unfold State.descendOr
  dsimp only
  split
  next e =>
    rw [e] at hz
    exact h.movingOr hn (hz rfl) _
  next e =>
    rw [e] at hz'
    exact hz'

end

/-! ### Phases -/

theorem startReleasePhase (h : State.Carries Q R) (hs : Q s) : R s.startReleasePhase := by
  unfold State.startReleasePhase
  dsimp only
  split
  · exact h.blow (h.phase _ hs)
  · exact h.weaken (h.phase _ hs)

theorem startSetDown (h : State.Carries Q R) (hs : Q s) : R s.startSetDown := by
  have hp := h.phase .setDown hs
  unfold State.startSetDown
  dsimp only
  split
  · exact h.weaken hp
  · split
    · exact h.weaken hp
    · exact h.descendOr (fun _ => h.startReleasePhase) hp _ _

theorem travelXY (h : State.Carries Q R) (hs : Q s) : R s.travelXY := by
  have hp : Q s.onTravel := h.spill _ (h.phase .travel hs)
  rw [State.travelXY_eq]
  unfold State.travelOn
  split
  · exact h.weaken hp
  next j _ =>
    split
    · exact h.weaken hp
    next d _ =>
      obtain ⟨hx, hx'⟩ := h.startXY hp (s.onTravel.gantry.profileOf j.laden) (s.onTravel.destXY j d) j.turn
      split
      next e =>
        rw [e] at hx
        exact h.movingOr (fun _ => h.startSetDown) (hx rfl) _
      next e =>
        rw [e] at hx'
        exact hx'

theorem retravel (h : State.Carries Q R) (hs : Q s) : R s.retravel := by
  have hp := h.phase .travel hs
  unfold State.retravel
  dsimp only
  split
  · exact h.weaken hp
  · exact h.riseOr (fun _ => h.travelXY) hp _

theorem startPickUp (h : State.Carries Q R) (hs : Q s) : R s.startPickUp := by
  unfold State.startPickUp
  dsimp only
  rcases h.carry (h.phase .pickUp hs) with hp | ⟨hp, hj⟩
  · split
    · exact h.weaken hp
    · exact h.riseOr (fun _ => h.travelXY) hp _
  · rw [hj]
    exact hp

theorem holdUp (h : State.Carries Q R) (hs : Q s) : R s.holdUp := by
  unfold State.holdUp
  split
  · exact h.weaken hs
  · split
    · exact h.riseOr (fun _ => h.weaken) hs _
    · exact h.weaken hs

/-! ### A changed destination -/

theorem rampAll (h : State.Carries Q R) (hs : Q s) (w : RestFor) : Q (s.rampAll w) := by
  rw [State.rampAll_eq]
  refine h.gantry _ ?_ hs
  unfold Gantry.ramping Gantry.counters
  dsimp only
  split <;> rfl

/-- A ramp to rest for a new plan ends, or goes on. -/
theorem settleReplan (h : State.Carries Q R) (hs : Q s) (hm : s.gantry.motion = .toRest .replan) : R s.settleMotion := by
  unfold State.settleMotion State.motionDone
  split
  · exact h.weaken hs
  · rw [hm]
    exact h.retravel (h.motion hs _)

theorem settleAwait (h : State.Carries Q R) (hs : Q s) (hm : s.gantry.motion = .toRest .await) : R s.settleMotion := by
  unfold State.settleMotion State.motionDone
  split
  · exact h.weaken hs
  · rw [hm]
    exact h.holdUp (h.motion hs _)

theorem replanTravel (h : State.Carries Q R) (hs : Q s) : R s.replanTravel :=
  h.settleReplan (h.rampAll (h.phase _ hs) _) (by rw [State.rampAll_eq]; rfl)

theorem gantryTakes (h : State.Carries Q R) (hs : Q s) : R s.gantryTakes := by
  unfold State.gantryTakes
  split
  · exact h.weaken hs
  · split
    · split
      · exact h.settleAwait (h.rampAll (h.gantryTo (h.phase _ hs) _) _) (by rw [State.rampAll_eq]; rfl)
      · split
        · exact h.replanTravel hs
        · exact h.weaken hs
    · exact h.weaken (h.gantry _ rfl hs)
    · exact h.takeStopped hs
    · split
      · exact h.weaken hs
      · split
        · exact h.replanTravel (h.gantryTo hs _)
        · split
          · exact h.weaken hs
          · exact h.weaken (h.gantryTo hs _)
    · exact h.weaken hs

end State.Carries

end

end Sys2Proof.Machine
end

section
/-! SUPPORT. The ends of a job, said by what they leave (R29, R89, R98, R100, R122, R141): the gantry, the job record, and the state
of the station the job was bound to. -/

namespace Sys2Proof.Machine

section

variable {s t u : State} {st : StationId} {j : Job}

/-! ### The gantry and the job -/

theorem State.handBack_gantry : s.handBack.gantry = s.gantry := congrArg Floor.gantry s.handBack_floor

theorem State.dropReservation_gantry : s.dropReservation.gantry = s.gantry := by
  cases h : s.job with
  | none => simp only [State.dropReservation, h]
  | some j => exact congrArg Floor.gantry (State.dropReservation_floor h)

theorem State.lockoutReport_gantry : s.lockoutReport.gantry = s.gantry := by
  unfold State.lockoutReport
  split <;> rfl

theorem State.lockoutReport_eq (s : State) : s.lockoutReport = { s with link := s.lockoutReport.link } := by
  unfold State.lockoutReport
  split <;> rfl

/-- A lost carry is the fault DROP with every axis halted, and ends the job (R100, R141). -/
theorem State.carryLoss_gantry (e : GripEvent) (z : Zone) :
    (s.carryLoss e z).gantry = { s.gantry.halt with heldChange := false, state := .faulted .drop } := by
  unfold State.carryLoss State.dropJob
  dsimp only
  rw [State.jobEnd_gantry, State.dropReservation_gantry, State.handBack_gantry, State.faultStop_eq]
  dsimp only [State.clearUsed, State.setGripper]
  rw [State.lockoutReport_gantry]
  rfl

theorem State.carryLoss_job (e : GripEvent) (z : Zone) : (s.carryLoss e z).job = none := State.jobEnd_job _

/-- The watch of a carry leaves everything, or the carry is lost. -/
theorem State.carryTest_cases (s : State) : s.carryTest = s ∨ s.watched = true ∧ ∃ e z, s.lossZone? = some z ∧ s.carryTest = s.carryLoss e z := by
  unfold State.carryTest
  split
  next hw =>
    split
    · exact .inl rfl
    next z hz => exact .inr ⟨hw, _, z, hz, rfl⟩
  · exact .inl rfl

theorem State.carryTest_kept (h : s.lossZone? = none) : s.carryTest = s := by
  rcases s.carryTest_cases with hk | ⟨_, e, z, hz, -⟩
  · exact hk
  · simp [hz] at h

theorem State.gripReported_eq (g : Gripper) (e : GripEvent) (r : Option JobRef) (xy : Option Int × Option Int) (z : Option Zone) :
    ((s.setGripper g).gripReport e z r xy).lockoutReport.clearUsed = { s with
      gripper := { g with used := noZones }
      link := ((s.setGripper g).gripReport e z r xy).lockoutReport.link } := by
  rw [State.lockoutReport_eq]
  rfl

/-- A failed grip leaves everything but the gripper and its mark in the job (R140). -/
theorem State.gripFailed_eq (e : GripEvent) : s.gripFailed e = { s with
    gripper := { (s.gripper.mapUsed (ZoneRec.setValve .off)).growth with timer := none, used := noZones }
    link := (s.gripFailed e).link
    job := s.job.map (fun j => { j with gripFailed := true }) } := by
  unfold State.gripFailed
  dsimp only
  generalize (s.gripper.mapUsed (ZoneRec.setValve .off)).growth = g
  rw [State.gripReported_eq]
  rfl

theorem State.ungrippableLane_gantry (l : LaneId) : (s.ungrippableLane l).gantry = s.gantry := by
  unfold State.ungrippableLane
  split <;> rfl

theorem State.ungrippableSlot_gantry (i : SlotId) : (s.ungrippableSlot i).gantry = s.gantry := by
  unfold State.ungrippableSlot
  split <;> rfl

/-- The end of a job whose grip failed, up to the job end: the placement and the reservation go back, and the source is given up
(R100). -/
def State.sourceLost (s : State) (j : Job) : State :=
  match j.source with
  | .lane l => s.ungrippableLane l
  | .slot i => s.ungrippableSlot i
  | .magazine =>
    match j.station with
    | some st => if (s.stn.get st).mode = .plain .building then s.stationSet st (.plain (.held .sheetsOut)) else s
    | none => s

theorem State.failedJobEnd_eq (s : State) (j : Job) : s.failedJobEnd j = (s.handBack.dropReservation.sourceLost j).jobEnd := rfl

theorem State.sourceLost_gantry : (s.sourceLost j).gantry = s.gantry := by
  unfold State.sourceLost
  split
  · exact State.ungrippableLane_gantry _
  · exact State.ungrippableSlot_gantry _
  · split
    · split
      · exact congrArg Floor.gantry (s.stationSet_floor _ _ _)
      · rfl
    · rfl

theorem State.failedJobEnd_gantry : (s.failedJobEnd j).gantry = s.gantry := by
  rw [State.failedJobEnd_eq, State.jobEnd_gantry, State.sourceLost_gantry, State.dropReservation_gantry, State.handBack_gantry]

theorem State.failedJobEnd_job : (s.failedJobEnd j).job = none := State.jobEnd_job _

/-- The end of CLEAR leaves the gantry IDLE, with every axis as it stood (R122). -/
theorem State.endClear_gantry : s.endClear.gantry = { s.gantry with state := .idle } := by
  unfold State.endClear
  split
  · exact State.gantryTo_gantry _ _
  · rw [State.gantryTo_gantry]
    split
    · rw [State.failedJobEnd_gantry]
    · rw [State.jobEnd_gantry]

theorem State.endClear_job : s.endClear.job = none := by
  unfold State.endClear
  split
  next h => exact (State.gantryTo_job _ _).trans h
  · rw [State.gantryTo_job]
    split
    · exact State.failedJobEnd_job
    · exact State.jobEnd_job _

theorem State.jobEnd_evalDue (h : s.job = some j) : s.jobEnd.evalDue = true := by
  rw [State.jobEnd_eq h]
  rfl

theorem State.gantryTo_evalDue_of (x : GState) (h : s.evalDue = true) : (s.gantryTo x).evalDue = true := by
  unfold State.gantryTo
  split
  · exact h
  · dsimp only
    split
    · rfl
    · exact h

/-! ### The station the job was bound to -/

/-- A sweep that starts changes a plan by verdicts taken away alone (R59). -/
theorem State.startSweep_plan (s : State) (st : StationId) : ∃ ids, (s.startSweep st).plan.get st = (s.plan.get st).unsweep ids := by
  cases hd : (s.plan.get st).sheetDue with
  | true => exact ⟨[], by rw [State.startSweep_of_sheet hd, Plan.unsweep_nil]; rfl⟩
  | false =>
    refine ⟨(s.plan.get st).eligiblePending.map Placement.id, ?_⟩
    rw [State.startSweep_of_places hd]
    dsimp only
    split
    · rw [State.sweepEnd_plan_stack.1]
      simp [State.setSweep]
    · simp [State.setSweep]

/-- From `s` to `u` a station keeps its state, or was BUILDING and is at the end of its queue (R29). -/
structure State.Winds (st : StationId) (s u : State) : Prop where
  closed : (u.plan.get st).closed = (s.plan.get st).closed
  empty : (s.plan.get st).queue = [] → (u.plan.get st).queue = []
  mode : (u.stn.get st).mode = (s.stn.get st).mode ∨ (s.stn.get st).mode = .plain .building ∧ (u.plan.get st).queue = []
    ∧ (u.stn.get st).mode = .plain (if (s.plan.get st).closed then .complete else .idle)

namespace State.Winds

theorem keep (hp : u.plan = s.plan) (hs : u.stn = s.stn) : s.Winds st u :=
  ⟨by rw [hp], by rw [hp]; exact fun h => h, .inl (by rw [hs])⟩

theorem refl (st : StationId) (s : State) : s.Winds st s := keep rfl rfl

theorem trans (h : s.Winds st t) (k : t.Winds st u) : s.Winds st u where
  closed := k.closed.trans h.closed
  empty := fun hq => k.empty (h.empty hq)
  mode := by
    rcases k.mode with hk | ⟨hb, hq, hk⟩
    · rcases h.mode with hh | ⟨hb, hq, hh⟩
      · exact .inl (hk.trans hh)
      · exact .inr ⟨hb, k.empty hq, hk.trans hh⟩
    · rcases h.mode with hh | ⟨-, -, hh⟩
      · exact .inr ⟨hh.symm.trans hb, hq, by rw [hk, h.closed]⟩
      · rw [hb] at hh
        split at hh <;> simp at hh

/-- Where the end of the queue is examined last, with no job bound, the state of the station is told (R29). -/
theorem endOfQueue_mode (h : s.Winds st t) (hb : t.boundTo st = false) : ((t.endOfQueue st).stn.get st).mode =
    if (s.stn.get st).mode = .plain .building ∧ (t.plan.get st).queue = []
      then .plain (if (s.plan.get st).closed then .complete else .idle) else (s.stn.get st).mode := by
  rw [State.endOfQueue_mode, h.closed]
  rcases h.mode with hm | ⟨hs, hq, hm⟩
  · simp only [hm, hb, and_true]
  · rw [hm]
    refine (if_neg ?_).trans (if_pos ⟨hs, hq⟩).symm
    rintro ⟨hn, -⟩
    split at hn <;> simp at hn

theorem endOfQueue (s : State) (st : StationId) : s.Winds st (s.endOfQueue st) := by
  have hp : (s.endOfQueue st).plan = s.plan := (State.StationsOnly.endOfQueue s st).plan
  refine ⟨by rw [hp], by rw [hp]; exact fun h => h, ?_⟩
  rw [State.endOfQueue_mode, hp]
  split
  next h => exact .inr ⟨h.1, h.2.1, rfl⟩
  · exact .inl rfl

theorem layersSwept (s : State) (st : StationId) : s.Winds st (s.layersSwept st) := by
  obtain ⟨ids, hp⟩ := State.layersSwept_plan (s := s) (st := st)
  refine ⟨by rw [hp]; rfl, fun h => ?_, .inl State.layersSwept_mode⟩
  rw [hp]
  have hq : (s.plan.get st).staying.queue = [] := by simp [Plan.staying, h]
  simp [Plan.unsweep, Plan.mapPlacements, hq]

theorem examineLayers (s : State) (st : StationId) : s.Winds st (s.examineLayers st) := by
  by_cases h : (splitQueue 0 (s.plan.get st).queue).2 = []
  · rw [State.examineLayers_kept h]
    exact refl st s
  · rw [State.examineLayers_gone h]
    exact (layersSwept s st).trans (endOfQueue _ st)


theorem of_mode (hp : (u.plan.get st).closed = (s.plan.get st).closed) (hq : (s.plan.get st).queue = [] → (u.plan.get st).queue = [])
    (hm : (u.stn.get st).mode = (s.stn.get st).mode) : s.Winds st u := ⟨hp, hq, .inl hm⟩

/-- What changes another station alone leaves this one. -/
theorem of_within {st' : StationId} (h : s.Within st' u) (hn : st ≠ st') : s.Winds st u :=
  .of_mode (by rw [h.plan st hn]) (by rw [h.plan st hn]; exact fun h => h) (by rw [h.stn st hn])

theorem setPState (s : State) (st : StationId) (id : Nat) (x : PState) : s.Winds st (s.setPState st id x) := by
  obtain ⟨hp, hm, -⟩ := s.setPState_keeps st id x
  refine .of_mode ?_ (fun h => ?_) (hm st)
  · rw [hp, PerStation.get_set_same]
    rfl
  · rw [hp, PerStation.get_set_same, Plan.modify, Plan.mapPlacements, h]
    rfl

theorem returnPlacement (s : State) (st : StationId) (id : Nat) (b : Bool) : s.Winds st (s.returnPlacement st id b) := by
  unfold State.returnPlacement
  split
  · split
    · split
      · have hn := (State.Winds.setPState s st id .pending).trans (.setPState _ st id .void)
        exact (hn.trans (.keep (State.noteVoid_plan ..) (State.noteVoid_stn ..))).trans (.examineLayers _ st)
      · exact .setPState s st id _
    · exact .refl st s
  · exact .refl st s

theorem sheetJobOver (s : State) (st : StationId) : s.Winds st (s.sheetJobOver st) := by
  refine .trans (t := s.setPlan st { s.plan.get st with queue := (s.plan.get st).queue.map fun l => { l with sheetJob := false } })
    (.of_mode ?_ (fun h => ?_) rfl) (.examineLayers _ st)
  · simp [State.setPlan]
  · simp [State.setPlan, h]

theorem startSweep (s : State) (st : StationId) : s.Winds st (s.startSweep st) := by
  obtain ⟨ids, hp⟩ := State.startSweep_plan s st
  refine .of_mode (by rw [hp]; rfl) (fun h => ?_) (by rw [(s.startSweep_stn st).1])
  rw [hp, Plan.unsweep, Plan.mapPlacements, h]
  rfl

end State.Winds

theorem State.returnPlacement_within (s : State) (st : StationId) (id : Nat) (b : Bool) : s.Within st (s.returnPlacement st id b) := by
  unfold State.returnPlacement
  split
  · split
    · split
      · exact (((s.setPState_within st id _).trans (State.setPState_within _ st id _)).trans (State.noteVoid_within _ st id)).trans
          (State.examineLayers_within _ st)
      · exact s.setPState_within st id _
    · exact .refl st s
  · exact .refl st s

/-- What hands the placement of a job back changes the station of the job alone (R24). -/
theorem State.handBack_of (h : s.job = some j) : j.station = none ∧ s.handBack = s
    ∨ ∃ st, j.station = some st ∧ (s.handBack = s ∨ ∃ id, s.handBack = s.returnPlacement st id j.abandoned) := by
  simp only [State.handBack, h]
  split
  next st id hk hd => exact .inr ⟨st, by simp [Job.station, hk, hd], .inr ⟨id, rfl⟩⟩
  next =>
    cases j.station with
    | none => exact .inl ⟨rfl, rfl⟩
    | some st => exact .inr ⟨st, rfl, .inl rfl⟩

theorem State.handBack_within (h : s.job = some j) (hs : j.station = some st) : s.Within st s.handBack := by
  rcases State.handBack_of h with ⟨hn, -⟩ | ⟨st', hn, hk | ⟨id, hk⟩⟩
  · simp [hn] at hs
  · rw [hk]
    exact .refl st s
  · obtain rfl : st' = st := by simpa [hn] using hs
    rw [hk]
    exact s.returnPlacement_within st' id _

theorem State.handBack_winds (h : s.job = some j) (hs : j.station = some st) : s.Winds st s.handBack := by
  rcases State.handBack_of h with ⟨hn, -⟩ | ⟨st', hn, hk | ⟨id, hk⟩⟩
  · simp [hn] at hs
  · rw [hk]
    exact .refl st s
  · obtain rfl : st' = st := by simpa [hn] using hs
    rw [hk]
    exact .returnPlacement s st' id _

theorem State.sheetGone_plan : (s.sheetGone j).plan = s.plan ∧ (s.sheetGone j).stn = s.stn := by
  unfold State.sheetGone
  split <;> exact ⟨rfl, rfl⟩

/-- The parts of the end of a job that come before the end of the queue of its station. -/
def State.jobCut (s : State) (j : Job) : State :=
  let s := (s.handBack.setJob none).sheetGone j
  match j.kind, j.dest with
  | .sheet, some (.sheet st) => s.sheetJobOver st
  | _, _ => s

theorem State.jobOff_station (hs : j.station = some st) : s.jobOff j = (s.jobCut j).endOfQueue st := by
  unfold State.jobOff
  rw [hs]
  rfl

theorem State.jobCut_winds (h : s.job = some j) (hs : j.station = some st) : s.Winds st (s.jobCut j) := by
  have hg : s.Winds st ((s.handBack.setJob none).sheetGone j) :=
    (State.handBack_winds h hs).trans (.keep State.sheetGone_plan.1 State.sheetGone_plan.2)
  unfold State.jobCut
  dsimp only
  split
  next st' hk hd =>
    obtain rfl : st' = st := by simpa [Job.station, hk, hd] using hs
    exact hg.trans (.sheetJobOver _ st')
  · exact hg

theorem State.jobCut_job : (s.jobCut j).job = none := by
  have hg : ((s.handBack.setJob none).sheetGone j).job = none := congrArg Floor.job (State.sheetGone_floor _ j)
  unfold State.jobCut
  dsimp only
  split
  · exact (congrArg Floor.job (State.sheetJobOver_floor _ _)).trans hg
  · exact hg

theorem State.sourceEnd_plan (src : Source) : (s.sourceEnd src).plan = s.plan ∧ (s.sourceEnd src).stn = s.stn
    ∧ (s.sourceEnd src).stack = s.stack := by
  unfold State.sourceEnd
  dsimp only
  (repeat' split) <;> exact ⟨rfl, rfl, rfl⟩

theorem State.stallTestAt_plan (o : Option StationId) : (s.stallTestAt o).plan = s.plan ∧ (s.stallTestAt o).stn = s.stn
    ∧ (s.stallTestAt o).stack = s.stack := by
  unfold State.stallTestAt
  split
  · unfold State.stallTest
    dsimp only
    (repeat' split) <;> exact ⟨rfl, rfl, rfl⟩
  · exact ⟨rfl, rfl, rfl⟩

theorem State.finishCell_plan : s.finishCell.plan = s.plan ∧ s.finishCell.stn = s.stn ∧ s.finishCell.stack = s.stack := by
  unfold State.finishCell
  split <;> exact ⟨rfl, rfl, rfl⟩

/-- The part of a job end behind its station touches no plan, stack or station. -/
theorem State.jobEnd_plan (h : s.job = some j) : s.jobEnd.plan = (s.jobOff j).plan ∧ s.jobEnd.stn = (s.jobOff j).stn
    ∧ s.jobEnd.stack = (s.jobOff j).stack := by
  rw [State.jobEnd_eq h]
  obtain ⟨fp, fs, fk⟩ := State.finishCell_plan (s := ((s.jobOff j).sourceEnd j.source).stallTestAt j.station)
  obtain ⟨ap, as, ak⟩ := State.stallTestAt_plan (s := (s.jobOff j).sourceEnd j.source) j.station
  obtain ⟨ep, es, ek⟩ := State.sourceEnd_plan (s := s.jobOff j) j.source
  exact ⟨fp.trans (ap.trans ep), fs.trans (as.trans es), fk.trans (ak.trans ek)⟩

theorem State.boundTo_of_none (h : s.job = none) (st : StationId) : s.boundTo st = false := by
  simp [State.boundTo, h]

/-- The state of a station whose job has ended (R29). -/
theorem State.jobEnd_mode (h : s.job = some j) (hs : j.station = some st) : (s.jobEnd.stn.get st).mode =
    if (s.stn.get st).mode = .plain .building ∧ (s.jobEnd.plan.get st).queue = []
      then .plain (if (s.plan.get st).closed then .complete else .idle) else (s.stn.get st).mode := by
  obtain ⟨hp, hn, -⟩ := State.jobEnd_plan h
  rw [hp, hn, State.jobOff_station hs, (State.StationsOnly.endOfQueue (s.jobCut j) st).plan]
  exact (State.jobCut_winds h hs).endOfQueue_mode (State.boundTo_of_none State.jobCut_job st)

end

end Sys2Proof.Machine
end

section
/-! SUPPORT. The position counters through the end of a motion (R117, R118, R121): nothing that follows the end of a move changes
them. -/

namespace Sys2Proof.Machine

/-- The position counters stand at `c`. -/
def State.CountsAt (c : PerAxis (Option Int)) (s : State) : Prop := s.gantry.counters = c

section

variable {s : State} {c : PerAxis (Option Int)}

theorem State.CountsAt.carryTest (h : s.CountsAt c) : s.carryTest.CountsAt c := by
  rcases s.carryTest_cases with hk | ⟨-, e, z, -, hk⟩
  · rw [hk]
    exact h
  · rw [hk, State.CountsAt, State.carryLoss_gantry]
    exact h

theorem State.countsAt_carries (c : PerAxis (Option Int)) : State.Carries (State.CountsAt c) (State.CountsAt c) where
  weaken := id
  gantry := fun _ hg h => hg.trans h
  report := fun _ h => h
  dispatch := id
  cell := fun _ h => h
  phase := fun _ h => h
  spill := fun _ h => h
  blow := id
  carry := fun h => .inl h.carryTest

namespace State.CountsAt

theorem endClear (h : s.CountsAt c) : s.endClear.CountsAt c := by
  rw [State.CountsAt, State.endClear_gantry]
  exact h

theorem startClear (h : s.CountsAt c) : s.startClear.CountsAt c := by
  have hp : (s.setPhase .clear).CountsAt c := h
  unfold State.startClear
  dsimp only
  split
  · exact hp
  · exact (State.countsAt_carries c).riseOr (fun _ => endClear) hp _

theorem startGripPhase (h : s.CountsAt c) : s.startGripPhase.CountsAt c := by
  have hp : (s.setPhase .grip).CountsAt c := h
  have hb (j : Job) : ((s.setPhase .grip).gripBegin j).1.CountsAt c := by
    unfold State.gripBegin
    dsimp only
    split <;> exact hp
  unfold State.startGripPhase
  dsimp only
  split
  · exact hp
  next j _ =>
    split
    · have hj := hb j
      split
      next e => rwa [e] at hj
      next u e =>
        rw [e] at hj
        refine startClear ?_
        rw [State.CountsAt, State.gripFailed_eq]
        exact hj
    · exact hp

theorem startPickDown (h : s.CountsAt c) : s.startPickDown.CountsAt c := by
  have hp : (s.setPhase .pickDown).CountsAt c := h
  unfold State.startPickDown
  dsimp only
  split
  · exact hp
  · exact (State.countsAt_carries c).descendOr (fun _ => startGripPhase) hp _ _

theorem approachXY (h : s.CountsAt c) : s.approachXY.CountsAt c := by
  unfold State.approachXY
  split
  · exact h
  next j _ =>
    obtain ⟨hx, hx'⟩ := (State.countsAt_carries c).startXY h (s.gantry.profileOf j.unladen) (s.sourceXY j) .t0
    split
    next e =>
      rw [e] at hx
      exact (State.countsAt_carries c).movingOr (fun _ => startPickDown) (hx rfl) _
    next e =>
      rw [e] at hx'
      exact hx'

theorem startApproach (h : s.CountsAt c) : s.startApproach.CountsAt c := by
  have hp : (s.setPhase .approach).CountsAt c := h
  unfold State.startApproach
  dsimp only
  split
  · exact hp
  · exact (State.countsAt_carries c).riseOr (fun _ => approachXY) hp _

theorem replan (h : s.CountsAt c) : s.replan.CountsAt c := by
  have hk := State.countsAt_carries c
  have hc : s.computeTravel.CountsAt c := h
  unfold State.replan
  split
  · exact h
  next j _ =>
    dsimp only
    split
    · exact hk.holdUp (hk.gantryTo (hk.phase _ hc) _).carryTest
    · have hg := hk.gantryTo hc .busy
      split
      · exact hg.startApproach
      · exact hg.startPickDown
      · split
        · exact hk.startPickUp hg
        · split
          · exact hg.startClear
          · exact hg.startGripPhase
      · exact hk.startPickUp hg
      · exact hk.retravel hg.carryTest
      · exact hk.startSetDown hg
      · split
        · exact hg.startClear
        · exact hk.startReleasePhase hg
      · exact hg.startClear

theorem atRest (h : s.CountsAt c) (d : Bool) : (s.atRest d).CountsAt c := by
  have hk := State.countsAt_carries c
  have hr {t : State} (ht : t.CountsAt c) : (if t.cell.run.going then
      (if t.gantry.heldChange then (t.setGantry { t.gantry with heldChange := false }).modifyJob
        (fun j => { j with phase := j.phase.redirected }) else t).replan else t.enterStopped).CountsAt c := by
    split
    · split
      · exact State.CountsAt.replan (s := State.modifyJob _ _) ht
      · exact ht.replan
    · exact hk.enterStopped ht
  unfold State.atRest
  split
  · exact hk.enterStopped h
  · split
    · exact h.endClear
    · dsimp only
      split
      · exact hr (t := s.setPhase _) h
      · exact hr h

/-- The end of a motion leaves the position counters (R121). -/
theorem motionDone (h : s.CountsAt c) : s.motionDone.CountsAt c := by
  have hk := State.countsAt_carries c
  have hm : (s.setMotion .none).CountsAt c := h
  unfold State.motionDone
  dsimp only
  split
  · exact hk.gantryTo hm _
  · exact hk.retravel hm
  · exact hk.holdUp hm
  · exact hm.atRest _
  · exact hm.approachXY
  · exact hk.travelXY hm
  · split
    · exact hk.travelXY hm
    · exact hm
  · exact hm.endClear
  · exact hm.startPickDown
  · exact hk.startSetDown hm
  · exact hm.startGripPhase
  · exact hk.startReleasePhase hm
  · exact hm

theorem settleMotion (h : s.CountsAt c) : s.settleMotion.CountsAt c := by
  unfold State.settleMotion
  split
  · exact h
  · exact h.motionDone

end State.CountsAt

end

end Sys2Proof.Machine
end

section
/-! THEOREM. The end of a move and the next phase (R113, R115, R119 to R122, R138). -/

namespace Sys2Proof.Machine

section

variable {s : State} {j : Job} {a : LinAxis} {m : Move} {g : Gantry}

/-! ### The event -/

theorem exec_moveEnd_still (h : (s.gantry.axes.get a).move = none) : exec (.moveEnd (.lin a)) s = .next s.ended := by
  have he : s.fresh.moveEnds (.lin a) = s.fresh := by
    unfold State.moveEnds
    dsimp only
    split
    · rfl
    next m hm => exact absurd (hm.symm.trans h) (by simp)
  exact congrArg _ ((congrArg State.settle he).trans (State.settle_ended _ rfl rfl))

theorem exec_moveEnd_still_t (h : s.gantry.t.move = none) : exec (.moveEnd .T) s = .next s.ended := by
  have he : s.fresh.moveEnds .T = s.fresh := by
    unfold State.moveEnds
    dsimp only
    split
    · rfl
    next m hm => exact absurd (hm.symm.trans h) (by simp)
  exact congrArg _ ((congrArg State.settle he).trans (State.settle_ended _ rfl rfl))

theorem exec_moveEnd_lin (h : (s.gantry.axes.get a).move = some m) : exec (.moveEnd (.lin a)) s =
    .next (s.fresh.setGantry (s.gantry.setAxis a ((s.gantry.axes.get a).arrived m))).settleMotion.settle := by
  have he : s.fresh.moveEnds (.lin a) =
      (s.fresh.setGantry (s.gantry.setAxis a ((s.gantry.axes.get a).arrived m))).settleMotion := by
    unfold State.moveEnds
    dsimp only
    split
    next hm => exact absurd (hm.symm.trans h) (by simp)
    next m' hm =>
      obtain rfl : m' = m := by simpa [h] using hm.symm
      rfl
  exact congrArg _ (congrArg State.settle he)

theorem exec_moveEnd_turned {t : Turn} (h : s.gantry.t.move = some t) (hw : s.inputs.homeT = decide (t = .t0)) :
    exec (.moveEnd .T) s = .next (s.fresh.turned t).settleMotion.settle := by
  have hsw : switchAgrees t s.inputs.homeT = true := by
    rw [hw]
    cases t <;> rfl
  have he : s.fresh.moveEnds .T = (s.fresh.turned t).settleMotion := by
    unfold State.moveEnds
    dsimp only
    split
    next hm => exact absurd (hm.symm.trans h) (by simp)
    next t' hm =>
      obtain rfl : t' = t := by simpa [h] using hm.symm
      exact if_pos hsw
  exact congrArg _ (congrArg State.settle he)

/-! ### The end of a motion -/

theorem State.settleMotion_moving (h : s.gantry.moving = true) : s.settleMotion = s := if_pos h

theorem State.settleMotion_still (h : s.gantry.moving = false) : s.settleMotion = s.motionDone := by
  rw [State.settleMotion, h]
  rfl

theorem State.movingOr_moving {next : State → State} {k : Motion} (h : s.gantry.moving = true) :
    s.movingOr k next = s.setMotion k := if_pos h

section phases

variable (hj : s.job = some j)
include hj

theorem State.motionDone_approach_rise (hm : s.gantry.motion = .rise) (hp : j.phase = .approach) :
    s.motionDone = (s.setMotion .none).approachXY := by simp [State.motionDone, hm, hj, hp]

theorem State.motionDone_approach_travel (hm : s.gantry.motion = .travel) (hp : j.phase = .approach) :
    s.motionDone = (s.setMotion .none).startPickDown := by simp [State.motionDone, hm, hj, hp]

theorem State.motionDone_pickDown (hm : s.gantry.motion = .descent) (hp : j.phase = .pickDown) :
    s.motionDone = (s.setMotion .none).startGripPhase := by simp [State.motionDone, hm, hj, hp]

theorem State.motionDone_rise (hm : s.gantry.motion = .rise)
    (hp : j.phase = .pickUp ∨ j.phase = .travel ∧ s.gantry.state = .busy) : s.motionDone = (s.setMotion .none).travelXY := by
  rcases hp with hp | ⟨hp, hb⟩
  · simp [State.motionDone, hm, hj, hp]
  · simp [State.motionDone, hm, hj, hp, hb]

theorem State.motionDone_travel (hm : s.gantry.motion = .travel) (hp : j.phase = .travel) :
    s.motionDone = (s.setMotion .none).startSetDown := by simp [State.motionDone, hm, hj, hp]

theorem State.motionDone_setDown (hm : s.gantry.motion = .descent) (hp : j.phase = .setDown) :
    s.motionDone = (s.setMotion .none).startReleasePhase := by simp [State.motionDone, hm, hj, hp]

theorem State.motionDone_clear (hm : s.gantry.motion = .rise) (hp : j.phase = .clear) :
    s.motionDone = (s.setMotion .none).endClear := by simp [State.motionDone, hm, hj, hp]

end phases

/-! ### What starts, where an axis has a way to go -/

theorem State.setPhase_of (hj : s.job = some j) (p : Phase) : s.setPhase p = { s with job := some { j with phase := p } } := by
  unfold State.setPhase
  rw [hj]
  rfl

/-- A gantry whose Z is on its way down. -/
def Gantry.descending (g : Gantry) (d : Move) : Gantry :=
  { g with motion := .descent, axes := { g.axes with z := { g.axes.z with move := some d } } }

/-- The descent of a job, as `newDescent` plans it from where Z stands. -/
def State.descentTo (s : State) (j : Job) (z : Int) : Move :=
  newDescent s.inputs.warning (s.gantry.profileOf j.laden) j.speed j.dist s.gantry.axes.z.at z

theorem State.lowered_movingOr {next : State → State} {z : Int} (hz : s.gantry.axes.z.at ≠ z) :
    (s.setGantry (s.lowered j z)).movingOr .descent next = s.setGantry (s.gantry.descending (s.descentTo j z)) := by
  have hg : s.lowered j z = { s.gantry with axes := { s.gantry.axes with z := { s.gantry.axes.z with
      move := some (s.descentTo j z) } } } := by
    unfold State.lowered
    rw [if_neg hz.symm]
    rfl
  rw [hg, State.movingOr_moving (by simp [Gantry.moving])]
  rfl

/-- The descent to the source (R121). -/
theorem State.startPickDown_descends (hj : s.job = some j) (hl : ∀ side, s.inputs.limit .Z side = false)
    (hz : s.gantry.axes.z.at ≠ s.sourceZ j) : s.startPickDown = { s with
      job := some { j with phase := .pickDown }, gantry := s.gantry.descending (s.descentTo j (s.sourceZ j)) } := by
  rw [State.startPickDown_free hj hl]
  refine (State.lowered_movingOr (s := s.setPhase .pickDown) (z := s.sourceZ j) hz).trans ?_
  rw [State.setPhase_of hj]
  rfl

/-- The descent to the destination (R121). -/
theorem State.startSetDown_descends {d : Dest} (hj : s.job = some j) (hd : j.dest = some d)
    (hl : ∀ side, s.inputs.limit .Z side = false) (hz : s.gantry.axes.z.at ≠ s.destZ j d) : s.startSetDown = { s with
      job := some { j with phase := .setDown }, gantry := s.gantry.descending (s.descentTo j (s.destZ j d)) } := by
  rw [State.startSetDown_free hj hd hl]
  refine (State.lowered_movingOr (s := s.setPhase .setDown) (z := s.destZ j d) hz).trans ?_
  rw [State.setPhase_of hj]
  rfl

/-- X, Y and T are on their way where X has a way to go (R121). -/
theorem State.sentXY_movingOr {next : State → State} {p : Profile} {xy : Int × Int} {t : Turn} (hx : s.gantry.axes.x.at ≠ xy.1) :
    (s.setGantry (s.sentXY p xy t)).movingOr .travel next = s.setGantry { s.sentXY p xy t with motion := .travel } := by
  rw [State.movingOr_moving]
  · rfl
  · simp [State.sentXY, LinState.sentTo, hx.symm, Gantry.moving]

/-- The travel to the source (R119, R121). -/
theorem State.approachXY_travels (hj : s.job = some j) (hc : s.inputs.Clear) (hx : s.gantry.axes.x.at ≠ (s.sourceXY j).1) :
    s.approachXY = s.setGantry { s.sentXY (s.gantry.profileOf j.unladen) (s.sourceXY j) .t0 with motion := .travel } := by
  rw [State.approachXY_clear hj hc]
  exact State.sentXY_movingOr hx

theorem State.onTravel_of {d : Dest} (hj : s.job = some j) (hd : j.dest = some d) :
    s.onTravel = { s with job := some (j.onTravel s.spill d) } := by
  have h := State.onTravel_job hj hd
  rw [← h]
  rfl

/-- The travel to the destination (R119, R121). -/
theorem State.travelXY_travels {d : Dest} (hj : s.job = some j) (hd : j.dest = some d) (hc : s.inputs.Clear)
    (hx : s.gantry.axes.x.at ≠ (s.destXY (j.onTravel s.spill d) d).1) : s.travelXY = { s with
      job := some (j.onTravel s.spill d)
      gantry := { s.sentXY (s.gantry.profileOf j.laden) (s.destXY (j.onTravel s.spill d) d) j.turn with motion := .travel } } := by
  rw [State.travelXY_eq, State.travelOn_clear (State.onTravel_job hj hd) hd hc]
  refine (State.sentXY_movingOr (s := s.onTravel) hx).trans ?_
  rw [State.onTravel_of hj hd]
  rfl

theorem Gripper.mapUsed_zones (g : Gripper) (f : ZoneRec → ZoneRec) (z : Zone) :
    (g.mapUsed f).zones.get z = if g.used.get z then f (g.zones.get z) else g.zones.get z := by
  cases z <;> rfl

/-- A release that starts leaves the used zones with the valve closed and the blow-off open (R143). -/
theorem Gripper.blow_zones (g : Gripper) (n : Nat) (z : Zone) : (g.blow n).zones.get z =
    if g.used.get z && !(g.zones.get z).faulted then ⟨.off, true, false⟩ else g.zones.get z := by
  have hb : (g.blow n).zones.get z = ((g.mapUsed (ZoneRec.setValve .off)).mapUsed (ZoneRec.setBlow true)).zones.get z := rfl
  rw [hb, Gripper.mapUsed_zones, Gripper.mapUsed_zones]
  cases hu : g.used.get z with
  | false => simp [Gripper.mapUsed, hu]
  | true => cases hf : (g.zones.get z).faulted <;> simp [Gripper.mapUsed, ZoneRec.setValve, ZoneRec.setBlow, hu, hf]

theorem State.startReleasePhase_holding (hj : s.job = some j) (hg : s.gripper.state = .holding) : s.startReleasePhase = { s with
    job := some { j with phase := .release }, gripper := s.gripper.blow 1 } := by
  unfold State.startReleasePhase
  dsimp only
  rw [State.setPhase_of hj]
  exact if_pos hg

/-! ### The end of CLEAR -/

theorem State.handBack_job : s.handBack.job = s.job := congrArg Floor.job s.handBack_floor

theorem State.dropReservation_job (hj : s.job = some j) : s.dropReservation.job = some { j with reservation := none } :=
  congrArg Floor.job (State.dropReservation_floor hj)

theorem State.sourceLost_job : (s.sourceLost j).job = s.job := by
  unfold State.sourceLost
  split
  · unfold State.ungrippableLane
    split <;> rfl
  · unfold State.ungrippableSlot
    split <;> rfl
  · split
    · split
      · exact congrArg Floor.job (s.stationSet_floor _ _ _)
      · rfl
    · rfl

theorem State.endClear_evalDue (hj : s.job = some j) : s.endClear.evalDue = true := by
  unfold State.endClear
  rw [hj]
  refine State.gantryTo_evalDue_of _ ?_
  split
  · refine State.jobEnd_evalDue (State.sourceLost_job.trans (State.dropReservation_job (State.handBack_job.trans hj)))
  · exact State.jobEnd_evalDue hj

theorem State.gantryTo_plan (s : State) (x : GState) : (s.gantryTo x).plan = s.plan ∧ (s.gantryTo x).stn = s.stn
    ∧ (s.gantryTo x).stack = s.stack := by
  rw [State.gantryTo_eq]
  exact ⟨rfl, rfl, rfl⟩

/-- The state of the station of a job that ends with its CLEAR (R29); a failed grip does more beside. -/
theorem State.endClear_mode {st : StationId} (hj : s.job = some j) (hs : j.station = some st)
    (hg : j.gripFailed = false ∨ j.gripped = true) : (s.endClear.stn.get st).mode =
    if (s.stn.get st).mode = .plain .building ∧ (s.endClear.plan.get st).queue = []
      then .plain (if (s.plan.get st).closed then .complete else .idle) else (s.stn.get st).mode := by
  have he : s.endClear = s.jobEnd.gantryTo .idle := by
    unfold State.endClear
    rw [hj]
    dsimp only
    rw [if_neg]
    rcases hg with h | h <;> simp [h]
  obtain ⟨hp, hn, -⟩ := s.jobEnd.gantryTo_plan .idle
  rw [he, hp, hn]
  exact State.jobEnd_mode hj hs

/-! ### The table of places -/

/-- The places of the sources (R119). -/
theorem State.source_places {c : ArrivalRec} {q : Measured} (hm : c.meas = some q) (hg : j.gripped = false) (hc : j.carried = none) :
    (∀ l rest, j.source = .lane l → (s.lanes.get l).fifo = c :: rest →
      s.sourceXY j = (((s.gantry.geometry.pick.get l).x : Int) - ((q.len / 2 : Nat) : Int), ((s.gantry.geometry.pick.get l).y : Int))
      ∧ s.sourceZ j = ((s.gantry.geometry.pick.get l).h : Int) + q.hei)
    ∧ ∀ (i : SlotId) n k, j.source = .slot i → s.slots[i] = .held c n k →
      s.sourceXY j = ((s.gantry.geometry.slots[i].x : Int), (s.gantry.geometry.slots[i].y : Int))
      ∧ s.sourceZ j = (s.gantry.geometry.slots[i].h : Int) + q.hei := by
  refine ⟨fun l rest hs hf => ?_, fun i n k hs hf => ?_⟩
  · simp [State.sourceXY, State.sourceZ, State.jobHeight, State.jobCase, State.sourceCase, ArrivalRec.mlen, ArrivalRec.mhei,
      hs, hf, hg, hc, hm]
  · have hr : (s.slots[(i : Nat)]).record = some c := congrArg Slot.record hf
    simp [State.sourceXY, State.sourceZ, State.jobHeight, State.jobCase, State.sourceCase, ArrivalRec.mhei, hs, hr, hg, hc, hm]

theorem State.jobHeight_case {c : ArrivalRec} {q : Measured} (hm : c.meas = some q) (hc : j.carried = some (.case c)) :
    s.jobHeight j = q.hei := by
  simp [State.jobHeight, State.jobCase, ArrivalRec.mhei, hc, hm]

theorem State.jobHeight_sheet (hc : j.carried = some .sheet) : s.jobHeight j = 2 := by
  simp [State.jobHeight, hc]

/-- The state in which the next phase starts, a motion having ended with the gantry `g`. -/
def State.halted (s : State) (g : Gantry) : State := (s.fresh.setGantry g).setMotion .none

section places

variable (hg : g.geometry = s.gantry.geometry)
include hg

theorem State.halted_sourceZ : (s.halted g).sourceZ j = s.sourceZ j := by
  simp only [State.sourceZ, State.halted, State.setMotion, State.setGantry, hg]
  rfl

theorem State.halted_sourceXY : (s.halted g).sourceXY j = s.sourceXY j := by
  simp only [State.sourceXY, State.halted, State.setMotion, State.setGantry, hg]
  rfl

theorem State.halted_destZ (d : Dest) : (s.halted g).destZ j d = s.destZ j d := by
  simp only [State.destZ, State.halted, State.setMotion, State.setGantry, hg]
  rfl

theorem State.halted_destXY (d : Dest) : (s.halted g).destXY j d = s.destXY j d := by
  simp only [State.destXY, State.halted, State.setMotion, State.setGantry, hg]
  rfl

end places

end

/-- Settles O45: the end of a move by the phase it ends, from the exact starts of the next. -/
theorem moveEndPutsTheAxisAtItsTarget : Obligations.MoveEndPutsTheAxisAtItsTarget := by
  refine ⟨fun s a h => exec_moveEnd_still h, fun s h => exec_moveEnd_still_t h, fun s a m g hm hg => ?_, fun s => rfl,
    fun s j g c q hg hq => ?_, fun s t g ht hg => ?_⟩
  · have he := exec_moveEnd_lin hm
    rw [← show g = s.gantry.setAxis a ((s.gantry.axes.get a).arrived m) from hg] at he
    have hd (hv : g.moving = false) : exec (.moveEnd (.lin a)) s = .next (s.fresh.setGantry g).motionDone.settle := by
      rw [he, State.settleMotion_still hv]
    have hgeo : g.geometry = s.gantry.geometry := by rw [hg]
    have hprof (r : Resolved) : g.profileOf r = s.gantry.profileOf r := by rw [hg]; rfl
    refine ⟨fun hv => ?_, ⟨_, he, ?_, (State.settleMotion_fixed _).trans (by rw [hg]; rfl)⟩, fun j hv hmo hj hp hgr hz => ?_, fun j hv hj hl => ⟨fun z hz hw => ?_,
      fun xy hmo hp hc hxy hx => ?_, fun d j' xy hmo hp hjd hc hj' hxy hx => ?_, fun hmo hp hgr => ?_, fun hmo hp => ?_⟩⟩
    · rw [he, State.settleMotion_moving hv]
      exact congrArg _ (State.settle_ended _ rfl rfl)
    · have hk : (s.fresh.setGantry g).settleMotion.gantry.counters = g.counters := State.CountsAt.settleMotion rfl
      have hc (g : Gantry) : (g.axes.get a).counter = g.counters.get a := by cases a <;> rfl
      rw [hc, hk, ← hc, hg]
      simp
    · have hs := (State.motionDone_pickDown (s := s.fresh.setGantry g) hj hmo hp).trans
        (State.startGripPhase_enough (s := (s.fresh.setGantry g).setMotion .none) hj hgr hz)
      refine ⟨_, hd hv, ?_⟩
      rw [hs, State.setPhase_of (s := (s.fresh.setGantry g).setMotion .none) hj]
      exact ⟨rfl, rfl, rfl, rfl, rfl, rfl, rfl⟩
    · have hs : (s.fresh.setGantry g).motionDone = { s with
          gantry := g.descending ((s.fresh.setGantry g).descentTo j z)
          job := some { j with phase := if j.phase = .approach then .pickDown else .setDown }
          evalDue := false, awaitDue := false } := by
        rcases hw with ⟨hmo, hp, rfl⟩ | ⟨hmo, hp, d, hjd, rfl⟩
        · rw [if_pos hp]
          have hst := State.startPickDown_descends (s := s.halted g) hj (hl .Z) (by rwa [State.halted_sourceZ hgeo])
          rw [State.halted_sourceZ hgeo] at hst
          exact (State.motionDone_approach_travel (s := s.fresh.setGantry g) hj hmo hp).trans hst
        · rw [if_neg (by simp [hp])]
          have hst := State.startSetDown_descends (s := s.halted g) hj hjd (hl .Z) (by rwa [State.halted_destZ hgeo])
          rw [State.halted_destZ hgeo] at hst
          exact (State.motionDone_travel (s := s.fresh.setGantry g) hj hmo hp).trans hst
      refine ⟨_, (s.fresh.setGantry g).descentTo j z, hd hv, hs, rfl, rfl, rfl, ?_⟩
      rw [← hprof]
      rfl
    · have hst := State.approachXY_travels (s := s.halted g) hj ⟨hl, hc⟩ (by rwa [State.halted_sourceXY hgeo, ← hxy])
      rw [State.halted_sourceXY hgeo, ← hxy] at hst
      have hs := (State.motionDone_approach_rise (s := s.fresh.setGantry g) hj hmo hp).trans hst
      refine ⟨_, hd hv, ?_⟩
      rw [hs, ← hprof]
      refine ⟨rfl, rfl, rfl, if_neg (Ne.symm hx), fun hy => if_pos hy.symm, fun hy => if_neg (Ne.symm hy), rfl⟩
    · have hxy' : (s.halted g).destXY (j.onTravel s.spill d) d = xy := by rw [State.halted_destXY hgeo, hxy, hj']; rfl
      have hst := State.travelXY_travels (s := s.halted g) hj hjd ⟨hl, hc⟩ (by rw [show (s.halted g).spill = s.spill from rfl, hxy']; exact hx)
      rw [show (s.halted g).spill = s.spill from rfl, hxy'] at hst
      have hs := (State.motionDone_rise (s := s.fresh.setGantry g) hj hmo (hp.imp_right fun h => ⟨h.1, by rw [← h.2, hg]; rfl⟩)).trans hst
      refine ⟨_, hd hv, ?_⟩
      rw [hs, ← hprof, hj']
      exact ⟨rfl, rfl, rfl, ⟨_, if_neg (Ne.symm hx), rfl, rfl, rfl⟩, fun hy => if_pos hy.symm,
        fun hy => ⟨_, if_neg (Ne.symm hy), rfl, rfl, rfl⟩, rfl⟩
    · have hs := (State.motionDone_setDown (s := s.fresh.setGantry g) hj hmo hp).trans
        (State.startReleasePhase_holding (s := (s.fresh.setGantry g).setMotion .none) hj hgr)
      refine ⟨_, hd hv, ?_⟩
      rw [hs]
      exact ⟨rfl, rfl, rfl, rfl, s.gripper.blow_zones 1⟩
    · have hs := State.motionDone_clear (s := s.fresh.setGantry g) hj hmo hp
      refine ⟨_, hd hv, ?_⟩
      rw [hs]
      refine ⟨State.endClear_job, by rw [State.endClear_gantry], by rw [State.endClear_gantry]; exact hv,
        State.endClear_evalDue hj, fun st hst hgf => State.endClear_mode hj hst hgf⟩
  · subst hg
    refine ⟨State.source_places hq, fun hs => ?_, fun hc => ⟨fun st id p r hp hr => ?_, fun i => ?_, fun k hk => ?_, ?_⟩,
      fun hc => ⟨?_, fun st r hr => ⟨?_, ?_⟩⟩⟩
    · simp [State.sourceXY, State.sourceZ, hs]
    · simp [State.destXY, State.destZ, Job.base, hp, hr, State.jobHeight_case hq hc]
    · simp [State.destXY, State.destZ, State.jobHeight_case hq hc]
    · simp [State.destXY, hk]
    · simp [State.destZ, State.jobHeight_case hq hc]
    · simp [State.destZ, State.jobHeight_sheet hc]
    · simp [State.destZ, Job.base, hr]
    · cases h : (s.stack.get st).limits.foot <;> simp [State.destXY, h]
  · refine ⟨fun hw hv => ?_, fun hw => ⟨_, exec_moveEnd_stuck ht hw, ?_⟩⟩
    · rw [exec_moveEnd_turned ht hw, hg]
      refine congrArg _ ((congrArg State.settle (State.settleMotion_moving ?_)).trans (State.settle_ended _ rfl rfl))
      rw [hg] at hv
      exact hv
    · rw [State.faultStop_eq]
      exact ⟨rfl, rfl, rfl, rfl⟩

end Sys2Proof.Machine
end

section
/-! SUPPORT. What a station keeps where a job gives up what it held of it (R24, R27, R29, R54, R101, R102): one relation through the
cancel and the conversion of the job. -/

namespace Sys2Proof.Machine

/-- From `s` to `u` a station gives up what a job held of it: it is not opened again, the plan of the other station stays, and a job
whose plan was abandoned (`a`) brings no placement into a new state but VOID (R24). -/
structure State.GivesUp (a : Bool) (st : StationId) (s u : State) : Prop extends s.Winds st u where
  plan : ∀ st', st' ≠ st → u.plan.get st' = s.plan.get st'
  states : a = true → ∀ q ∈ (u.plan.get st).placements, q.state = .void ∨ ∃ p ∈ (s.plan.get st).placements, q.state = p.state

section

variable {a : Bool} {st : StationId} {s t u : State} {j : Job}

theorem Plan.unsweep_states {p : Plan} {ids : List Nat} {q : Placement} (hq : q ∈ (p.unsweep ids).placements) :
    ∃ x ∈ p.placements, q.state = x.state := by
  rw [Plan.unsweep, Plan.placements_mapPlacements] at hq
  obtain ⟨x, hx, rfl⟩ := List.mem_map.mp hq
  refine ⟨x, hx, ?_⟩
  split <;> rfl

theorem Plan.staying_states {p : Plan} {q : Placement} (hq : q ∈ p.staying.placements) : ∃ x ∈ p.placements, q.state = x.state := by
  obtain ⟨l, hl, hql⟩ := Plan.mem_placements.mp hq
  exact ⟨q, Plan.mem_placements.mpr ⟨l, (List.mem_filter.mp hl).1, hql⟩, rfl⟩

theorem State.dropReservation_of (h : s.job = some j) (hs : j.station = some st) :
    s.dropReservation = (s.setJob (some { j with reservation := none })).sweepResume st := by
  simp only [State.dropReservation, h, hs]

theorem State.dropReservation_of_free (h : s.job = some j) (hs : j.station = none) :
    s.dropReservation = s.setJob (some { j with reservation := none }) := by
  simp only [State.dropReservation, h, hs]

namespace State.GivesUp

theorem keep (hp : u.plan = s.plan) (hs : u.stn = s.stn) : State.GivesUp a st s u where
  toWinds := .keep hp hs
  plan := fun _ _ => by rw [hp]
  states := fun _ q hq => .inr ⟨q, by rwa [hp] at hq, rfl⟩

theorem refl (a : Bool) (st : StationId) (s : State) : State.GivesUp a st s s := keep rfl rfl

theorem trans (h : State.GivesUp a st s t) (k : State.GivesUp a st t u) : State.GivesUp a st s u where
  toWinds := h.toWinds.trans k.toWinds
  plan := fun st' hn => (k.plan st' hn).trans (h.plan st' hn)
  states := fun ha q hq => by
    rcases k.states ha q hq with hv | ⟨p, hp, he⟩
    · exact .inl hv
    · rcases h.states ha p hp with hv | ⟨x, hx, hx'⟩
      · exact .inl (he.trans hv)
      · exact .inr ⟨x, hx, he.trans hx'⟩

theorem startSweep (s : State) (st : StationId) : State.GivesUp a st s (s.startSweep st) where
  toWinds := .startSweep s st
  plan := (State.startSweep_within s st).plan
  states := fun _ q hq => by
    obtain ⟨ids, hp⟩ := State.startSweep_plan s st
    rw [hp] at hq
    exact .inr (Plan.unsweep_states hq)

theorem sweepResume (s : State) (st : StationId) : State.GivesUp a st s (s.sweepResume st) := by
  unfold State.sweepResume
  split
  · exact .startSweep s st
  · exact .refl a st s

theorem endOfQueue (s : State) (st : StationId) : State.GivesUp a st s (s.endOfQueue st) where
  toWinds := .endOfQueue s st
  plan := fun _ _ => by rw [(State.StationsOnly.endOfQueue s st).plan]
  states := fun _ q hq => .inr ⟨q, by rwa [(State.StationsOnly.endOfQueue s st).plan] at hq, rfl⟩

theorem examineLayers (s : State) (st : StationId) : State.GivesUp a st s (s.examineLayers st) where
  toWinds := .examineLayers s st
  plan := (State.examineLayers_within s st).plan
  states := fun _ q hq => by
    by_cases h : (splitQueue 0 (s.plan.get st).queue).2 = []
    · rw [State.examineLayers_kept h] at hq
      exact .inr ⟨q, hq, rfl⟩
    · obtain ⟨ids, hp⟩ := State.layersSwept_plan (s := s) (st := st)
      rw [State.examineLayers_gone h, (State.StationsOnly.endOfQueue _ st).plan, hp] at hq
      obtain ⟨x, hx, hxq⟩ := Plan.unsweep_states hq
      obtain ⟨y, hy, hyx⟩ := Plan.staying_states hx
      exact .inr ⟨y, hy, hxq.trans hyx⟩

theorem returnPlacement (s : State) (st : StationId) (id : Nat) : State.GivesUp a st s (s.returnPlacement st id a) where
  toWinds := .returnPlacement s st id a
  plan := (State.returnPlacement_within s st id a).plan
  states := fun ha q hq => by
    subst ha
    unfold State.returnPlacement at hq
    split at hq
    next p hf =>
      split at hq
      · rw [if_pos rfl] at hq
        have hk : State.GivesUp true st _ _ := .examineLayers (((s.setPState st id .pending).setPState st id .void).noteVoid st id) st
        rcases hk.states rfl q hq with hv | ⟨x, hx, he⟩
        · exact .inl hv
        · rw [State.noteVoid_plan] at hx
          rcases State.setPState_state hx with ⟨hv, -⟩ | ⟨hx, hn⟩
          · exact .inl (he.trans hv)
          · rcases State.setPState_state hx with ⟨-, hi⟩ | ⟨hx, -⟩
            · exact absurd hi hn
            · exact .inr ⟨x, hx, he⟩
      · exact .inr ⟨q, hq, rfl⟩
    · exact .inr ⟨q, hq, rfl⟩

theorem sheetJobOver (s : State) (st : StationId) : State.GivesUp a st s (s.sheetJobOver st) := by
  refine .trans (t := s.setPlan st { s.plan.get st with queue := (s.plan.get st).queue.map fun l => { l with sheetJob := false } })
    ⟨.of_mode ?_ (fun h => ?_) rfl, fun st' hn => PerStation.get_set_ne _ _ hn, fun _ q hq => .inr ⟨q, ?_, rfl⟩⟩ (.examineLayers _ st)
  · simp [State.setPlan]
  · simp [State.setPlan, h]
  · simpa [State.setPlan, Plan.placements, Function.comp_def] using hq

theorem handBack (h : s.job = some j) (hs : j.station = some st) : State.GivesUp j.abandoned st s s.handBack := by
  rcases State.handBack_of h with ⟨hn, -⟩ | ⟨st', hn, hk | ⟨id, hk⟩⟩
  · simp [hn] at hs
  · rw [hk]
    exact .refl _ st s
  · obtain rfl : st' = st := by simpa [hn] using hs
    rw [hk]
    exact .returnPlacement s st' id

theorem dropReservation (h : s.job = some j) (hs : j.station = some st) : State.GivesUp a st s s.dropReservation := by
  rw [State.dropReservation_of h hs]
  exact .trans (t := s.setJob (some { j with reservation := none })) (keep rfl rfl) (.sweepResume _ st)

theorem jobEnd (h : s.job = some j) (hs : j.station = some st) : State.GivesUp j.abandoned st s s.jobEnd := by
  have hg : State.GivesUp j.abandoned st s ((s.handBack.setJob none).sheetGone j) :=
    (handBack h hs).trans (keep State.sheetGone_plan.1 State.sheetGone_plan.2)
  have hc : State.GivesUp j.abandoned st s (s.jobCut j) := by
    unfold State.jobCut
    dsimp only
    split
    next st' hk hd =>
      obtain rfl : st' = st := by simpa [Job.station, hk, hd] using hs
      exact hg.trans (.sheetJobOver _ st')
    · exact hg
  obtain ⟨hp, hn, -⟩ := State.jobEnd_plan h
  rw [State.jobOff_station hs] at hp hn
  exact (hc.trans (.endOfQueue _ st)).trans (keep hp hn)

/-- The cancel of a job (R99). -/
theorem cancelJob (h : s.job = some j) (hs : j.station = some st) : State.GivesUp j.abandoned st s s.cancelJob := by
  have hb : s.handBack.job = some j := State.handBack_job.trans h
  have hd := (handBack h hs).trans (dropReservation hb hs)
  have hdj : s.handBack.dropReservation.job = some { j with reservation := none } := State.dropReservation_job hb
  have hk (t : State) (src : Source) : (t.sourceBack src).plan = t.plan ∧ (t.sourceBack src).stn = t.stn
      ∧ (t.sourceBack src).job = t.job := by
    unfold State.sourceBack
    dsimp only
    (repeat' split) <;> exact ⟨rfl, rfl, rfl⟩
  have hg (t : State) : State.GivesUp j.abandoned st t t.gripAbandon := by
    rw [State.gripAbandon_eq]
    exact keep rfl rfl
  have hgj (t : State) : t.gripAbandon.job = t.job := by rw [State.gripAbandon_eq]
  have hc (t : State) : State.GivesUp j.abandoned st t t.cancelGantry := by
    rw [State.cancelGantry_eq]
    exact keep rfl rfl
  have ht (t : State) (he : t.job = some { j with reservation := none }) :
      State.GivesUp j.abandoned st t (t.gripAbandon.jobEnd.cancelGantry) :=
    ((hg t).trans (jobEnd (j := { j with reservation := none }) ((hgj t).trans he) hs)).trans (hc _)
  unfold State.cancelJob
  rw [h]
  dsimp only
  split
  · exact hd.trans (ht _ hdj)
  · obtain ⟨hp, hn, hj⟩ := hk s.handBack.dropReservation j.source
    exact (hd.trans (keep hp hn)).trans (ht _ (hj.trans hdj))

/-- The conversion of a job up to its destination (R102). -/
theorem putawayOff (h : s.job = some j) (hs : j.station = some st) : State.GivesUp j.abandoned st s (s.putawayOff j) := by
  have hb : s.handBack.job = some j := State.handBack_job.trans h
  have hd : State.GivesUp j.abandoned st s (s.handBack.dropReservation.modifyJob
      (fun j => { j with kind := .putaway, turn := .t0, spillK := none, dest := none })) :=
    ((handBack h hs).trans (dropReservation hb hs)).trans (keep rfl rfl)
  have he (t : State) : State.GivesUp j.abandoned st t ((t.endOfQueue st).stallTest st) := by
    refine (endOfQueue t st).trans (keep ?_ ?_)
    · exact (State.stallTestAt_plan (s := t.endOfQueue st) (some st)).1
    · exact (State.stallTestAt_plan (s := t.endOfQueue st) (some st)).2.1
  unfold State.putawayOff
  dsimp only
  rw [hs]
  dsimp only
  split
  next st' hk hdst =>
    obtain rfl : st' = st := by simpa [Job.station, hk, hdst] using hs
    exact (hd.trans (sheetJobOver _ st')).trans (he _)
  · exact hd.trans (he _)

end State.GivesUp

end

end Sys2Proof.Machine
end

section
/-! SUPPORT. What the gantry makes of a new destination of a job that carries its item (R102, R123): it leaves plans, stacks and the
spill table, and frees slots at most. -/

namespace Sys2Proof.Machine

/-- From `t` to `u` the gantry went on with a PUTAWAY job: nothing of the stations changed, a free slot stays free, and while the job
is there no slot and no lane changed. -/
structure State.Onward (t u : State) : Prop where
  plan : u.plan = t.plan
  stn : u.stn = t.stn
  stack : u.stack = t.stack
  spill : u.spill = t.spill
  free : ∀ i : SlotId, t.slots[i] = .empty false → u.slots[i] = .empty false
  stood : u.job ≠ none → u.slots = t.slots ∧ u.lanes = t.lanes
  putaway : ∀ k, u.job = some k → k.kind = .putaway

section

variable {s t u : State} {j : Job} {item : Item}

/-! ### The end of a job that is bound to no station -/

theorem State.jobOff_of_free (h : s.job = some j) (hs : j.station = none) : s.jobOff j = (s.setJob none).sheetGone j := by
  have hb : s.handBack = s := by
    rcases State.handBack_of h with ⟨-, hk⟩ | ⟨st, hn, -⟩
    · exact hk
    · simp [hs] at hn
  unfold State.jobOff
  rw [hb, hs]
  dsimp only
  split
  next st hk hd => simp [Job.station, hk, hd] at hs
  · rfl

theorem State.sourceEnd_free {i : SlotId} (h : s.slots[i] = .empty false) (src : Source) : (s.sourceEnd src).slots[i] = .empty false := by
  unfold State.sourceEnd
  split
  · exact h
  · dsimp only
    split
    · exact h
    · exact h
  next k =>
    have hk (hs : s.slots[k] = .empty true) : k ≠ i := by
      rintro rfl
      simp [hs] at h
    have hset (x : Slot) (hs : s.slots[k] = .empty true) : (s.slots.set k x)[i] = .empty false := by
      have hv : (k : Nat) ≠ i := fun hv => hk hs (Fin.ext hv)
      simpa [Vector.getElem_set_ne, hv] using h
    split
    next hs =>
      split
      · exact hset _ hs
      · exact hset _ hs
    · exact h

theorem State.finishCell_slots (s : State) : s.finishCell.slots = s.slots := by
  unfold State.finishCell
  split <;> rfl

theorem State.sheetGone_keeps : (s.sheetGone j).slots = s.slots ∧ (s.sheetGone j).stack = s.stack := by
  unfold State.sheetGone
  split <;> exact ⟨rfl, rfl⟩

/-- The end of a job that is bound to no station leaves plans, stacks and stations, and a free slot free (R82). -/
theorem State.Onward.jobEnd (hj : s.job = some j) (hs : j.station = none) : s.Onward s.jobEnd := by
  obtain ⟨hp, hn, hk⟩ := State.jobEnd_plan hj
  have ho := State.jobOff_of_free hj hs
  obtain ⟨gp, gn⟩ := State.sheetGone_plan (s := s.setJob none) (j := j)
  obtain ⟨gs, gk⟩ := State.sheetGone_keeps (s := s.setJob none) (j := j)
  refine ⟨?_, ?_, ?_, s.jobEnd_spill, fun i hi => ?_, fun h => absurd s.jobEnd_job h, fun k hk => ?_⟩
  · rw [hp, ho, gp]
    rfl
  · rw [hn, ho, gn]
    rfl
  · rw [hk, ho, gk]
    rfl
  · rw [State.jobEnd_eq hj, hs, State.dispatchEvent_slots, State.finishCell_slots]
    refine State.sourceEnd_free ?_ j.source
    rw [ho, gs]
    exact hi
  · rw [s.jobEnd_job] at hk
    cases hk

namespace State.Onward

theorem of_eq (hp : u.plan = t.plan) (hn : u.stn = t.stn) (hk : u.stack = t.stack) (hf : u.spill = t.spill) (hs : u.slots = t.slots)
    (hl : u.lanes = t.lanes) (hj : ∀ k, u.job = some k → k.kind = .putaway) : t.Onward u :=
  ⟨hp, hn, hk, hf, fun i hi => by rwa [hs], fun _ => ⟨hs, hl⟩, hj⟩

/-- Where the job has gone, or nothing of it changed, one such change follows another. -/
theorem trans (h : s.Onward t) (k : t.Onward u) (hs : t.slots = s.slots) (hl : t.lanes = s.lanes) : s.Onward u where
  plan := k.plan.trans h.plan
  stn := k.stn.trans h.stn
  stack := k.stack.trans h.stack
  spill := k.spill.trans h.spill
  free := fun i hi => k.free i (h.free i hi)
  stood := fun hj => ⟨(k.stood hj).1.trans hs, (k.stood hj).2.trans hl⟩
  putaway := k.putaway

end State.Onward

/-- A lost carry ends the job on a state that differs in the gripper, the gantry and the link alone (R141). -/
theorem State.carryLoss_drops (s : State) (e : GripEvent) (z : Zone) :
    ∃ w : State, s.carryLoss e z = w.dropJob ∧ w = { s with gripper := w.gripper, gantry := w.gantry, link := w.link } := by
  unfold State.carryLoss
  dsimp only
  generalize (s.gripper.mapUsed (ZoneRec.setValve .off)).growth = g
  rw [State.gripReported_eq]
  exact ⟨_, rfl, by rw [State.faultStop_eq]⟩

/-- The carry of a PUTAWAY job is lost (R100, R141). -/
theorem State.Onward.carryLoss (hj : u.job = some j) (hk : j.kind = .putaway) (e : GripEvent) (z : Zone) :
    u.Onward (u.carryLoss e z) := by
  obtain ⟨w, he, hw⟩ := u.carryLoss_drops e z
  have hs : j.station = none := by simp [Job.station, hk]
  have hwj : w.job = some j := by rw [hw]; exact hj
  have hb : w.handBack = w := by
    rcases State.handBack_of hwj with ⟨-, hk⟩ | ⟨st, hn, -⟩
    · exact hk
    · simp [hs] at hn
  rw [he, State.dropJob, hb, State.dropReservation_of_free hwj hs]
  refine State.Onward.trans (t := w.setJob (some { j with reservation := none })) ?_ (.jobEnd rfl hs) ?_ ?_
  · rw [hw]
    exact .of_eq rfl rfl rfl rfl rfl rfl fun k hk' => by cases hk'; exact hk
  · rw [hw]
    rfl
  · rw [hw]
    rfl

end

/-- A PUTAWAY job is under way, and nothing but the gantry, the gripper and the cell has changed since `t`. -/
def State.Carrying (t u : State) : Prop := t.Onward u ∧ u.slots = t.slots ∧ u.lanes = t.lanes ∧ u.job.isSome

section

variable {t : State}

theorem State.Carrying.mono {u v : State} (h : t.Carrying u) (hp : v.plan = u.plan) (hn : v.stn = u.stn) (hk : v.stack = u.stack)
    (hf : v.spill = u.spill) (hs : v.slots = u.slots) (hl : v.lanes = u.lanes) (f : Job → Job) (hj : v.job = u.job.map f)
    (hkind : ∀ j, (f j).kind = j.kind) : t.Carrying v := by
  obtain ⟨ho, hus, hul, huj⟩ := h
  have hv : v.slots = t.slots := hs.trans hus
  have hw : v.lanes = t.lanes := hl.trans hul
  refine ⟨.of_eq (hp.trans ho.plan) (hn.trans ho.stn) (hk.trans ho.stack) (hf.trans ho.spill) hv hw fun k hk => ?_, hv, hw, ?_⟩
  · rw [hj] at hk
    obtain ⟨x, hx, rfl⟩ := Option.map_eq_some_iff.mp hk
    exact (hkind x).trans (ho.putaway x hx)
  · rw [hj]
    simpa using huj

theorem State.Carrying.same {u v : State} (h : t.Carrying u) (hp : v.plan = u.plan) (hn : v.stn = u.stn) (hk : v.stack = u.stack)
    (hf : v.spill = u.spill) (hs : v.slots = u.slots) (hl : v.lanes = u.lanes) (hj : v.job = u.job) : t.Carrying v :=
  h.mono hp hn hk hf hs hl id (by simpa using hj) fun _ => rfl

theorem State.Carrying.weaken {u : State} (h : t.Carrying u) : t.Onward u := h.1

theorem State.carrying_carries (t : State) : State.Carries t.Carrying t.Onward where
  weaken := And.left
  gantry := fun _ _ h => h.same rfl rfl rfl rfl rfl rfl rfl
  report := fun _ h => h.same rfl rfl rfl rfl rfl rfl rfl
  dispatch := fun h => h.same rfl rfl rfl rfl rfl rfl rfl
  cell := fun _ h => h.same rfl rfl rfl rfl rfl rfl rfl
  phase := fun _ h => h.mono rfl rfl rfl rfl rfl rfl _ rfl fun _ => rfl
  spill := fun _ h => h.mono rfl rfl rfl rfl rfl rfl _ rfl fun j => by split <;> rfl
  blow := fun {s} h => State.Carrying.weaken (h.same (v := s.setGripper (s.gripper.blow 1)) rfl rfl rfl rfl rfl rfl rfl)
  carry := fun {s} h => by
    rcases s.carryTest_cases with hk | ⟨-, e, z, -, hk⟩
    · rw [hk]
      exact .inl h
    · obtain ⟨ho, hs, hl, hj⟩ := h
      obtain ⟨k, hj⟩ := Option.isSome_iff_exists.mp hj
      rw [hk]
      exact .inr ⟨ho.trans (.carryLoss hj (ho.putaway k hj) e z) hs hl, State.carryLoss_job e z⟩

/-- The gantry takes the destination of a PUTAWAY job (R123). -/
theorem State.gantryTakes_onward {j : Job} (hj : t.job = some j) (hk : j.kind = .putaway) : t.Onward t.gantryTakes := by
  refine (State.carrying_carries t).gantryTakes ⟨.of_eq rfl rfl rfl rfl rfl rfl fun k hk' => ?_, rfl, rfl, by simp [hj]⟩
  obtain rfl : j = k := by simpa [hj] using hk'
  exact hk

/-! ### The choice of a destination -/

theorem State.chooseDest_congr {u : State} {item : Item} (hf : u.fixed = t.fixed) (hp : u.plan = t.plan) (hs : u.slots = t.slots)
    (hm : u.spill = t.spill) : u.chooseDest item = t.chooseDest item := by
  have hi : u.inputs = t.inputs := congrArg Fixed.inputs hf
  have hfree : u.freeSlot? = t.freeSlot? := by
    have hb : u.slotFree = t.slotFree := funext fun i => by simp only [State.slotFree, hs, hi]
    rw [State.freeSlot?, hb, State.freeSlot?]
  have hw (r : ArrivalRec) : u.wantedRec r = t.wantedRec r := State.wantedRec_congr (State.wanted_of_plan hp) r
  simp only [State.chooseDest, hm, hfree, hw]

/-- A destination found before is not missing after (R102): the spill table and the slots are no fuller. -/
theorem State.Onward.chooseDest {u : State} {item : Item} (h : t.Onward u) (hf : u.fixed = t.fixed) (hn : t.chooseDest item ≠ none) :
    u.chooseDest item ≠ none := by
  have hi : u.inputs = t.inputs := congrArg Fixed.inputs hf
  have hw (r : ArrivalRec) : u.wantedRec r = t.wantedRec r := State.wantedRec_congr (State.wanted_of_plan h.plan) r
  have hfree : t.freeSlot? ≠ none → u.freeSlot? ≠ none := by
    unfold State.freeSlot?
    simp only [ne_eq, List.find?_eq_none, not_forall]
    rintro ⟨i, hm, hti⟩
    refine ⟨i, hm, ?_⟩
    simp only [State.slotFree, Bool.and_eq_true, beq_iff_eq, not_not] at hti ⊢
    exact ⟨h.free i hti.1, hi ▸ hti.2⟩
  unfold State.chooseDest at hn ⊢
  rw [h.spill]
  cases item with
  | sheet => exact hn
  | case r =>
    dsimp only at hn ⊢
    rw [hw]
    split
    next hr =>
      rw [if_pos hr] at hn
      split
      · simp
      next hu =>
        split at hn
        next ht => exact absurd hu (hfree (by simp [ht]))
        · exact hn
    next hr =>
      rwa [if_neg hr] at hn

end

end Sys2Proof.Machine
end

section
/-! SUPPORT. A BUSY gantry takes the new destination of a job that carries its item, or the lack of one (R102, R123). -/

namespace Sys2Proof.Machine

section

variable {s t u v e : State} {j : Job} {d : Dest} {item : Item}

/-! ### What the statements read of a state -/

theorem State.travelHeight_congr (hk : u.stack = t.stack) (hd : u.dir = t.dir) (hg : u.gantry.geometry = t.gantry.geometry)
    (hc : u.gantry.clearance = t.gantry.clearance) (hj : u.job.bind Job.carried = t.job.bind Job.carried) :
    u.travelHeight = t.travelHeight := by
  have hh : u.carriedHeight = t.carriedHeight := by simp only [State.carriedHeight, hj, hd]
  rw [State.travelHeight, State.travelHeight, hk, hg, hc, hh]

/-- The start of a TRAVEL is read off the spill table, the gantry, the inputs, the plans, the stacks, the gripper, the lanes and the
slots of the state in which it starts. -/
theorem State.TravelStarts.congr (h : v.TravelStarts u j d) (hs : e.spill = v.spill) (hg : e.gantry = v.gantry) (hi : e.inputs = v.inputs)
    (hp : e.plan = v.plan) (hk : e.stack = v.stack) (hr : e.gripper = v.gripper) (hl : e.lanes = v.lanes) (hsl : e.slots = v.slots) :
    e.TravelStarts u j d := by
  cases e
  cases v
  subst hs hg hi hp hk hr hl hsl
  exact h

theorem State.travelHeight_fixed (hk : u.stack = t.stack) (hf : u.fixed = t.fixed)
    (hj : u.job.bind Job.carried = t.job.bind Job.carried) : u.travelHeight = t.travelHeight :=
  State.travelHeight_congr hk (congrArg Fixed.dir hf) (congrArg (fun f => f.settings.geometry) hf)
    (congrArg (fun f => f.settings.clearance) hf) hj

theorem State.TravelStarts.job (h : v.TravelStarts u j d) : ∃ p k, u.job = some { j with phase := p, spillK := k } := by
  obtain ⟨hm, hr⟩ := h _ _ rfl rfl
  cases hx : (v.sentXY _ _ _).moving with
  | true => exact ⟨_, _, (hm hx).1⟩
  | false =>
    obtain ⟨hm', hr'⟩ := hr hx _ _ rfl rfl
    cases hy : (State.lowered _ _ _).moving with
    | true => exact ⟨_, _, (hm' hy).1⟩
    | false => exact ⟨_, _, (hr' hy).1⟩

/-! ### The rise of a gantry that waits -/

theorem State.startMove_z_job (p : Profile) (x : Int) : (s.startMove .Z p x).1.job = s.job := by
  unfold State.startMove State.startLin
  dsimp only
  split
  · rfl
  · split
    next h => simp at h
    · split
      · rw [State.faultStop_eq]
      · rfl

theorem State.riseOr_id_job : (s.riseOr j id).job = s.job := by
  have hz := State.startMove_z_job (s := s.computeTravel) (s.computeTravel.gantry.profileOf j.laden) s.computeTravel.gantry.lastTravel
  unfold State.riseOr
  dsimp only
  split
  · split
    next e =>
      rw [e] at hz
      exact hz
    next e =>
      rw [e] at hz
      exact hz
  · rfl

theorem State.holdUp_job : s.holdUp.job = s.job := by
  unfold State.holdUp
  split
  · rfl
  · split
    · exact State.riseOr_id_job
    · rfl

/-! ### TRAVEL planned again -/

theorem State.retravel_of (hj : s.job = some j) :
    s.retravel = (s.setPhase .travel).riseOr { j with phase := .travel } State.travelXY := by
  unfold State.retravel
  rw [State.setPhase_of hj]

/-- TRAVEL planned again with the gantry at rest (R121, R123), said of any state that differs in what a travel does not read. -/
theorem State.retravel_starts (hj : s.job = some j) (hd : j.dest = some d) :
    (s.inputs.limitHigh.z = false → s.gantry.axes.z.at < (s.travelHeight : Int) →
      s.retravel.job = some { j with phase := .travel }
      ∧ s.retravel.gantry = s.computeTravel.rising { j with phase := .travel })
    ∧ (s.inputs.Clear → (s.travelHeight : Int) ≤ s.gantry.axes.z.at →
      s.computeTravel.TravelStarts s.retravel { j with phase := .travel } d) := by
  have hj' : (s.setPhase .travel).job = some { j with phase := .travel } := by rw [State.setPhase_of hj]
  have hh : (s.setPhase .travel).travelHeight = s.travelHeight :=
    State.travelHeight_congr rfl rfl rfl rfl (by rw [hj', hj]; rfl)
  have hc : (s.setPhase .travel).computeTravel.gantry = s.computeTravel.gantry := by
    rw [State.computeTravel, State.computeTravel, hh]
    rfl
  rw [State.retravel_of hj]
  constructor
  · intro hl hz
    rw [State.riseOr_below (s := s.setPhase .travel) (by rw [hh]; exact hz) hl]
    refine ⟨hj', ?_⟩
    unfold State.rising
    dsimp only [State.setGantry]
    rw [hc]
    rfl
  · intro hcl hz
    rw [State.riseOr_above (s := s.setPhase .travel) (by rw [hh]; exact hz)]
    have ht := State.travelXY_starts (s := (s.setPhase .travel).computeTravel) hj' hd hcl
    exact ht.congr rfl hc.symm rfl rfl rfl rfl rfl rfl

/-! ### The gantry takes the destination -/

theorem Gantry.ramping_state (g : Gantry) (w : RestFor) (x : GState) : ({ g with state := x }).ramping w = { g.ramping w with state := x } := rfl

/-- The job waits: its axes ramp to rest in AWAIT_PUTAWAY (R123). -/
def State.awaiting (s : State) : State := ((s.setPhase .travel).gantryTo .awaitPutaway).rampAll .await

theorem State.awaiting_eq (hj : s.job = some j) : s.awaiting = { s with
    job := some { j with phase := .travel }, gantry := { s.gantry.ramping .await with state := .awaitPutaway }
    link := s.awaiting.link } := by
  have h := State.gantryTo_eq (s.setPhase .travel) .awaitPutaway
  rw [State.gantryTo_evalDue _ (by simp)] at h
  have hg : s.awaiting = ((s.setPhase .travel).gantryTo .awaitPutaway).setGantry
      { s.gantry.ramping .await with state := .awaitPutaway } := by
    rw [State.awaiting, State.rampAll_eq, State.gantryTo_gantry]
    rfl
  refine hg.trans ((congrArg (fun u : State => u.setGantry { s.gantry.ramping .await with state := .awaitPutaway }) h).trans ?_)
  rw [State.setPhase_of hj, hg, State.setPhase_of hj]
  rfl

theorem State.gantryTakes_await (hj : s.job = some j) (hb : s.gantry.state = .busy) (hd : j.dest = none) :
    s.gantryTakes = s.awaiting.settleMotion := by
  unfold State.gantryTakes
  rw [hj]
  dsimp only
  rw [hb]
  exact if_pos hd

/-- The axes of a job in TRAVEL or SET_DOWN ramp to rest for the new plan (R123). -/
theorem State.gantryTakes_replan (hj : s.job = some j) (hb : s.gantry.state = .busy) (hd : j.dest ≠ none)
    (hp : j.phase = .travel ∨ j.phase = .setDown) : s.gantryTakes =
    ((s.setJob (some { j with phase := .travel })).setGantry (s.gantry.ramping .replan)).settleMotion := by
  unfold State.gantryTakes
  rw [hj]
  dsimp only
  rw [hb]
  dsimp only
  rw [if_neg hd, if_pos hp, State.replanTravel, State.rampAll_eq, State.setPhase_of hj]
  rfl

theorem State.gantryTakes_rise (hj : s.job = some j) (hb : s.gantry.state = .busy) (hd : j.dest ≠ none) 
    (hp : j.phase ≠ .travel) (hp' : j.phase ≠ .setDown) : s.gantryTakes = s := by
  unfold State.gantryTakes
  rw [hj]
  dsimp only
  rw [hb]
  dsimp only
  rw [if_neg hd, if_neg (not_or.mpr ⟨hp, hp'⟩)]

/-- A job that waits has nothing of it changed but its phase, whatever becomes of the rise. -/
theorem State.gantryTakes_await_job (hj : s.job = some j) (hb : s.gantry.state = .busy) (hd : j.dest = none) :
    s.gantryTakes.job = some { j with phase := .travel } := by
  have ha : s.awaiting.job = some { j with phase := .travel } := by rw [State.awaiting_eq hj]
  have hm : s.awaiting.gantry.motion = .toRest .await := by rw [State.awaiting_eq hj]; rfl
  rw [State.gantryTakes_await hj hb hd]
  cases hv : s.awaiting.gantry.moving with
  | true => rw [State.settleMotion_moving hv, ha]
  | false =>
    rw [State.settleMotion_still hv]
    simp only [State.motionDone, hm]
    rw [State.holdUp_job]
    exact ha

/-- The first half of the change: a job that is left without a destination (R123, log 15). -/
theorem State.gantryTakes_waits (hj : s.job = some j) (hk : j.kind = .putaway) (hb : s.gantry.state = .busy) (hd : j.dest = none) (g : Gantry)
    (hg : g = { s.gantry.ramping .await with state := .awaitPutaway }) :
    s.gantryTakes.job = some { j with phase := .travel }
    ∧ (g.moving = true → s.gantryTakes.gantry = g)
    ∧ (g.moving = false → s.cell.run.going = false → s.gantryTakes.gantry = { g with motion := .none })
    ∧ (g.moving = false → s.cell.run.going = true → ∀ h : Nat, h = s.gantryTakes.travelHeight →
      ((h : Int) ≤ (g.axes.z).at → s.gantryTakes.gantry = { g with motion := .none, lastTravel := h })
      ∧ ((g.axes.z).at < (h : Int) → s.inputs.limitHigh.z = false → s.gantryTakes.gantry = { g with
          motion := .rise, lastTravel := h
          axes := { g.axes with
            z := g.axes.z.sentTo s.inputs.warning .Z (g.profileOf j.laden) h } })) := by
  have ha := State.awaiting_eq hj
  have hag : s.awaiting.gantry = g := by rw [ha, hg]
  have haj : s.awaiting.job = some { j with phase := .travel } := by rw [ha]
  have hac : s.awaiting.cell = s.cell := by rw [ha]
  have hai : s.awaiting.inputs = s.inputs := by rw [ha]
  have hm : s.awaiting.gantry.motion = .toRest .await := by rw [hag, hg]; rfl
  have hst (hv : g.moving = false) : s.gantryTakes = (s.awaiting.setMotion .none).holdUp := by
    rw [State.gantryTakes_await hj hb hd, State.settleMotion_still (by rw [hag]; exact hv)]
    simp only [State.motionDone, hm]
  have hup (hv : g.moving = false) (hgo : s.cell.run.going = true) :
      s.gantryTakes = (s.awaiting.setMotion .none).riseOr { j with phase := .travel } id := by
    rw [hst hv]
    unfold State.holdUp
    rw [show (s.awaiting.setMotion .none).job = some { j with phase := .travel } from haj]
    exact if_pos (by rw [show (s.awaiting.setMotion .none).cell = s.cell from hac]; exact hgo)
  have hwg : (s.awaiting.setMotion .none).gantry = { g with motion := .none } := by rw [State.setMotion_gantry, hag]
  have hheight : s.gantryTakes.travelHeight = (s.awaiting.setMotion .none).travelHeight := by
    have hjt : s.gantryTakes.job.bind Job.carried = s.job.bind Job.carried := by
      rw [State.gantryTakes_await_job hj hb hd, hj]
      rfl
    rw [State.travelHeight_fixed (State.gantryTakes_onward hj hk).stack s.gantryTakes_fixed hjt]
    refine (State.travelHeight_congr ?_ ?_ ?_ ?_ ?_).symm
    · rw [ha]; rfl
    · rw [ha]; rfl
    · rw [hwg, hg]; rfl
    · rw [hwg, hg]; rfl
    · rw [show (s.awaiting.setMotion .none).job = some { j with phase := .travel } from haj, hj]
      rfl
  refine ⟨State.gantryTakes_await_job hj hb hd, fun hv => ?_, fun hv hgo => ?_, fun hv hgo h hh => ⟨fun hz => ?_, fun hz hl => ?_⟩⟩
  · rw [State.gantryTakes_await hj hb hd, State.settleMotion_moving (by rw [hag]; exact hv), hag]
  · rw [hst hv]
    unfold State.holdUp
    rw [show (s.awaiting.setMotion .none).job = some { j with phase := .travel } from haj]
    dsimp only
    rw [if_neg (by rw [show (s.awaiting.setMotion .none).cell = s.cell from hac]; simp [hgo])]
    rw [State.setMotion_gantry, hag]
  · have hw : h = (s.awaiting.setMotion .none).travelHeight := hh.trans hheight
    rw [hup hv hgo, State.riseOr_above (by rw [← hw]; exact hwg ▸ hz)]
    change { (s.awaiting.setMotion .none).gantry with lastTravel := (s.awaiting.setMotion .none).travelHeight } = _
    rw [← hw, hwg]
  · have hw : h = (s.awaiting.setMotion .none).travelHeight := hh.trans hheight
    rw [hup hv hgo, State.riseOr_below (by rw [← hw]; exact hwg ▸ hz) (hai ▸ hl)]
    change { (s.awaiting.setMotion .none).gantry with
      motion := .rise, lastTravel := (s.awaiting.setMotion .none).travelHeight
      axes := { (s.awaiting.setMotion .none).gantry.axes with
        z := (s.awaiting.setMotion .none).gantry.axes.z.sentTo s.awaiting.inputs.warning .Z
          ((s.awaiting.setMotion .none).gantry.profileOf j.laden) (s.awaiting.setMotion .none).travelHeight } } = _
    rw [← hw, hwg, hai]
    rfl


theorem State.rising_congr {k : Job} (hg : e.gantry = v.gantry) (hi : e.inputs = v.inputs) (hl : k.laden = j.laden) :
    e.rising k = v.rising j := by
  unfold State.rising
  rw [hg, hi, hl]

/-- The state with its axes ramping to rest for the new plan. -/
def State.replanning (s : State) (j : Job) : State :=
  (s.setJob (some { j with phase := .travel })).setGantry (s.gantry.ramping .replan)

/-- Where the gantry stands as TRAVEL is planned from rest (R120, R123). -/
theorem State.starting_gantry {g : Gantry} (hg : g = (s.replanning j).gantry) (hb : s.gantry.state = .busy) (hk : u.stack = s.stack)
    (hf : u.fixed = s.fixed) :
    (s.starting u { j with dest := u.chooseDest item, phase := .travel } { g with motion := .none }).gantry =
      ((s.replanning j).setMotion .none).computeTravel.gantry := by
  have hst : (s.replanning j).gantry.state = .busy := hb
  have hh : ({ u with
      job := some { j with dest := u.chooseDest item, phase := .travel }, gripper := s.gripper
      gantry := { g with motion := .none, state := .busy } } : State).travelHeight = ((s.replanning j).setMotion .none).travelHeight := by
    refine State.travelHeight_congr hk (congrArg Fixed.dir hf) ?_ ?_ rfl
    · rw [hg]; rfl
    · rw [hg]; rfl
  refine (congrArg (fun h : Nat => ({ g with motion := .none, state := .busy, lastTravel := h } : Gantry)) hh).trans ?_
  rw [hg, ← hst]
  rfl

/-- The second half of the change: TRAVEL toward the new destination (R123). -/
theorem State.gantryTakes_replans (hj : s.job = some j) (hk : j.kind = .putaway)
    (hd : j.dest = s.chooseDest item) (hb : s.gantry.state = .busy) (hs : s.chooseDest item = some d)
    (hp : j.phase = .travel ∨ j.phase = .setDown) (g : Gantry) (hg : g = { s.gantry.ramping .replan with state := .busy }) (d' : Dest)
    (hd' : s.gantryTakes.chooseDest item = some d') :
    (g.moving = true → s.gantryTakes.job = some { j with phase := .travel, dest := s.gantryTakes.chooseDest item }
      ∧ s.gantryTakes.gantry = g)
    ∧ (g.moving = false →
      s.Retravels s.gantryTakes { j with dest := s.gantryTakes.chooseDest item } { g with motion := .none } d') := by
  have ho := State.gantryTakes_onward hj hk
  have hf := s.gantryTakes_fixed
  have hgv : g = (s.replanning j).gantry := by
    rw [hg, ← hb]
    rfl
  have heq (h : s.gantryTakes.job ≠ none) : j.dest = s.gantryTakes.chooseDest item :=
    hd.trans (State.chooseDest_congr hf ho.plan (ho.stood h).1 ho.spill).symm
  have hv : s.gantryTakes = (s.replanning j).settleMotion := State.gantryTakes_replan hj hb (by rw [hd, hs]; simp) hp
  refine ⟨fun hm => ?_, fun hm e he => ?_⟩
  · have hvm : s.gantryTakes = s.replanning j := hv.trans (State.settleMotion_moving (by rw [← hgv]; exact hm))
    have hvj : s.gantryTakes.job = some { j with phase := .travel } := by rw [hvm]; rfl
    rw [← heq (by rw [hvj]; simp), hvj]
    exact ⟨rfl, by rw [hvm, hgv]⟩
  · have hrt : s.gantryTakes = ((s.replanning j).setMotion .none).retravel := by
      rw [hv, State.settleMotion_still (by rw [← hgv]; exact hm)]
      simp only [State.motionDone, show (s.replanning j).gantry.motion = .toRest .replan from rfl]
    obtain ⟨hrise, htravel⟩ := State.retravel_starts (s := (s.replanning j).setMotion .none) (j := { j with phase := .travel }) rfl
      (hd.trans hs)
    rw [← hrt] at hrise htravel
    have hg' := State.starting_gantry (j := j) (item := item) hgv hb ho.stack hf
    rw [← he] at hg'
    have hi : s.gantryTakes.inputs = s.inputs := congrArg Fixed.inputs hf
    have hei : e.inputs = s.inputs := by rw [he]; exact hi
    refine ⟨fun hl hz => ?_, fun hc hz => ?_⟩
    · rw [hi] at hl
      rw [hg'] at hz
      obtain ⟨hjob, hgan⟩ := hrise hl hz
      rw [← heq (by rw [hjob]; simp), hgan]
      exact ⟨hjob, (State.rising_congr hg' hei rfl).symm⟩
    · rw [hi] at hc
      rw [hg'] at hz
      have ht := htravel hc hz
      obtain ⟨p, k, hjob⟩ := ht.job
      have hn : s.gantryTakes.job ≠ none := by rw [hjob]; simp
      have hjj : { j with phase := Phase.travel, dest := s.gantryTakes.chooseDest item } = { j with phase := .travel } := by
        rw [← heq hn]
      have hdd : d' = d := by
        have := heq hn
        rw [hd, hs, hd'] at this
        exact (Option.some.inj this).symm
      obtain ⟨hsl, hln⟩ := ho.stood hn
      rw [hdd]
      refine (show e.TravelStarts s.gantryTakes { j with phase := .travel, dest := s.gantryTakes.chooseDest item } d from ?_)
      rw [hjj]
      refine ht.congr ?_ hg' hei ?_ ?_ ?_ ?_ ?_
      · rw [he]; exact ho.spill
      · rw [he]; exact ho.plan
      · rw [he]; exact ho.stack
      · rw [he]; rfl
      · rw [he]; exact hln
      · rw [he]; exact hsl

/-- A BUSY gantry takes the destination that a conversion has chosen (R102, R123). -/
theorem State.gantryTakes_takes (hj : s.job = some j) (hk : j.kind = .putaway)
    (hd : j.dest = s.chooseDest item) (hb : s.gantry.state = .busy) :
    s.TakesDestination s.gantryTakes { j with dest := s.gantryTakes.chooseDest item } := by
  have ho := State.gantryTakes_onward hj hk
  have hf := s.gantryTakes_fixed
  have heq (h : s.gantryTakes.job ≠ none) : s.gantryTakes.chooseDest item = s.chooseDest item :=
    State.chooseDest_congr hf ho.plan (ho.stood h).1 ho.spill
  cases hs : s.chooseDest item with
  | none =>
    rw [hs] at hd
    have hw := State.gantryTakes_waits hj hk hb hd
    have hu : s.gantryTakes.chooseDest item = none := by
      rw [heq (by rw [State.gantryTakes_await_job hj hb hd]; simp), hs]
    have hjj : { j with dest := s.gantryTakes.chooseDest item } = j := by rw [hu, ← hd]
    rw [hjj]
    exact ⟨fun h => absurd hd h, fun _ => ⟨fun g _ hg => hw g hg, fun g d h => by simp [hd] at h⟩⟩
  | some d =>
    rw [hs] at hd
    have hu := ho.chooseDest hf (item := item) (by rw [hs]; simp)
    by_cases hp : j.phase = .travel ∨ j.phase = .setDown
    · refine ⟨fun _ h => ?_, fun _ => ⟨fun g h => absurd h hu, fun g d' hd' hg => ?_⟩⟩
      · rcases hp with hp | hp <;> exact absurd (hp.symm.trans h) (by simp)
      · exact State.gantryTakes_replans hj hk (hd.trans hs.symm) hb hs hp g hg d' hd'
    · obtain ⟨hp, hp'⟩ := not_or.mp hp
      have he := State.gantryTakes_rise hj hb (by rw [hd]; simp) hp hp'
      rw [he, hs, ← hd]
      exact ⟨fun _ _ => ⟨hj, rfl⟩, fun h => by rcases h with h | h | h; exacts [absurd h (by simp [hd]), absurd h hp, absurd h hp']⟩

end

end Sys2Proof.Machine
end

section
/-! SUPPORT. A job that loses its target (R101): its cancel, and its conversion (R99, R102). -/

namespace Sys2Proof.Machine

section

variable {s t u : State} {j : Job} {st : StationId} {item : Item}

/-! ### The cancel -/

theorem State.sourceBack_gantry (s : State) (src : Source) : (s.sourceBack src).gantry = s.gantry := by
  unfold State.sourceBack
  dsimp only
  (repeat' split) <;> rfl

/-- The gantry of a job that is cancelled ramps to rest, or is IDLE at once (R123). -/
theorem State.cancelJob_cancelled (hj : s.job = some j) : s.cancelJob.gantry = s.gantry.cancelled := by
  have hg (t : State) : t.gripAbandon.jobEnd.gantry = t.gantry := by rw [State.jobEnd_gantry, State.gripAbandon_eq]
  unfold State.cancelJob
  rw [hj]
  dsimp only
  rw [State.cancelGantry_gantry, hg]
  split
  · rw [State.dropReservation_gantry, State.handBack_gantry]
  · rw [State.sourceBack_gantry, State.dropReservation_gantry, State.handBack_gantry]

/-! ### The conversion -/

/-- A job as a conversion leaves it, but for its destination (R102). -/
def Job.unbound (j : Job) : Job := { j with kind := .putaway, turn := .t0, spillK := none, dest := none, reservation := none }

theorem State.putawayOff_job (hj : s.job = some j) : (s.putawayOff j).job = some j.unbound := by
  have he := congrArg Floor.job (s.putawayOff_floor j)
  have hd : s.handBack.dropReservation.job = some { j with reservation := none } :=
    State.dropReservation_job (State.handBack_job.trans hj)
  refine he.trans ?_
  change s.handBack.dropReservation.job.map _ = _
  rw [hd]
  rfl

/-- A conversion leaves gantry, gripper and cell. -/
theorem State.putawayOff_rest (hj : s.job = some j) : (s.putawayOff j).gantry = s.gantry ∧ (s.putawayOff j).gripper = s.gripper
    ∧ (s.putawayOff j).cell = s.cell := by
  have hd := State.dropReservation_floor (s := s.handBack) (State.handBack_job.trans hj)
  have he := s.putawayOff_floor j
  have hb := s.handBack_floor
  refine ⟨(congrArg Floor.gantry he).trans ((congrArg Floor.gantry hd).trans (congrArg Floor.gantry hb)),
    (congrArg Floor.gripper he).trans ((congrArg Floor.gripper hd).trans (congrArg Floor.gripper hb)),
    (congrArg Floor.cell he).trans ((congrArg Floor.cell hd).trans (congrArg Floor.cell hb))⟩

theorem State.toPutaway_carrying (hj : s.job = some j) (hc : j.carried = some item) :
    s.toPutaway = (s.putawayOff j).setJob (some { j.unbound with dest := (s.putawayOff j).chooseDest item }) := by
  rw [State.toPutaway_eq hj, hc]
  dsimp only
  rw [State.modifyJob, State.putawayOff_job hj]
  rfl

theorem State.toPutaway_kind {k : Job} (hj : s.job = some j) (hk : s.toPutaway.job = some k) : k.kind = .putaway := by
  cases hc : j.carried with
  | none =>
    rw [State.toPutaway_eq hj, hc] at hk
    exact State.putawayOff_kind hk
  | some item =>
    rw [State.toPutaway_carrying hj hc] at hk
    cases hk
    rfl

/-- A destination is chosen whatever the job record is (R102). -/
theorem State.chooseDest_setJob (s : State) (o : Option Job) (item : Item) : (s.setJob o).chooseDest item = s.chooseDest item :=
  State.chooseDest_congr rfl rfl rfl rfl

/-- What a gantry takes of a destination is read off the gantry, the cell, the inputs and the gripper of the state before. -/
theorem State.TakesDestination.congr (h : t.TakesDestination u j) (hg : t.gantry = s.gantry) (hr : t.gripper = s.gripper)
    (hc : t.cell = s.cell) (hi : t.inputs = s.inputs) : s.TakesDestination u j := by
  cases s
  cases t
  subst hg hr hc hi
  exact h

section busy

variable (hj : s.job = some j) (hc : j.carried = some item) (hb : s.gantry.state = .busy)
include hj hc hb

/-- A BUSY gantry takes the destination of a converted job (R102, R123). -/
theorem State.convert_takes : s.TakesDestination s.convert { j with
    kind := .putaway, dest := s.convert.chooseDest item, turn := .t0, reservation := none, spillK := none } := by
  obtain ⟨hg, hr, hcell⟩ := State.putawayOff_rest hj
  have hp := State.toPutaway_carrying hj hc
  have hpj : s.toPutaway.job = some { j.unbound with dest := (s.putawayOff j).chooseDest item } := by rw [hp]; rfl
  have hd : (s.putawayOff j).chooseDest item = s.toPutaway.chooseDest item := by rw [hp, State.chooseDest_setJob]
  have hf : s.toPutaway.inputs = s.inputs := congrArg Fixed.inputs s.toPutaway_fixed
  have ht := State.gantryTakes_takes hpj rfl (item := item) hd (by rw [hp]; exact (congrArg Gantry.state hg).trans hb)
  exact ht.congr (by rw [hp]; exact hg) (by rw [hp]; exact hr) (by rw [hp]; exact hcell) hf

/-- In PICK_UP the rise goes on toward a new destination, and without one the gantry waits (R123). -/
theorem State.convert_pickUp (hp : j.phase = .pickUp) (hl : s.inputs.limitHigh.z = false) :
    s.convert.job = some { j with
      kind := .putaway, dest := s.convert.chooseDest item, turn := .t0, reservation := none, spillK := none
      phase := if s.convert.chooseDest item = none then .travel else .pickUp }
    ∧ s.convert.gantry.state = (if s.convert.chooseDest item = none then .awaitPutaway else .busy) := by
  obtain ⟨hrise, hwait⟩ := State.convert_takes hj hc hb
  cases hd : s.convert.chooseDest item with
  | some d =>
    rw [hd] at hrise
    obtain ⟨hjob, hg⟩ := hrise (by simp) hp
    refine ⟨hjob.trans ?_, (congrArg Gantry.state hg).trans hb⟩
    simp [← hp]
  | none =>
    rw [hd] at hwait
    obtain ⟨hjob, hm, hs, hgo⟩ := (hwait (.inl rfl)).1 _ rfl rfl
    refine ⟨hjob, ?_⟩
    rw [if_pos rfl]
    cases hmv : (Gantry.moving { s.gantry.ramping .await with state := .awaitPutaway }) with
    | true => rw [hm hmv]
    | false =>
      cases hrun : s.cell.run.going with
      | false => rw [hs hmv hrun]
      | true =>
        obtain ⟨habove, hbelow⟩ := hgo hmv hrun _ rfl
        rcases lt_or_ge (Gantry.axes { s.gantry.ramping .await with state := .awaitPutaway }).z.at (s.convert.travelHeight : Int)
          with hz | hz
        · rw [hbelow hz hl]
        · rw [habove hz]

end busy

/-! ### The loss of a target -/

theorem State.convert_putaway {k : Job} (hj : s.job = some j) (hk : s.convert.job = some k) : k.kind = .putaway := by
  cases ht : s.toPutaway.job with
  | none =>
    rw [State.convert, State.gantryTakes, ht] at hk
    exact absurd (ht.symm.trans hk) (by simp)
  | some i => exact (State.gantryTakes_onward ht (State.toPutaway_kind hj ht)).putaway k hk

theorem State.convert_givesUp (hj : s.job = some j) (hs : j.station = some st) : State.GivesUp j.abandoned st s s.convert := by
  have hp : State.GivesUp j.abandoned st s s.toPutaway := by
    have ho := State.GivesUp.putawayOff hj hs
    cases hc : j.carried with
    | none =>
      rw [State.toPutaway_eq hj, hc]
      exact ho
    | some item =>
      rw [State.toPutaway_carrying hj hc]
      exact ho.trans (.keep rfl rfl)
  cases ht : s.toPutaway.job with
  | none =>
    have hk : s.convert = s.toPutaway := by rw [State.convert, State.gantryTakes, ht]
    rw [hk]
    exact hp
  | some i =>
    have ho := State.gantryTakes_onward ht (State.toPutaway_kind hj ht)
    exact hp.trans (.keep ho.plan ho.stn)

theorem State.lossOfTarget_other (hj : ∀ j, s.job = some j → j.station ≠ some st) : s.lossOfTarget st = s := by
  unfold State.lossOfTarget
  split
  · rfl
  next j h => exact if_pos (hj j h)

theorem State.lossOfTarget_cancel (hj : s.job = some j) (hs : j.station = some st) (hg : j.gripped = false) :
    s.lossOfTarget st = s.cancelJob := by
  simp [State.lossOfTarget, hj, hs, hg]

theorem State.lossOfTarget_convert (hj : s.job = some j) (hs : j.station = some st) (hg : j.gripped = true)
    (hr : j.releaseBegun = false) : s.lossOfTarget st = s.convert := by
  simp [State.lossOfTarget, hj, hs, hg, hr]

theorem State.lossOfTarget_release (hj : s.job = some j) (hs : j.station = some st) (hg : j.gripped = true)
    (hr : j.releaseBegun = true) : s.lossOfTarget st = s := by
  simp [State.lossOfTarget, hj, hs, hg, hr]

theorem State.lossOfTarget_givesUp (hj : s.job = some j) (hs : j.station = some st) :
    State.GivesUp j.abandoned st s (s.lossOfTarget st) := by
  cases hg : j.gripped with
  | false =>
    rw [State.lossOfTarget_cancel hj hs hg]
    exact .cancelJob hj hs
  | true =>
    cases hr : j.releaseBegun with
    | false =>
      rw [State.lossOfTarget_convert hj hs hg hr]
      exact State.convert_givesUp hj hs
    | true =>
      rw [State.lossOfTarget_release hj hs hg hr]
      exact .refl _ st s

theorem State.boundTo_iff : s.boundTo st = true ↔ ∃ j, s.job = some j ∧ j.station = some st := by
  cases h : s.job with
  | none => simp [State.boundTo, h]
  | some j => simp [State.boundTo, h]

/-- A job that loses its target is bound to the station no longer (R101). -/
theorem State.lossOfTarget_unbound (h : ∀ j, s.job = some j → j.gripped = false ∨ j.releaseBegun = false) :
    (s.lossOfTarget st).boundTo st = false := by
  rw [← Bool.not_eq_true, State.boundTo_iff]
  rintro ⟨k, hk, hks⟩
  by_cases hb : s.boundTo st = true
  · obtain ⟨j, hj, hs⟩ := State.boundTo_iff.mp hb
    cases hg : j.gripped with
    | false =>
      rw [State.lossOfTarget_cancel hj hs hg, State.cancelJob_job hj] at hk
      cases hk
    | true =>
      have hr : j.releaseBegun = false := by simpa [hg] using h j hj
      rw [State.lossOfTarget_convert hj hs hg hr] at hk
      simp [Job.station, State.convert_putaway hj hk] at hks
  · have ho : s.lossOfTarget st = s := State.lossOfTarget_other fun j hj hs => hb (State.boundTo_iff.mpr ⟨j, hj, hs⟩)
    rw [ho] at hk
    exact hb (State.boundTo_iff.mpr ⟨k, hk, hks⟩)

end

end Sys2Proof.Machine
end

section
/-! THEOREM. STATION_HOLD and STATION_RESUME (R101, R102, R123, R158). -/

namespace Sys2Proof.Machine

section

variable {s t u v e : State} {j : Job} {st : StationId} {d : Dest} {item : Item} {g : Gantry}

/-! ### A new destination, read off a state whose stations and link go on -/

theorem State.TravelStarts.after (h : e.TravelStarts u j d) (hj : v.job = u.job) (hg : v.gantry = u.gantry)
    (hr : v.gripper = u.gripper) : e.TravelStarts v j d := by
  cases u
  cases v
  subst hj hg hr
  exact h

/-- From `u` to `v` the stations, the link and the marks of the step alone have changed. -/
def State.Aside (u v : State) : Prop :=
  v = { u with stn := v.stn, stall := v.stall, link := v.link, evalDue := v.evalDue, awaitDue := v.awaitDue }

theorem State.Retravels.after (h : s.Retravels u j g d) (hv : u.Aside v) : s.Retravels v j g d := by
  have hjob : v.job = u.job := by rw [hv]
  have hgan : v.gantry = u.gantry := by rw [hv]
  have hgr : v.gripper = u.gripper := by rw [hv]
  intro e he
  obtain ⟨hr, ht⟩ := h _ rfl
  have hg : e.gantry = (s.starting u { j with phase := .travel } g).gantry := by rw [he, hv]; rfl
  have hi : e.inputs = (s.starting u { j with phase := .travel } g).inputs := by rw [he, hv]; rfl
  have hvi : v.inputs = u.inputs := by rw [hv]
  refine ⟨fun hl hz => ?_, fun hc hz => ?_⟩
  · obtain ⟨hj, hgg⟩ := hr (hvi ▸ hl) (hg ▸ hz)
    exact ⟨hjob.trans hj, hgan.trans (hgg.trans (State.rising_congr hg hi rfl).symm)⟩
  · have hts := ht (hvi ▸ hc) (hg ▸ hz)
    refine (hts.after hjob hgan hgr).congr ?_ hg hi ?_ ?_ ?_ ?_ ?_ <;> rw [he, hv] <;> rfl

theorem State.TakesDestination.after (h : s.TakesDestination u j) (hv : u.Aside v) : s.TakesDestination v j := by
  have hjob : v.job = u.job := by rw [hv]
  have hgan : v.gantry = u.gantry := by rw [hv]
  have hh : v.travelHeight = u.travelHeight := by rw [hv]; rfl
  obtain ⟨hp, hr⟩ := h
  refine ⟨fun hd hph => ?_, fun hph => ⟨fun g hd hg => ?_, fun g d hd hg => ?_⟩⟩
  · rw [hjob, hgan]
    exact hp hd hph
  · rw [hjob, hgan, hh]
    exact (hr hph).1 g hd hg
  · obtain ⟨hm, hs⟩ := (hr hph).2 g d hd hg
    refine ⟨fun hv => ?_, fun hm' => (hs hm').after hv⟩
    rw [hjob, hgan]
    exact hm hv

theorem State.Aside.chooseDest (hv : u.Aside v) (item : Item) : v.chooseDest item = u.chooseDest item := by
  rw [hv]
  rfl

theorem State.relinked_aside (v s : State) : v.Aside (v.relinked s) := rfl

theorem State.relinked_fixed {kind : Nat} {tag : Byte} {body : List Byte} (hx : v.fixed = (s.taken kind tag body).fixed) :
    (v.relinked s).fixed = s.fixed := by
  have h := congrArg (fun f : Fixed => { f with framer := s.link.framer, backlog := s.link.backlog }) hx
  exact h

/-! ### The hold -/

theorem State.stationSet_boundTo (m : Mode) (st' : StationId) : (s.stationSet st m).boundTo st' = s.boundTo st' :=
  (s.stationSet_within st m false).boundTo st'

/-- A hold that meets no job bound to the station (R158). -/
theorem State.holdStation_free (h : Hold) (hb : s.boundTo st = false) : s.holdStation st h = s.stationSet st (.plain (.held h)) := by
  refine State.lossOfTarget_other fun j hj hs => ?_
  have := State.boundTo_iff.mpr ⟨j, hj, hs⟩
  rw [State.stationSet_boundTo, hb] at this
  cases this

theorem State.holdStation_mode (h : Hold) : ((s.holdStation st h).stn.get st).mode = .plain (.held h) := by
  have hm : ((s.stationSet st (.plain (.held h))).stn.get st).mode = .plain (.held h) := s.stationSet_mode st _ _
  cases hb : s.boundTo st with
  | false => rw [State.holdStation_free h hb, hm]
  | true =>
    obtain ⟨j, hj, hs⟩ := State.boundTo_iff.mp (((s.stationSet_boundTo (.plain (.held h)) st).trans hb))
    rcases (State.lossOfTarget_givesUp hj hs).mode with hk | ⟨hk, -⟩
    · exact hk.trans hm
    · rw [hm] at hk
      simp at hk

theorem State.relinked_boundTo (v s : State) (st : StationId) : (v.relinked s).boundTo st = v.boundTo st := rfl

theorem State.holdStation_unbound (h : Hold) (hg : ∀ j, s.job = some j → j.gripped = false ∨ j.releaseBegun = false) :
    (s.holdStation st h).boundTo st = false := by
  refine State.lossOfTarget_unbound fun j hj => hg j ?_
  exact (State.job_of_floor (s.stationSet_floor st _ _)).symm.trans hj

/-- A hold that meets no job bound to the station changes the station alone. -/
theorem State.holdStation_alone (h : Hold) (hb : s.boundTo st = false) (hm : (s.stn.get st).mode ≠ .plain (.held h)) :
    s.holdStation st h = { s with
      stn := (s.holdStation st h).stn, stall := (s.holdStation st h).stall, link := (s.holdStation st h).link, evalDue := true }
    ∧ ∀ st', st' ≠ st → (s.holdStation st h).stn.get st' = s.stn.get st' := by
  have hso := State.StationsOnly.stationSet s st (.plain (.held h)) false
  unfold State.StationsOnly at hso
  rw [s.stationSet_evalDue st (.plain (.held h)) false hm] at hso
  rw [State.holdStation_free h hb]
  exact ⟨hso, (s.stationSet_within st _ _).stn⟩

/-- A station that was not BUILDING and returns changes plans, stacks and stations alone. -/
theorem State.returnToBuilding_alone (hm : (s.stn.get st).mode ≠ .plain .building) : s.returnToBuilding st = { s with
    plan := (s.returnToBuilding st).plan, stack := (s.returnToBuilding st).stack, stn := (s.returnToBuilding st).stn
    stall := (s.returnToBuilding st).stall, link := (s.returnToBuilding st).link, evalDue := true } := by
  have hw := (s.returnToBuilding_within st).rest
  have hev : (s.returnToBuilding st).evalDue = true :=
    State.endOfQueue_evalDue _ _ (State.sweepTrigger_evalDue (s.stationSet_evalDue st (.plain .building) false hm))
  unfold State.PlansOnly at hw
  rw [State.returnToBuilding_slots, hev] at hw
  exact hw

section bound

variable (hj : s.job = some j) (hs : j.station = some st)
include hj hs

omit hs in
theorem State.holdStation_bound (h : Hold) : ∃ w : State, s.holdStation st h = w.lossOfTarget st ∧ w.floor = s.floor
    ∧ w.fixed = s.fixed ∧ w.job = some j :=
  ⟨_, rfl, s.stationSet_floor st _ _, s.stationSet_fixed st _ _, (State.job_of_floor (s.stationSet_floor st _ _)).trans hj⟩

theorem State.holdStation_cancels (h : Hold) (hg : j.gripped = false) :
    (s.holdStation st h).job = none ∧ (s.holdStation st h).gantry = s.gantry.cancelled := by
  obtain ⟨w, he, hw, -, hwj⟩ := State.holdStation_bound hj h
  rw [he, State.lossOfTarget_cancel hwj hs hg]
  refine ⟨State.cancelJob_job hwj, ?_⟩
  rw [State.cancelJob_cancelled hwj, show w.gantry = s.gantry from congrArg Floor.gantry hw]

theorem State.holdStation_takes (h : Hold) (hg : j.gripped = true) (hr : j.releaseBegun = false) (hc : j.carried = some item)
    (hb : s.gantry.state = .busy) : s.TakesDestination (s.holdStation st h) { j with
      kind := .putaway, dest := (s.holdStation st h).chooseDest item, turn := .t0, reservation := none, spillK := none } := by
  obtain ⟨w, he, hw, hf, hwj⟩ := State.holdStation_bound hj h
  have hwg : w.gantry = s.gantry := congrArg Floor.gantry hw
  rw [he, State.lossOfTarget_convert hwj hs hg hr]
  exact (State.convert_takes hwj hc (hwg ▸ hb)).congr hwg (congrArg Floor.gripper hw) (congrArg Floor.cell hw)
    (congrArg Fixed.inputs hf)

theorem State.holdStation_pickUp (h : Hold) (hg : j.gripped = true) (hp : j.phase = .pickUp) (hc : j.carried = some item)
    (hb : s.gantry.state = .busy) (hl : s.inputs.limitHigh.z = false) :
    (s.holdStation st h).job = some { j with
      kind := .putaway, dest := (s.holdStation st h).chooseDest item, turn := .t0, reservation := none, spillK := none
      phase := if (s.holdStation st h).chooseDest item = none then .travel else .pickUp }
    ∧ (s.holdStation st h).gantry.state = (if (s.holdStation st h).chooseDest item = none then .awaitPutaway else .busy) := by
  obtain ⟨w, he, hw, hf, hwj⟩ := State.holdStation_bound hj h
  have hwg : w.gantry = s.gantry := congrArg Floor.gantry hw
  have hwi : w.inputs = s.inputs := congrArg Fixed.inputs hf
  rw [he, State.lossOfTarget_convert hwj hs hg (by simp [Job.releaseBegun, hp])]
  exact State.convert_pickUp hwj hc (hwg ▸ hb) hp (hwi ▸ hl)

end bound

end

/-- Settles O33: a hold by what becomes of the job bound to the station, and a resume by the return to BUILDING. -/
theorem stationsAreHeldAndResumed : Obligations.StationsAreHeldAndResumed := by
  intro s tag k st h hk
  have hb (o : Nat) (ho : o = 0x28 ∨ o = 0x29) : bodyFits o [k] = true := by rcases ho with rfl | rfl <;> rfl
  have hst : station? (u8 [k] 0) = some st := hk
  refine ⟨fun hm => ?_, fun x hm => ?_, fun hm hm' => ?_, fun hm => ?_, fun hm => ?_⟩
  · have ho : ownStationHold [k] (s.taken 0x28 tag [k]) = (((s.taken 0x28 tag [k]).holdStation st .host), .code .ok) := by
      unfold ownStationHold
      rw [hst]
      dsimp only
      rw [show ((s.taken 0x28 tag [k]).stn.get st).mode = _ from hm]
      rfl
    have hx : ((s.taken 0x28 tag [k]).holdStation st .host).fixed = (s.taken 0x28 tag [k]).fixed := State.holdStation_fixed _ _ _
    have ha := State.relinked_aside ((s.taken 0x28 tag [k]).holdStation st .host) s
    refine ⟨_, run_request_effect h rfl (hb _ (.inl rfl)) rfl ho hx, State.holdStation_mode (s := s.taken 0x28 tag [k]) .host,
      State.relinked_fixed hx, fun hg => ?_, fun j hj hs hg => ?_, fun j item hj hs hg hr hc hbu => ?_, fun hbd => ?_,
      fun j item hj hs hg hp hc hbu hl => ?_⟩
    · exact (State.relinked_boundTo _ s st).trans (State.holdStation_unbound (s := s.taken 0x28 tag [k]) .host hg)
    · exact State.holdStation_cancels (s := s.taken 0x28 tag [k]) hj hs .host hg
    · rw [ha.chooseDest]
      exact ((State.holdStation_takes (s := s.taken 0x28 tag [k]) hj hs .host hg hr hc hbu).after ha).congr rfl rfl rfl rfl
    · obtain ⟨hso, hn⟩ := State.holdStation_alone (s := s.taken 0x28 tag [k]) (st := st) .host hbd
        (by rw [show ((s.taken 0x28 tag [k]).stn.get st).mode = _ from hm]; simp)
      exact ⟨congrArg (fun v : State => v.relinked s) hso, hn⟩
    · rw [ha.chooseDest]
      exact State.holdStation_pickUp (s := s.taken 0x28 tag [k]) hj hs .host hg hp hc hbu hl
  · refine run_request_answered h rfl (hb _ (.inl rfl)) rfl ?_
    unfold ownStationHold
    rw [hst]
    dsimp only
    rw [show ((s.taken 0x28 tag [k]).stn.get st).mode = _ from hm]
    rfl
  · refine run_request_answered h rfl (hb _ (.inl rfl)) rfl ?_
    unfold ownStationHold
    rw [hst]
    dsimp only
    split
    next he => exact absurd he hm
    next x he => exact absurd he (hm' x)
    · rfl
  · refine run_request_answered h rfl (hb _ (.inr rfl)) rfl ?_
    unfold ownStationResume
    rw [hst]
    dsimp only
    split
    · rfl
    next x hx he =>
      rcases hm with hm | hm
      · exact absurd (he.symm.trans hm) (by simpa using hx)
      · exact absurd he (hm x)
    · rfl
  · have ho : ownStationResume [k] (s.taken 0x29 tag [k]) = ((s.taken 0x29 tag [k]).returnToBuilding st, .code .ok) := by
      unfold ownStationResume
      rw [hst]
      dsimp only
      rcases hm with hm | hm <;> rw [show ((s.taken 0x29 tag [k]).stn.get st).mode = _ from hm] <;> rfl
    have hx : ((s.taken 0x29 tag [k]).returnToBuilding st).fixed = (s.taken 0x29 tag [k]).fixed := State.returnToBuilding_fixed _ _
    have hw := State.returnToBuilding_within (s.taken 0x29 tag [k]) st
    have hsw : (s.taken 0x29 tag [k]).Swept ((s.taken 0x29 tag [k]).returnToBuilding st) st := State.returnToBuilding_swept
    have hu : s.Swept (((s.taken 0x29 tag [k]).returnToBuilding st).relinked s) st :=
      State.Swept.after (s := s) (hsw.congr (u := State.relinked _ s) rfl rfl) rfl rfl rfl
    have hal := State.returnToBuilding_alone (s := s.taken 0x29 tag [k]) (st := st)
      (by rw [show ((s.taken 0x29 tag [k]).stn.get st).mode = (s.stn.get st).mode from rfl]; rcases hm with hm | hm <;> simp [hm])
    exact ⟨_, run_request_effect h rfl (hb _ (.inr rfl)) rfl ho hx, congrArg (fun v : State => v.relinked s) hal,
      State.returnToBuilding_mode (s := s.taken 0x29 tag [k]), hu.closed, hu.queue, hu.stack, hu.waits, hu.runs,
      fun st' hn => ⟨hw.stn st' hn, hw.plan st' hn, hw.stack st' hn, hw.stall st' hn⟩⟩

end Sys2Proof.Machine
end

section
/-! THEOREM. CLOSE_PLAN and ABANDON_PLAN (R24, R29, R32, R33, R101). -/

namespace Sys2Proof.Machine

section

variable {s t u v : State} {j : Job} {st : StationId} {p : Plan} {ids : List Nat} {item : Item}

/-! ### A station whose plan is closed -/

theorem State.StationsOnly.closedStation (s : State) (st : StationId) : s.StationsOnly (s.closedStation st) :=
  .ite (State.StationsOnly.stationSet s st _ _) (State.StationsOnly.endOfQueue s st)

theorem State.StationsOnly.aside (h : s.StationsOnly u) : s.Aside u := by
  unfold State.StationsOnly at h
  rw [h]
  rfl

theorem State.closedStation_within (s : State) (st : StationId) : s.Within st (s.closedStation st) := by
  unfold State.closedStation
  split
  · exact s.stationSet_within st _ _
  · exact s.endOfQueue_within st

/-- A station that is IDLE, or at the end of its closed queue, becomes COMPLETE (R29, R32). -/
theorem State.closedStation_ends (hc : (s.plan.get st).closed = true) (h : (s.stn.get st).mode = .plain .idle
    ∨ (s.stn.get st).mode = .plain .building ∧ (s.plan.get st).queue = [] ∧ s.boundTo st = false) :
    s.closedStation st = s.stationSet st (.plain .complete) := by
  unfold State.closedStation
  rcases h with h | h
  · exact if_pos h
  · rw [if_neg (by rw [h.1]; simp)]
    unfold State.endOfQueue
    dsimp only
    rw [if_pos h, if_pos hc]

/-- Such a station, of which nothing else changes. -/
theorem State.closedStation_completes (hc : (s.plan.get st).closed = true) (hm : (s.stn.get st).mode ≠ .plain .complete)
    (h : (s.stn.get st).mode = .plain .idle
      ∨ (s.stn.get st).mode = .plain .building ∧ (s.plan.get st).queue = [] ∧ s.boundTo st = false) :
    s.closedStation st = { s with
      stn := (s.closedStation st).stn, stall := (s.closedStation st).stall, link := (s.closedStation st).link, evalDue := true }
    ∧ ((s.closedStation st).stn.get st).mode = .plain .complete
    ∧ ∀ st', st' ≠ st → (s.closedStation st).stn.get st' = s.stn.get st' := by
  have hso := State.StationsOnly.stationSet s st (.plain .complete) false
  unfold State.StationsOnly at hso
  rw [s.stationSet_evalDue st (.plain .complete) false hm] at hso
  rw [State.closedStation_ends hc h]
  exact ⟨hso, s.stationSet_mode st _ _, (s.stationSet_within st _ _).stn⟩

theorem State.closedStation_stays (hi : (s.stn.get st).mode ≠ .plain .idle)
    (h : (s.stn.get st).mode ≠ .plain .building ∨ (s.plan.get st).queue ≠ [] ∨ s.boundTo st = true) : s.closedStation st = s := by
  unfold State.closedStation
  rw [if_neg hi]
  refine if_neg ?_
  rintro ⟨hb, hq, hu⟩
  rcases h with h | h | h
  · exact h hb
  · exact h hq
  · rw [hu] at h
    cases h

/-- The state of a station whose closed plan is empty, with no job bound to it (R32, R33). -/
theorem State.closedStation_mode (hp : s.plan.get st = ⟨[], true⟩) (hb : s.boundTo st = false) :
    ((s.closedStation st).stn.get st).mode =
      if (s.stn.get st).mode = .plain .idle ∨ (s.stn.get st).mode = .plain .building then .plain .complete else (s.stn.get st).mode := by
  split
  next h =>
    rw [State.closedStation_ends (by rw [hp]) (h.imp_right fun h => ⟨h, by rw [hp], hb⟩)]
    exact s.stationSet_mode st _ _
  next h =>
    rw [State.closedStation_stays (fun hi => h (.inl hi)) (.inl fun hi => h (.inr hi))]

/-! ### The plan given up -/

/-- A plan at ABANDON_PLAN (R33). -/
def Plan.abandoned (p : Plan) : Plan := { queue := p.queue.map Layer.abandoned, closed := true }

theorem Plan.abandoned_pending {q : Placement} (hq : q ∈ p.abandoned.placements) : q.state ≠ .pending := by
  obtain ⟨l, hl, hql⟩ := Plan.mem_placements.mp hq
  obtain ⟨m, -, rfl⟩ := List.mem_map.mp hl
  obtain ⟨x, -, rfl⟩ := List.mem_map.mp hql
  unfold Placement.voided
  split
  · simp
  next h => exact h

/-- A layer of which no job holds anything is complete once it is abandoned (R27, R33). -/
theorem Layer.abandoned_complete {l : Layer} (hs : l.sheetJob = false) (hp : ∀ p ∈ l.placements, p.state ≠ .bound) :
    l.abandoned.settle.complete = true := by
  have hf : l.inFlight = false := by
    rw [← Bool.not_eq_true, Layer.inFlight_iff]
    rintro (h | ⟨p, hpl, hb⟩)
    · simp [hs] at h
    · exact hp p hpl hb
  have ha : l.abandoned = l.withdrawn := by simp [Layer.abandoned, Layer.withdrawn, hf]
  rw [ha]
  exact Layer.withdrawn_complete hf

theorem State.requeue_winds : (s.setPlan st p).Winds st (s.requeue st p ids) := by
  have hr : (s.setPlan st p).Winds st (s.replanned st p ids) := by
    have hs : (s.setPlan st p).plan.get st = p := PerStation.get_set_same _ _ _
    refine .of_mode ?_ ?_ State.replanned_mode
    · rw [State.replanned_plan, hs]
    · rw [State.replanned_plan, hs]
      exact fun h => h
  exact hr.trans (.examineLayers _ st)

theorem State.requeue_states {q : Placement} (hq : q ∈ ((s.requeue st p ids).plan.get st).placements) :
    q.state = .void ∨ ∃ x ∈ p.placements, q.state = x.state := by
  have h := (State.GivesUp.examineLayers (a := true) (s.replanned st p ids) st).states rfl q hq
  rwa [State.replanned_plan] at h

/-- Where every layer is complete, none stays (R27). -/
theorem State.requeue_empties (h : ∀ l ∈ p.queue, l.settle.complete = true) : (s.requeue st p ids).plan.get st = ⟨[], p.closed⟩ := by
  have hc := (State.requeue_winds (s := s) (st := st) (p := p) (ids := ids)).closed
  have hq : ((s.requeue st p ids).plan.get st).queue = [] := by
    rw [State.requeue_eq]
    by_cases hn : (splitQueue 0 ((s.replanned st p ids).plan.get st).queue).2 = []
    · rw [State.examineLayers_kept hn, State.replanned_plan]
      rw [State.replanned_plan, splitQueue_gone] at hn
      refine List.eq_nil_iff_forall_not_mem.mpr fun l hl => ?_
      simpa [h l hl] using hn l hl
    · obtain ⟨ids', hp⟩ := State.layersSwept_plan (s := s.replanned st p ids) (st := st)
      rw [State.examineLayers_gone hn, (State.StationsOnly.endOfQueue _ st).plan, hp, State.replanned_plan]
      have he : p.staying.queue = [] := List.filter_eq_nil_iff.mpr fun l hl => by simp [h l hl]
      simp [Plan.unsweep, Plan.mapPlacements, he]
  rw [show (s.setPlan st p).plan.get st = p from PerStation.get_set_same _ _ _] at hc
  cases hu : (s.requeue st p ids).plan.get st with
  | mk queue closed =>
    rw [hu] at hc hq
    rw [show queue = [] from hq, show closed = p.closed from hc]

/-! ### The job of an abandoned plan -/

theorem State.markAbandoned_free (hb : s.boundTo st = false) : s.markAbandoned st = s := by
  unfold State.markAbandoned
  split
  next j hj => exact if_neg fun hs => by rw [State.boundTo_iff.mpr ⟨j, hj, hs⟩] at hb; cases hb
  · rfl

theorem State.markAbandoned_bound (hj : s.job = some j) (hs : j.station = some st) :
    s.markAbandoned st = s.setJob (some { j with abandoned := true }) := by
  simp [State.markAbandoned, hj, hs]

theorem State.markAbandoned_setPlan : (s.setPlan st p).markAbandoned st = (s.markAbandoned st).setPlan st p := by
  unfold State.markAbandoned
  cases h : s.job with
  | none =>
    rw [show (s.setPlan st p).job = none from h]
  | some j =>
    rw [show (s.setPlan st p).job = some j from h]
    dsimp only
    split <;> rfl

/-- The ids of the placements that ABANDON_PLAN voids. -/
def Plan.pendingIds (p : Plan) : List Nat := (p.placements.filter (fun q => q.state == .pending)).map Placement.id

theorem Plan.pendingIds_length : p.pendingIds.length = p.placements.countP (fun q => q.state == .pending) := by
  rw [Plan.pendingIds, List.length_map, List.countP_eq_length_filter]

/-- ABANDON_PLAN up to the job of the station (R33). -/
def State.abandonedTo (s : State) (st : StationId) : State :=
  (s.markAbandoned st).requeue st (s.plan.get st).abandoned (s.plan.get st).pendingIds

theorem ownAbandonPlan_eq {b : List Byte} (h : station? (u8 b 0) = some st) : ownAbandonPlan b s =
    (((s.abandonedTo st).lossOfTarget st).closedStation st, .abandoned (s.plan.get st).pendingIds.length
      (!((((s.abandonedTo st).lossOfTarget st).closedStation st).plan.get st).queue.isEmpty)) := by
  unfold ownAbandonPlan
  rw [h]
  dsimp only
  rw [show { queue := (s.plan.get st).queue.map Layer.abandoned, closed := true : Plan } = (s.plan.get st).abandoned from rfl,
    State.markAbandoned_setPlan]
  rfl

/-- With no job bound to the station its plan is gone, and it is COMPLETE where it was IDLE or BUILDING (R33). -/
theorem State.abandon_free (hb : s.boundTo st = false)
    (hl : ∀ l ∈ (s.plan.get st).queue, l.sheetJob = false ∧ ∀ p ∈ l.placements, p.state ≠ .bound)
    (hu : u = ((s.abandonedTo st).lossOfTarget st).closedStation st) : s.Within st u ∧ u.plan.get st = ⟨[], true⟩
      ∧ (u.stn.get st).mode = if (s.stn.get st).mode = .plain .idle ∨ (s.stn.get st).mode = .plain .building
        then .plain .complete else (s.stn.get st).mode := by
  have he : s.abandonedTo st = s.requeue st (s.plan.get st).abandoned (s.plan.get st).pendingIds := by
    rw [State.abandonedTo, State.markAbandoned_free hb]
  have hw : s.Within st (s.abandonedTo st) := he ▸ State.requeue_within
  have hn : (s.abandonedTo st).boundTo st = false := (hw.boundTo st).trans hb
  have hp : (s.abandonedTo st).plan.get st = ⟨[], true⟩ := by
    rw [he]
    refine State.requeue_empties fun l hl' => ?_
    obtain ⟨m, hm, rfl⟩ := List.mem_map.mp hl'
    exact Layer.abandoned_complete (hl m hm).1 (hl m hm).2
  have hm : ((s.abandonedTo st).stn.get st).mode = (s.stn.get st).mode
      ∨ (s.stn.get st).mode = .plain .building ∧ ((s.abandonedTo st).stn.get st).mode = .plain .complete := by
    have hwd := (State.requeue_winds (s := s) (st := st) (p := (s.plan.get st).abandoned) (ids := (s.plan.get st).pendingIds)).mode
    rw [← he, show (s.setPlan st (s.plan.get st).abandoned).plan.get st = _ from PerStation.get_set_same _ _ _] at hwd
    exact hwd.imp_right fun h => ⟨h.1, h.2.2⟩
  rw [State.lossOfTarget_other fun j hj hs => by rw [State.boundTo_iff.mpr ⟨j, hj, hs⟩] at hn; cases hn] at hu
  subst hu
  refine ⟨hw.trans (State.closedStation_within _ st), ?_, ?_⟩
  · rw [(State.StationsOnly.closedStation (s.abandonedTo st) st).plan]
    exact hp
  · rw [State.closedStation_mode hp hn]
    rcases hm with hm | ⟨hs, hm⟩
    · rw [hm]
    · rw [hm, if_neg (by simp), if_pos (.inr hs)]

section bound

variable (hj : s.job = some j) (hs : j.station = some st)
include hj hs

/-- A plan that a job is bound to, as it is abandoned up to the job (R24, R33). -/
theorem State.abandonedTo_bound : (s.abandonedTo st).job = some { j with abandoned := true }
    ∧ (s.abandonedTo st).gantry = s.gantry ∧ (s.abandonedTo st).gripper = s.gripper ∧ (s.abandonedTo st).cell = s.cell
    ∧ (s.abandonedTo st).inputs = s.inputs ∧ ((s.abandonedTo st).plan.get st).closed = true
    ∧ (∀ q ∈ ((s.abandonedTo st).plan.get st).placements, q.state ≠ .pending)
    ∧ ∀ st', st' ≠ st → (s.abandonedTo st).plan.get st' = s.plan.get st' := by
  have hw : (s.setJob (some { j with abandoned := true })).Within st (s.abandonedTo st) := by
    rw [State.abandonedTo, State.markAbandoned_bound hj hs]
    exact State.requeue_within
  have hr := hw.rest
  unfold State.PlansOnly at hr
  refine ⟨by rw [hr]; rfl, by rw [hr]; rfl, by rw [hr]; rfl, by rw [hr]; rfl, by rw [hr]; rfl, ?_, fun q hq => ?_, hw.plan⟩
  · have hc := (State.requeue_winds (s := s.markAbandoned st) (st := st) (p := (s.plan.get st).abandoned)
      (ids := (s.plan.get st).pendingIds)).closed
    rw [show ((s.markAbandoned st).setPlan st (s.plan.get st).abandoned).plan.get st = _ from PerStation.get_set_same _ _ _] at hc
    exact hc
  · rcases State.requeue_states hq with hv | ⟨x, hx, he⟩
    · rw [hv]
      simp
    · rw [he]
      exact Plan.abandoned_pending hx

/-- With a job bound to the station its plan is closed with nothing PENDING, and the job has lost its target (R33, R101). -/
theorem State.abandon_bound (hu : u = ((s.abandonedTo st).lossOfTarget st).closedStation st) :
    (u.plan.get st).closed = true ∧ (∀ p ∈ (u.plan.get st).placements, p.state ≠ .pending)
    ∧ (j.gripped = false → u.job = none ∧ u.gantry = s.gantry.cancelled)
    ∧ (j.gripped = true → j.releaseBegun = false → u.boundTo st = false)
    ∧ (∀ item, j.gripped = true → j.releaseBegun = false → j.carried = some item → s.gantry.state = .busy →
        s.TakesDestination u { j with
          kind := .putaway, dest := u.chooseDest item, turn := .t0, reservation := none, spillK := none, abandoned := true })
    ∧ (j.gripped = true → j.releaseBegun = true → u.job = some { j with abandoned := true })
    ∧ ∀ st', st' ≠ st → u.plan.get st' = s.plan.get st' := by
  obtain ⟨haj, hag, har, hac, hai, hclosed, hpend, hother⟩ := State.abandonedTo_bound hj hs
  have hgu := State.lossOfTarget_givesUp (j := { j with abandoned := true }) haj hs
  have hcs := State.StationsOnly.closedStation ((s.abandonedTo st).lossOfTarget st) st
  rw [← hu] at hcs
  have hup : u.plan = ((s.abandonedTo st).lossOfTarget st).plan := hcs.plan
  have haside := hcs.aside
  have huj : u.job = ((s.abandonedTo st).lossOfTarget st).job := by rw [haside]
  have hug : u.gantry = ((s.abandonedTo st).lossOfTarget st).gantry := by rw [haside]
  refine ⟨?_, fun q hq => ?_, fun hg => ?_, fun hg hr => ?_, fun item hg hr hc hb => ?_, fun hg hr => ?_, fun st' hn => ?_⟩
  · rw [hup, hgu.closed, hclosed]
  · rw [hup] at hq
    rcases hgu.states rfl q hq with hv | ⟨x, hx, he⟩
    · rw [hv]
      simp
    · rw [he]
      exact hpend x hx
  · rw [huj, hug, State.lossOfTarget_cancel haj hs hg, State.cancelJob_cancelled haj, hag]
    exact ⟨State.cancelJob_job haj, rfl⟩
  · have hn := State.lossOfTarget_unbound (s := s.abandonedTo st) (st := st) fun k hk => by
      rw [haj] at hk
      cases hk
      exact .inr hr
    rw [State.boundTo, huj]
    exact hn
  · have ht := State.convert_takes haj hc (by rw [hag]; exact hb)
    rw [← State.lossOfTarget_convert haj hs hg hr, ← haside.chooseDest] at ht
    exact (ht.after haside).congr hag har hac hai
  · rw [huj, State.lossOfTarget_release haj hs hg hr, haj]
  · rw [hup, hgu.plan st' hn, hother st' hn]

end bound

end

/-- Settles O25: the close by the state of the station, and the abandoned plan by the job bound to it. -/
theorem closePlanAndAbandonPlanEndThePlan : Obligations.ClosePlanAndAbandonPlanEndThePlan := by
  refine ⟨fun s tag b st h hb hst => ?_, fun s tag b st h hb hst hn hl => ?_, fun s tag b st j h hb hst hj hs => ?_⟩
  · have hfit : bodyFits 0x12 b = true := bodyFits_of_length hb (by decide)
    have hown (hm : (s.stn.get st).mode ≠ .plain .noPallet) : ownClosePlan b (s.taken 0x12 tag b) =
        ((((s.taken 0x12 tag b).setPlan st (s.plan.get st).close).closedStation st), .code .ok) := by
      unfold ownClosePlan
      rw [hst]
      exact if_neg hm
    refine ⟨fun hm => ?_, fun hm hi hq => ?_, fun hm => ?_⟩
    · refine run_request_answered h rfl hfit rfl ?_
      unfold ownClosePlan
      rw [hst]
      exact if_pos hm
    · have hk : ((s.taken 0x12 tag b).setPlan st (s.plan.get st).close).closedStation st =
          (s.taken 0x12 tag b).setPlan st (s.plan.get st).close := by
        refine State.closedStation_stays hi ?_
        rw [show ((s.taken 0x12 tag b).setPlan st (s.plan.get st).close).plan.get st = _ from PerStation.get_set_same _ _ _]
        exact hq
      have ho := hown hm
      rw [hk] at ho
      refine (run_request_effect h rfl hfit rfl ho rfl).trans ?_
      rw [State.settle_ended _ rfl rfl]
      rfl
    · have hne : (s.stn.get st).mode ≠ .plain .noPallet ∧ (s.stn.get st).mode ≠ .plain .complete := by
        rcases hm with hm | ⟨hm, -, -⟩ <;> simp [hm]
      obtain ⟨hso, hmode, hstn⟩ := State.closedStation_completes (s := (s.taken 0x12 tag b).setPlan st (s.plan.get st).close) (st := st)
        (by rw [show ((s.taken 0x12 tag b).setPlan st (s.plan.get st).close).plan.get st = _ from PerStation.get_set_same _ _ _]; rfl)
        hne.2 (by rw [show ((s.taken 0x12 tag b).setPlan st (s.plan.get st).close).plan.get st = _ from PerStation.get_set_same _ _ _]
                  exact hm)
      exact ⟨_, run_request_effect h rfl hfit rfl (hown hne.1) (State.closedStation_fixed _ _),
        congrArg (fun v : State => v.relinked s) hso, hmode, hstn⟩
  · have ho : ownAbandonPlan b (s.taken 0x13 tag b) = _ := ownAbandonPlan_eq hst
    obtain ⟨hw, hp, hm⟩ := State.abandon_free (s := s.taken 0x13 tag b) hn hl rfl
    rw [hp, Plan.pendingIds_length] at ho
    refine ⟨_, run_request_effect h rfl (bodyFits_of_length hb (by decide)) rfl ho ?_, ?_, hp, hm, fun st' hn =>
      ⟨hw.plan st' hn, hw.stn st' hn, hw.stack st' hn⟩⟩
    · simp [State.abandonedTo, State.requeue]
    · exact congrArg (fun v : State => v.relinked s) hw.rest
  · have ho : ownAbandonPlan b (s.taken 0x13 tag b) = _ := ownAbandonPlan_eq hst
    rw [Plan.pendingIds_length] at ho
    obtain ⟨hc, hp, hg, hn, ht, hr, hother⟩ := State.abandon_bound (s := s.taken 0x13 tag b) hj hs rfl
    have ha := State.relinked_aside ((((s.taken 0x13 tag b).abandonedTo st).lossOfTarget st).closedStation st) s
    refine ⟨_, run_request_effect h rfl (bodyFits_of_length hb (by decide)) rfl ho (by simp [State.abandonedTo, State.requeue]), hc, hp,
      hg, fun hgr hrl => (State.relinked_boundTo _ s st).trans (hn hgr hrl), fun item hgr hrl hca hb => ?_, hr, hother⟩
    rw [ha.chooseDest]
    exact ((ht item hgr hrl hca hb).after ha).congr rfl rfl rfl rfl

end Sys2Proof.Machine
end

section
/-! SUPPORT. A retained grip that cannot be made. A GRIP planned again at the return of the cell may fail at once, with too few zones for
the case at its source (R138); the job then ends in the same event, and its source is given up (R100). What the two returns under AUTO
are stated to leave (`State.ReturnedTo`) reads the needs of the grip off the slots as they are after, where the case is gone. -/

namespace Sys2Proof.Machine

section

variable {s t u w : State} {j : Job}

/-! ### The end of a step that leaves no job -/

theorem State.carriesJob : State.Carries (fun u => u.job.isSome = true)
    (fun u => u.job.isSome = true ∨ u.gantry.state = .faulted .drop) where
  weaken := .inl
  gantry := fun _ _ h => h
  report := fun _ h => h
  dispatch := id
  cell := fun _ h => h
  phase := fun _ h => by simpa using h
  spill := fun _ h => by simpa using h
  blow := .inl
  carry := fun {s} h => by
    rcases s.carryTest_cases with hk | ⟨-, e, z, -, hk⟩
    · rw [hk]
      exact .inl h
    · rw [hk]
      exact .inr ⟨.inr (by rw [State.carryLoss_gantry]), State.carryLoss_job e z⟩

/-- A PUTAWAY job that chooses again stays, or its carry is lost (R103, R141). -/
theorem State.awaitChoice_cases (s : State) :
    s.awaitChoice = s ∨ s.awaitChoice.job.isSome = true ∨ s.awaitChoice.gantry.state = .faulted .drop := by
  unfold State.awaitChoice
  split
  · exact .inl rfl
  next j hj =>
    split
    · split
      · exact .inr (State.carriesJob.gantryTakes (by simp [hj]))
      · exact .inl rfl
    · exact .inl rfl

theorem State.evaluate_stays (h : s.mayDispatch = false) (n : Nat) : s.evaluate n = s := by
  cases n with
  | zero => rfl
  | succ n =>
    unfold State.evaluate
    rw [h]
    rfl

/-- Where a step ends with no job and the gantry IDLE, and the cell does not run, its end has changed no job and no slot. -/
theorem State.settle_quiet (hr : w.cell.run ≠ .run) (hj : w.settle.job = none) (hg : w.settle.gantry.state = .idle) :
    w.job = none ∧ w.slots = w.settle.slots := by
  have hd : w.mayDispatch = false := by simp [State.mayDispatch, hr]
  have hend {a : State} (ha : (if w.awaitDue then w.awaitChoice else w) = a) (hm : a.mayDispatch = false) :
      w.settle.job = a.job ∧ w.settle.slots = a.slots ∧ w.settle.gantry = a.gantry := by
    have he : (if a.evalDue then a.evaluate 16 else a) = a := by
      split
      · exact State.evaluate_stays hm 16
      · rfl
    unfold State.settle
    dsimp only
    rw [ha, he]
    exact ⟨rfl, rfl, rfl⟩
  have hkept (ha : (if w.awaitDue then w.awaitChoice else w) = w) : w.job = none ∧ w.slots = w.settle.slots := by
    obtain ⟨ej, es, -⟩ := hend ha hd
    exact ⟨ej.symm.trans hj, es.symm⟩
  cases hdue : w.awaitDue with
  | false => exact hkept (by rw [hdue]; rfl)
  | true =>
    rcases w.awaitChoice_cases with hk | hk | hk
    · exact hkept (by rw [hdue]; exact hk)
    · obtain ⟨ej, -, -⟩ := hend (a := w.awaitChoice) (by rw [hdue]; rfl) (by simp [State.mayDispatch, Option.isSome_iff_ne_none.mp hk])
      rw [← ej, hj] at hk
      simp at hk
    · obtain ⟨-, -, eg⟩ := hend (a := w.awaitChoice) (by rw [hdue]; rfl) (by simp [State.mayDispatch, hk])
      rw [← eg, hg] at hk
      simp at hk

end

end Sys2Proof.Machine
end

section
/-! THEOREM. The returns under AUTO of SET_STATION and of a curtain restored, refuted (R100, R126, R138, R151). -/

namespace Sys2Proof.Machine

/-! ### The state -/

/-- A PUT that is about to grip the case in slot 0, for the spill table. -/
def gripRetained : Job where
  kind := .put
  source := .slot 0
  dest := some .spill
  carried := none
  turn := .t0
  cls := 0
  profile := 0
  speed := 20
  dist := 0
  reservation := none
  phase := .grip
  gripped := false
  released := false
  laden := .fallback
  unladen := .fallback
  subst := false
  spillK := none
  gripFailed := false
  abandoned := false
  committed := false
  delivered := none

/-- A case without a type: no zone may grip it. -/
def caseUntyped : ArrivalRec := ⟨.L1, 0, .ok, none, none, none, none, .accepted, false⟩

/-- A cell that was FINISHING and is GUARD_STOPPED, its gantry STOPPED in GRIP with Z at the travel height. -/
def gripHeld (c : Causes) (auto : Bool) : State :=
  { State.reset with
    job := some gripRetained
    slots := State.reset.slots.set 0 (.held caseUntyped 0 true)
    cell := ⟨.guardStopped (.ret .finishing) c, auto⟩
    gantry := { State.reset.gantry with
      state := .stopped, axes := { State.reset.gantry.axes with z := ⟨some 3200, true, none⟩ } } }

/-- The outcome is a state with no job and an IDLE gantry, in which slot 0 is BLOCKED. -/
def gripGivenUp : Host.Outcome State Fault Refusal → Bool
  | .next t => t.job.isNone && t.gantry.state == .idle && t.slots[(0 : Fin 8)] == .blocked
  | _ => false

theorem gripGivenUp_next {t : State} (h : gripGivenUp (.next t) = true) :
    t.job = none ∧ t.gantry.state = .idle ∧ t.slots[(0 : Fin 8)] = .blocked := by
  simpa [gripGivenUp, and_assoc] using h

/-- A SET_STATION of station A with the policy AUTO. -/
def autoBody : List Byte := [0, 0, 0x58, 0x02, 0xE8, 0x03, 0, 1, 10, 0, 0, 0]

/-- The curtain of station A is the only cause, and its restore has stood long enough. -/
def gripBehindCurtain : State :=
  { gripHeld ⟨false, true, false⟩ true with
    inputs := { State.reset.inputs with filter := [(.curtain .A, 0)], curtain := State.reset.inputs.curtain.set .A true } }

theorem setStation_givesGripUp : gripGivenUp (exec (.setStation 0 autoBody) (gripHeld ⟨false, false, false⟩ false)) = true := by
  decide

theorem curtainRestore_givesGripUp : gripGivenUp (exec (.curtainRestore .A) gripBehindCurtain) = true := by
  decide

/-! ### What the returns are stated to leave -/

section

variable {s u w : State}

theorem gripReturned_cell (hst : s.gantry.state = .stopped) (hc : u.inputs.Clear) (hr : s.ReturnedTo u .finishing true) :
    u.cell.run ≠ .run := by
  obtain ⟨-, -, hcell, -⟩ := (hr .finishing rfl).2.1 hst
  rcases hcell with h | ⟨h, -⟩ | ⟨st, c, h, -⟩
  · simp [h]
  · simp [h]
  · simp [hc.2 st] at h

/-- With slot 0 given up the statement asks for a grip with try 1, and so for the job (R126, R138). -/
theorem gripReturned_job (hst : s.gantry.state = .stopped) (hj : s.job = some gripRetained) (hg : s.gripper = State.reset.gripper)
    (hc : u.inputs.Clear) (hr : s.ReturnedTo u .finishing true) (hb : u.slots[(0 : Fin 8)] = .blocked) : u.job ≠ none := by
  obtain ⟨-, -, -, -, hgo, -⟩ := (hr .finishing rfl).2.1 hst
  have hu (z : Zone) : s.gripper.used.get z = false := by
    rw [hg]
    cases z <;> rfl
  have hl : s.lossZone? = none := by simp [State.lossZone?, hu]
  have hp := hgo gripRetained .spill hj rfl hl hc _ _ rfl rfl
  have hgrip : (s.starting u gripRetained s.gantry).GripStarts u gripRetained := hp
  obtain ⟨-, hstart⟩ := hgrip _ rfl
  have hrec : (s.starting u gripRetained s.gantry).sourceCase { gripRetained with phase := .grip } = none := congrArg Slot.record hb
  have hjob := (hstart _ rfl (by rw [State.starting]; dsimp only; rw [hg]; rfl) (by
    rw [hrec]
    dsimp only [State.starting, State.gripNeeds]
    rw [hg]
    decide)).1
  rw [hjob]
  simp

/-- No state in which the step of the model ends meets the statement. -/
theorem gripReturned_absurd (hst : s.gantry.state = .stopped) (hj : s.job = some gripRetained) (hg : s.gripper = State.reset.gripper)
    (hc : u.inputs.Clear) (hr : s.ReturnedTo u .finishing true) (hw : w.cell = u.cell ∧ w.job = u.job ∧ w.slots = u.slots)
    (hend : gripGivenUp (.next w.settle) = true) : False := by
  obtain ⟨hn, hi, hb⟩ := gripGivenUp_next hend
  obtain ⟨hcell, hjob, hslots⟩ := hw
  obtain ⟨hnone, hs⟩ := State.settle_quiet (w := w) (by rw [hcell]; exact gripReturned_cell hst hc hr) hn hi
  refine gripReturned_job hst hj hg hc hr ?_ (hjob ▸ hnone)
  rw [← hslots, hs]
  exact hb

end

theorem reset_inputs_clear : State.reset.inputs.Clear :=
  ⟨fun a side => by cases a <;> cases side <;> rfl, fun st => by cases st <;> rfl⟩

/-- Refutes O16: with the policy AUTO the retained GRIP is planned again and fails at once, for no zone may grip a case without a
type. The job ends in the same event and slot 0 is BLOCKED. The statement, which reads the needs of the grip off the slots after the
return, asks for a grip with try 1. -/
theorem not_setStationStoresLimitsPolicyAndFields : ¬ Obligations.SetStationStoresLimitsPolicyAndFields := by
  rintro ⟨-, h⟩
  have hready : (gripHeld ⟨false, false, false⟩ false).link.Ready := ⟨by decide, rfl, fun r hr => absurd hr List.not_mem_nil⟩
  have hok := (h (gripHeld ⟨false, false, false⟩ false) 0 autoBody .A .full true hready rfl rfl rfl rfl rfl).2 (by decide)
  obtain ⟨-, -, -, hret⟩ := hok
  obtain ⟨u, hexec, hin, hr⟩ := (hret rfl rfl (.inl rfl) rfl nofun).2 .finishing rfl
  have hend := setStation_givesGripUp
  rw [hexec] at hend
  exact gripReturned_absurd (s := gripHeld ⟨false, false, false⟩ false)
    (w := u.replied 0x02 0 autoBody (.code .ok)) rfl rfl rfl (by rw [hin]; exact reset_inputs_clear) hr ⟨rfl, rfl, rfl⟩ hend

/-- Refutes O50: a curtain restored under AUTO returns the cell, and the retained GRIP fails at once as it is planned again, for no
zone may grip a case without a type. The job ends in the same event and slot 0 is BLOCKED, where the statement asks for a grip with
try 1. -/
theorem not_curtainsAndPalletsExchangeStations : ¬ Obligations.CurtainsAndPalletsExchangeStations := by
  intro h
  obtain ⟨-, -, -, -, hrestore, -⟩ := h gripBehindCurtain .A
  obtain ⟨-, hback⟩ := hrestore (.ret .finishing) ⟨false, true, false⟩ ⟨false, false, false⟩ rfl (by decide) rfl rfl (.inl (by decide))
  obtain ⟨-, -, hret⟩ := hback rfl rfl
  obtain ⟨u, hexec, hin, hr, -⟩ := hret .finishing rfl nofun
  have hend := curtainRestore_givesGripUp
  rw [hexec] at hend
  have hc : u.inputs.Clear := by
    rw [hin]
    exact ⟨reset_inputs_clear.1, fun st => by cases st <;> rfl⟩
  exact gripReturned_absurd (s := gripBehindCurtain) rfl rfl rfl hc hr ⟨rfl, rfl, rfl⟩ hend

end Sys2Proof.Machine
end

section
/-! SUPPORT. What the end of a job leaves beside its source (R29, R82, R89, R98, R100, R106): the frame of the state, the other station,
and the slots but for their stale marks. -/

namespace Sys2Proof.Machine

/-- Two contents of a slot that differ in the stale mark at most (R106). -/
abbrev Slot.Remarked (x y : Slot) : Prop := y = x ∨ ∃ r n k k', x = .held r n k ∧ y = .held r n k'

theorem Slot.Remarked.trans {x y z : Slot} (h : x.Remarked y) (k : y.Remarked z) : x.Remarked z := by
  rcases h with rfl | ⟨r, n, m, m', rfl, rfl⟩
  · exact k
  · rcases k with rfl | ⟨r', n', m₁, m₂, ht, rfl⟩
    · exact .inr ⟨r, n, m, m', rfl, rfl⟩
    · cases ht
      exact .inr ⟨r, n, m, m₂, rfl, rfl⟩

/-- Between `s` and `u` the slots differ in stale marks alone (R106). -/
def State.Remarks (s u : State) : Prop := ∀ i : SlotId, s.slots[i].Remarked u.slots[i]

section remarks

variable {s t u : State} {st : StationId} {j : Job}

namespace State.Remarks

theorem of_eq (h : u.slots = s.slots) : s.Remarks u := fun i => .inl (by rw [h])

theorem refl (s : State) : s.Remarks s := of_eq rfl

theorem trans (h : s.Remarks t) (k : t.Remarks u) : s.Remarks u := fun i => (h i).trans (k i)

/-- A slot that holds no case is not touched. -/
theorem free (h : s.Remarks u) {i : SlotId} (hi : ∀ r n k, s.slots[i] ≠ .held r n k) : u.slots[i] = s.slots[i] := by
  rcases h i with hi' | ⟨r, n, k, -, hs, -⟩
  · exact hi'
  · exact absurd hs (hi r n k)

/-- A case stays where it is. -/
theorem held (h : s.Remarks u) {i : SlotId} {r : ArrivalRec} {n : Nat} {k : Bool} (hi : s.slots[i] = .held r n k) :
    ∃ k', u.slots[i] = .held r n k' := by
  rcases h i with hi' | ⟨r', n', m, m', hs, hu⟩
  · exact ⟨k, hi'.trans hi⟩
  · rw [hi] at hs
    cases hs
    exact ⟨m', hu⟩

theorem setSlot {i : SlotId} {r : ArrivalRec} {n : Nat} {m : Bool} (hi : s.slots[i] = .held r n m) (m' : Bool) :
    s.Remarks (s.setSlot i (.held r n m')) := by
  intro k
  by_cases hk : i = k
  · subst hk
    exact .inr ⟨r, n, m, m', hi, by simp⟩
  · have hv : (i : Nat) ≠ k := fun hv => hk (Fin.ext hv)
    exact .inl (by simp [Vector.getElem_set_ne, hv])

theorem staleScanSlot (s : State) (i : SlotId) : s.Remarks (s.staleScanSlot i) := by
  unfold State.staleScanSlot
  split
  next r n m hi =>
    split
    · split
      · exact refl s
      · exact (setSlot hi true).trans (of_eq rfl)
    · exact setSlot hi false
  · exact refl s

theorem staleScan (s : State) : s.Remarks s.staleScan :=
  List.foldlRecOn (motive := fun t : State => s.Remarks t) allSlots _ (refl s) fun _ ht i _ => ht.trans (staleScanSlot _ i)

theorem setPState (s : State) (st : StationId) (id : Nat) (x : PState) : s.Remarks (s.setPState st id x) := by
  refine .trans (t := (s.setPlan st ((s.plan.get st).modify id fun q => { q with state := x })).reschedule st) (of_eq ?_) (staleScan _)
  rw [State.StationsOnly.reschedule _ st]
  rfl

theorem layerDones (q : List (Nat × Layer)) (s : State) (st : StationId) :
    (q.foldl (fun s q => s.layerDone st q.2) s).slots = s.slots := by
  induction q generalizing s with
  | nil => rfl
  | cons x q ih =>
    rw [List.foldl_cons, ih]
    unfold State.layerDone
    split <;> rfl

theorem examineLayers (s : State) (st : StationId) : s.Remarks (s.examineLayers st) := by
  have hg : s.Remarks (s.layersGone st) := by
    refine .trans (of_eq ?_) (staleScan _)
    rw [State.StationsOnly.reschedule _ st]
    refine (layerDones _ _ st).trans ?_
    unfold State.layersCut
    dsimp only
    split <;> rfl
  have hw : s.Remarks (s.layersSwept st) := by
    unfold State.layersSwept
    split
    · exact hg.trans (of_eq (State.sweepTrigger_stn _ st).2)
    · exact hg
  by_cases h : (splitQueue 0 (s.plan.get st).queue).2 = []
  · rw [State.examineLayers_kept h]
    exact refl s
  · rw [State.examineLayers_gone h]
    exact hw.trans (of_eq (State.endOfQueue_slots _ st))

theorem returnPlacement (s : State) (st : StationId) (id : Nat) (b : Bool) : s.Remarks (s.returnPlacement st id b) := by
  unfold State.returnPlacement
  split
  · split
    · split
      · exact (((setPState s st id _).trans (setPState _ st id _)).trans (of_eq (State.noteVoid_slots ..))).trans (examineLayers _ st)
      · exact setPState s st id _
    · exact refl s
  · exact refl s

theorem handBack (s : State) : s.Remarks s.handBack := by
  unfold State.handBack
  split
  · exact refl s
  · split
    · exact returnPlacement s _ _ _
    · exact refl s

theorem sheetJobOver (s : State) (st : StationId) : s.Remarks (s.sheetJobOver st) :=
  examineLayers (s.setPlan st _) st

end State.Remarks

theorem State.sweepResume_slots (s : State) (st : StationId) : (s.sweepResume st).slots = s.slots := by
  unfold State.sweepResume
  split
  · exact (State.startSweep_stn s st).2
  · rfl

theorem State.dropReservation_slots (s : State) : s.dropReservation.slots = s.slots := by
  unfold State.dropReservation
  split
  · rfl
  · dsimp only
    split
    · rfl
    · exact State.sweepResume_slots _ _

end remarks

/-! ### The frame, and the other station -/

/-- Between `s` and `u` a job ends: beside the job, the cell and the lanes at most what an operation on stations and slots touches
differs. -/
def State.EndsOnly (s u : State) : Prop :=
  u = { s with
    job := u.job, cell := u.cell, plan := u.plan, stack := u.stack, stn := u.stn, slots := u.slots, stall := u.stall
    lanes := u.lanes, link := u.link, evalDue := u.evalDue, awaitDue := u.awaitDue }

/-- Such a change, that leaves of the stations all but one, if any. -/
structure State.EndsAt (o : Option StationId) (s u : State) : Prop where
  rest : s.EndsOnly u
  other : ∀ st, o ≠ some st → u.plan.get st = s.plan.get st ∧ u.stack.get st = s.stack.get st ∧ u.stn.get st = s.stn.get st
    ∧ u.stall.get st = s.stall.get st

section ends

variable {s t u : State} {st : StationId} {j : Job} {o : Option StationId}

theorem State.sheetJobOver_within (s : State) (st : StationId) : s.Within st (s.sheetJobOver st) :=
  (s.setPlan_within st _).trans (State.examineLayers_within _ st)

namespace State.EndsAt

theorem refl (o : Option StationId) (s : State) : State.EndsAt o s s := ⟨rfl, fun _ _ => ⟨rfl, rfl, rfl, rfl⟩⟩

theorem trans (h : State.EndsAt o s t) (k : State.EndsAt o t u) : State.EndsAt o s u where
  rest := by
    have hr := h.rest
    have kr := k.rest
    unfold State.EndsOnly at hr
    rw [hr] at kr
    exact kr
  other := fun st hn => by
    obtain ⟨hp, hk, hs, hl⟩ := h.other st hn
    obtain ⟨kp, kk, ks, kl⟩ := k.other st hn
    exact ⟨kp.trans hp, kk.trans hk, ks.trans hs, kl.trans hl⟩

theorem of_within (h : s.Within st u) : State.EndsAt (some st) s u where
  rest := by
    have hr := h.rest
    unfold State.PlansOnly at hr
    unfold State.EndsOnly
    rw [hr]
  other := fun st' hn => by
    have hn' : st' ≠ st := fun e => hn (by rw [e])
    exact ⟨h.plan st' hn', h.stack st' hn', h.stn st' hn', h.stall st' hn'⟩

/-- A change of no station. -/
theorem of_rest (h : s.EndsOnly u) (hp : u.plan = s.plan) (hk : u.stack = s.stack) (hs : u.stn = s.stn) (hl : u.stall = s.stall) :
    State.EndsAt o s u :=
  ⟨h, fun _ _ => ⟨by rw [hp], by rw [hk], by rw [hs], by rw [hl]⟩⟩

theorem handBack (h : s.job = some j) : State.EndsAt j.station s s.handBack := by
  rcases State.handBack_of h with ⟨-, hk⟩ | ⟨st, hs, hk | ⟨id, hk⟩⟩
  · rw [hk]
    exact refl _ s
  · rw [hk]
    exact refl _ s
  · rw [hk, hs]
    exact of_within (s.returnPlacement_within st id _)

theorem setJob (x : Option Job) : State.EndsAt o s (s.setJob x) := of_rest rfl rfl rfl rfl rfl

theorem dropReservation (h : s.job = some j) : State.EndsAt j.station s s.dropReservation := by
  cases hs : j.station with
  | none =>
    rw [State.dropReservation_of_free h hs]
    exact setJob _
  | some st =>
    rw [State.dropReservation_of h hs]
    exact (setJob _).trans (of_within (State.sweepResume_within _ st))

theorem sourceEnd (src : Source) : State.EndsAt o s (s.sourceEnd src) := by
  unfold State.sourceEnd
  dsimp only
  (repeat' split) <;> exact of_rest rfl rfl rfl rfl rfl

theorem stallTestAt (s : State) (o : Option StationId) : State.EndsAt o s (s.stallTestAt o) := by
  unfold State.stallTestAt
  split
  · exact of_within (State.stallTest_within s _)
  · exact refl _ s

theorem finishCell (s : State) : State.EndsAt o s s.finishCell := by
  unfold State.finishCell
  split
  · exact of_rest rfl rfl rfl rfl rfl
  · exact refl _ s

/-- The end of a job that takes no sheet off the magazine (R89, R98). -/
theorem jobEnd (h : s.job = some j) (hg : j.gripped = false ∨ j.committed = true ∨ j.source ≠ .magazine) :
    State.EndsAt j.station s s.jobEnd := by
  have hm (t : State) : t.sheetGone j = t := by
    unfold State.sheetGone
    rcases hg with hg | hg | hg <;> simp [hg]
  have hc : State.EndsAt j.station s ((s.handBack.setJob none).sheetGone j) := by
    rw [hm]
    exact (handBack h).trans (setJob none)
  have hk : State.EndsAt j.station s (s.jobOff j) := by
    cases hs : j.station with
    | none =>
      rw [State.jobOff_of_free h hs, hm]
      exact setJob none
    | some st =>
      rw [State.jobOff_station hs]
      have hj : State.EndsAt (some st) s (s.jobCut j) := by
        rw [hs] at hc
        unfold State.jobCut
        dsimp only
        split
        next st' hk hd =>
          obtain rfl : st' = st := by simpa [Job.station, hk, hd] using hs
          exact hc.trans (of_within (State.sheetJobOver_within _ st'))
        · exact hc
      exact hj.trans (of_within (State.endOfQueue_within _ st))
  rw [State.jobEnd_eq h]
  exact (((hk.trans (sourceEnd j.source)).trans (stallTestAt _ j.station)).trans (finishCell _)).trans (of_rest rfl rfl rfl rfl rfl)

end State.EndsAt

end ends

end Sys2Proof.Machine
end

section
/-! SUPPORT. The end of a job whose grip failed, part by part (R24, R79, R82, R96, R100). -/

namespace Sys2Proof.Machine

section

variable {s t u : State} {st : StationId} {j : Job} {id : Nat} {i : SlotId}

/-! ### The placement that goes back -/

/-- Every placement of a plan comes, with its id and state, from one of another. -/
def Plan.From (p q : Plan) : Prop := ∀ y ∈ q.placements, ∃ x ∈ p.placements, y.id = x.id ∧ y.state = x.state

theorem Plan.From.refl (p : Plan) : p.From p := fun y hy => ⟨y, hy, rfl, rfl⟩

theorem Plan.From.trans {p q r : Plan} (h : p.From q) (k : q.From r) : p.From r := by
  intro z hz
  obtain ⟨y, hy, hid, hst⟩ := k z hz
  obtain ⟨x, hx, hid', hst'⟩ := h y hy
  exact ⟨x, hx, hid.trans hid', hst.trans hst'⟩

theorem Plan.From.unsweep (p : Plan) (ids : List Nat) : p.From (p.unsweep ids) := by
  intro y hy
  rw [Plan.unsweep, Plan.placements_mapPlacements] at hy
  obtain ⟨x, hx, rfl⟩ := List.mem_map.mp hy
  refine ⟨x, hx, ?_⟩
  split <;> exact ⟨rfl, rfl⟩

theorem Plan.From.staying (p : Plan) : p.From p.staying := by
  intro y hy
  obtain ⟨l, hl, hyl⟩ := Plan.mem_placements.mp hy
  exact ⟨y, Plan.mem_placements.mpr ⟨l, (List.mem_filter.mp hl).1, hyl⟩, rfl, rfl⟩

theorem Plan.From.examineLayers (s : State) (st : StationId) : (s.plan.get st).From ((s.examineLayers st).plan.get st) := by
  by_cases h : (splitQueue 0 (s.plan.get st).queue).2 = []
  · rw [State.examineLayers_kept h]
    exact .refl _
  · obtain ⟨ids, hp⟩ := State.layersSwept_plan (s := s) (st := st)
    rw [State.examineLayers_gone h, (State.StationsOnly.endOfQueue _ st).plan, hp]
    exact (Plan.From.staying _).trans (.unsweep _ ids)

theorem Plan.From.dropReservation (h : s.job = some j) (st : StationId) :
    (s.plan.get st).From (s.dropReservation.plan.get st) := by
  cases hs : j.station with
  | none =>
    rw [State.dropReservation_of_free h hs]
    exact .refl _
  | some st' =>
    rw [State.dropReservation_of h hs]
    unfold State.sweepResume
    split
    · obtain ⟨ids, hp⟩ := State.startSweep_plan (s.setJob (some { j with reservation := none })) st'
      by_cases he : st = st'
      · subst he
        rw [hp]
        exact .unsweep _ ids
      · rw [(State.startSweep_within _ st').plan st he]
        exact .refl _
    · exact .refl _

/-- A BOUND placement that goes back is PENDING, or VOID where its plan was abandoned (R24). -/
theorem State.returnPlacement_state {q p : Placement} {b : Bool} (hf : (s.plan.get st).find? id = some q) (hq : q.state = .bound)
    (hp : p ∈ ((s.returnPlacement st id b).plan.get st).placements) (hi : p.id = id) :
    p.state = if b then .void else .pending := by
  unfold State.returnPlacement at hp
  simp only [hf, hq, if_true] at hp
  cases b with
  | true =>
    rw [if_pos rfl] at hp ⊢
    obtain ⟨x, hx, hxi, hxs⟩ := Plan.From.examineLayers _ st p hp
    rw [State.noteVoid_plan] at hx
    rcases State.setPState_state hx with ⟨hv, -⟩ | ⟨-, hn⟩
    · exact hxs.trans hv
    · exact absurd (hxi.symm.trans hi) hn
  | false =>
    rcases State.setPState_state hp with ⟨hv, -⟩ | ⟨-, hn⟩
    · exact hv
    · exact absurd hi hn

theorem State.handBack_of_place (h : s.job = some j) (hk : j.kind = .place) (hd : j.dest = some (.placement st id)) :
    s.handBack = s.returnPlacement st id j.abandoned := by
  simp only [State.handBack, h, hk, hd]

/-- Once it is back it is not handed back again. -/
theorem State.handBack_settled (h : s.job = some j) (hk : j.kind = .place) (hd : j.dest = some (.placement st id))
    (hb : ∀ p ∈ (s.plan.get st).placements, p.id = id → p.state ≠ .bound) : s.handBack = s := by
  rw [State.handBack_of_place h hk hd]
  unfold State.returnPlacement
  split
  next q hf =>
    obtain ⟨hq, hqi⟩ := Plan.find?_eq_some hf
    exact if_neg (hb q hq hqi)
  · rfl

/-! ### The state of the station -/

theorem State.examineLayers_mode_bound (hb : s.boundTo st = true) : ((s.examineLayers st).stn.get st).mode = (s.stn.get st).mode := by
  by_cases h : (splitQueue 0 (s.plan.get st).queue).2 = []
  · rw [State.examineLayers_kept h]
  · rw [State.examineLayers_mode h, if_neg (by simp [hb])]

theorem State.returnPlacement_mode_bound (hb : s.boundTo st = true) (b : Bool) :
    ((s.returnPlacement st id b).stn.get st).mode = (s.stn.get st).mode := by
  unfold State.returnPlacement
  split
  · split
    · split
      · have hw := ((s.setPState_within st id .pending).trans (State.setPState_within _ st id .void)).trans
          (State.noteVoid_within _ st id)
        rw [State.examineLayers_mode_bound ((hw.boundTo st).trans hb), State.noteVoid_stn, (State.setPState_keeps _ st id .void).2.1,
          (State.setPState_keeps _ st id .pending).2.1]
      · exact (State.setPState_keeps _ st id .pending).2.1 st
    · rfl
  · rfl

/-- What is handed back while the job is there ends no queue (R29). -/
theorem State.handBack_mode (h : s.job = some j) (hs : j.station = some st) :
    (s.handBack.stn.get st).mode = (s.stn.get st).mode := by
  rcases State.handBack_of h with ⟨hn, -⟩ | ⟨st', hn, hk | ⟨id, hk⟩⟩
  · simp [hn] at hs
  · rw [hk]
  · obtain rfl : st' = st := by simpa [hn] using hs
    rw [hk]
    exact State.returnPlacement_mode_bound (State.boundTo_iff.mpr ⟨j, h, hs⟩) _

theorem State.dropReservation_stn (s : State) : s.dropReservation.stn = s.stn := by
  unfold State.dropReservation
  split
  · rfl
  · dsimp only
    split
    · rfl
    · unfold State.sweepResume
      split
      · exact (State.startSweep_stn _ _).1
      · rfl

end

end Sys2Proof.Machine
end

section
/-! SUPPORT. The end of a job whose grip failed, continued: its lane, its slot, and the plan it leaves (R24, R61, R79, R82, R96). -/

namespace Sys2Proof.Machine

section

variable {s t u : State} {st : StationId} {j : Job} {id : Nat} {i : SlotId} {o : Option StationId}

/-! ### The source that is given up -/

namespace State.EndsAt

theorem sourceLost (s : State) (j : Job) : State.EndsAt j.station s (s.sourceLost j) := by
  unfold State.sourceLost
  split
  · unfold State.ungrippableLane
    split
    · exact of_rest rfl rfl rfl rfl rfl
    · exact refl _ s
  · unfold State.ungrippableSlot
    split
    · exact of_rest rfl rfl rfl rfl rfl
    · exact refl _ s
  · split
    next st hs =>
      split
      · rw [hs]
        exact of_within (s.stationSet_within st _ _)
      · exact refl _ s
    · exact refl _ s

end State.EndsAt

theorem State.sourceLost_lanes_other (h : ∀ l, j.source ≠ .lane l) : (s.sourceLost j).lanes = s.lanes := by
  unfold State.sourceLost
  split
  next l hl => exact absurd hl (h l)
  · unfold State.ungrippableSlot
    split <;> rfl
  · split
    · split
      · exact congrArg Floor.lanes (s.stationSet_floor _ _ _)
      · rfl
    · rfl

theorem State.setSlot_other {k : SlotId} (h : k ≠ i) (x : Slot) : (s.setSlot k x).slots[i] = s.slots[i] := by
  have hv : (k : Nat) ≠ i := fun hv => h (Fin.ext hv)
  simp [Vector.getElem_set_ne, hv]

theorem State.sourceLost_slot_other (h : j.source ≠ .slot i) : (s.sourceLost j).slots[i] = s.slots[i] := by
  unfold State.sourceLost
  split
  · unfold State.ungrippableLane
    split <;> rfl
  next k hk =>
    have hn : k ≠ i := fun hv => h (hk.trans (congrArg Source.slot hv))
    unfold State.ungrippableSlot
    split
    · exact State.setSlot_other hn _
    · rfl
  · split
    · split
      · exact congrArg (fun v => v[i]) (State.stationSet_slots s _ _ _)
      · rfl
    · rfl

/-- A slot that is given up is BLOCKED, and its report tells the case (R82, R96). -/
theorem State.sourceLost_slot {r : ArrivalRec} {n : Nat} {k : Bool} (hs : j.source = .slot i) (hi : s.slots[i] = .held r n k) :
    s.sourceLost j = ((s.setSlot i .blocked).report (.slot i .blocked .ungrippable (some r.ref))).slotEvent := by
  simp only [State.sourceLost, hs, State.ungrippableSlot, hi]

theorem State.sourceLost_plan (s : State) (j : Job) : (s.sourceLost j).plan = s.plan ∧ (s.sourceLost j).stack = s.stack := by
  unfold State.sourceLost
  split
  · unfold State.ungrippableLane
    split <;> exact ⟨rfl, rfl⟩
  · unfold State.ungrippableSlot
    split <;> exact ⟨rfl, rfl⟩
  · split
    next st _ =>
      split
      · have h := State.StationsOnly.stationSet s st (.plain (.held .sheetsOut)) false
        exact ⟨h.plan, h.stack⟩
      · exact ⟨rfl, rfl⟩
    · exact ⟨rfl, rfl⟩

/-- A BUILDING station whose magazine gives no sheet is held for sheets, any other keeps its state (R90, R96). -/
theorem State.sourceLost_mode (hs : j.station = some st) : ((s.sourceLost j).stn.get st).mode =
    if (s.stn.get st).mode = .plain .building ∧ j.source = .magazine then .plain (.held .sheetsOut) else (s.stn.get st).mode := by
  unfold State.sourceLost
  split
  next l hl =>
    rw [if_neg (by simp [hl])]
    unfold State.ungrippableLane
    split <;> rfl
  next i hi =>
    rw [if_neg (by simp [hi])]
    unfold State.ungrippableSlot
    split <;> rfl
  next hm =>
    simp only [hs, hm, and_true]
    split
    · exact s.stationSet_mode st _ _
    · rfl

/-! ### The slots a job end leaves -/

theorem State.sheetGone_slots : (s.sheetGone j).slots = s.slots := State.sheetGone_keeps.1

theorem State.jobOff_cut (hs : j.station = none) : s.jobOff j = s.jobCut j := by
  unfold State.jobOff
  rw [hs]
  rfl

theorem State.Remarks.jobOff (s : State) (j : Job) : s.Remarks (s.jobOff j) := by
  have hg : s.Remarks ((s.handBack.setJob none).sheetGone j) := (State.Remarks.handBack s).trans (.of_eq State.sheetGone_slots)
  have hc : s.Remarks (s.jobCut j) := by
    unfold State.jobCut
    dsimp only
    split
    · exact hg.trans (.sheetJobOver _ _)
    · exact hg
  cases hs : j.station with
  | none =>
    rw [State.jobOff_cut hs]
    exact hc
  | some st =>
    rw [State.jobOff_station hs]
    exact hc.trans (.of_eq (State.endOfQueue_slots _ st))

/-- The end at the source touches a slot that is the source alone, and that only where it is reserved. -/
theorem State.sourceEnd_slot {src : Source} (h : src = .slot i → s.slots[i] ≠ .empty true) :
    (s.sourceEnd src).slots[i] = s.slots[i] := by
  unfold State.sourceEnd
  dsimp only
  split
  · rfl
  · split <;> rfl
  next k =>
    by_cases hk : k = i
    · subst hk
      rw [if_neg (h rfl)]
    · split
      · split <;> exact State.setSlot_other hk _
      · rfl

theorem State.stallTestAt_slots (s : State) (o : Option StationId) : (s.stallTestAt o).slots = s.slots := by
  unfold State.stallTestAt
  split
  next st =>
    rw [State.StationsOnly.stallTest s st]
  · rfl

/-- The end of a job changes a slot by its stale mark alone, unless it is the source and free. -/
theorem State.jobEnd_slot (h : s.job = some j) (hi : j.source = .slot i → ∀ b, s.slots[i] ≠ .empty b) :
    s.slots[i].Remarked s.jobEnd.slots[i] := by
  have ho : s.slots[i].Remarked (s.jobOff j).slots[i] := State.Remarks.jobOff s j i
  have hsrc (hs : j.source = .slot i) : (s.jobOff j).slots[i] ≠ .empty true := by
    rcases ho with hk | ⟨r, n, k, k', -, hk⟩
    · rw [hk]
      exact hi hs true
    · simp [hk]
  rw [State.jobEnd_eq h, State.dispatchEvent_slots, State.finishCell_slots, State.stallTestAt_slots, State.sourceEnd_slot hsrc]
  exact ho

/-! ### The layers after a SHEET job -/

theorem State.sheetJobOver_layers (s : State) (st : StationId) :
    ∀ l ∈ ((s.sheetJobOver st).plan.get st).queue, l.sheetJob = false := by
  have hs : ∀ l ∈ ((s.setPlan st { s.plan.get st with
      queue := (s.plan.get st).queue.map fun l => { l with sheetJob := false } }).plan.get st).queue, l.sheetJob = false := by
    intro l hl
    simp only [State.setPlan_plan, PerStation.get_set_same, List.mem_map] at hl
    obtain ⟨x, -, rfl⟩ := hl
    rfl
  unfold State.sheetJobOver
  dsimp only
  generalize s.setPlan st { s.plan.get st with
      queue := (s.plan.get st).queue.map fun l => { l with sheetJob := false } } = t at hs ⊢
  by_cases h : (splitQueue 0 (t.plan.get st).queue).2 = []
  · rw [State.examineLayers_kept h]
    exact hs
  · obtain ⟨ids, hp⟩ := State.layersSwept_plan (s := t) (st := st)
    rw [State.examineLayers_gone h, (State.StationsOnly.endOfQueue _ st).plan, hp]
    intro l hl
    simp only [Plan.unsweep, Plan.mapPlacements, List.mem_map] at hl
    obtain ⟨x, hx, rfl⟩ := hl
    exact hs x (List.mem_filter.mp hx).1

/-- After the end of a SHEET job no layer has one (R89). -/
theorem State.jobEnd_layers (h : s.job = some j) (hk : j.kind = .sheet) (hs : j.station = some st) :
    ∀ l ∈ (s.jobEnd.plan.get st).queue, l.sheetJob = false := by
  have hd : j.dest = some (.sheet st) := by
    unfold Job.station at hs
    split at hs <;> simp_all
  obtain ⟨hp, -, -⟩ := State.jobEnd_plan h
  rw [hp, State.jobOff_station hs, (State.StationsOnly.endOfQueue _ st).plan]
  simp only [State.jobCut, hk, hd]
  exact State.sheetJobOver_layers _ st

/-! ### The plan and the stack -/

/-- The end of a PLACE job that has nothing to hand back leaves plans and stacks. -/
theorem State.jobEnd_settled (h : s.job = some j) (hk : j.kind = .place) (hs : j.station = some st) (hb : s.handBack = s) :
    s.jobEnd.plan = s.plan ∧ s.jobEnd.stack = s.stack := by
  have hc : s.jobCut j = (s.setJob none).sheetGone j := by simp [State.jobCut, hk, hb]
  obtain ⟨hp, -, hq⟩ := State.jobEnd_plan h
  have he := State.StationsOnly.endOfQueue (s.jobCut j) st
  rw [hp, hq, State.jobOff_station hs, he.plan, he.stack, hc, State.sheetGone_plan.1, State.sheetGone_keeps.2]
  exact ⟨rfl, rfl⟩

theorem State.stack_of_ground (h : u.ground = s.ground) : u.stack = s.stack := congrArg Ground.stack h

theorem State.setPState_stack (s : State) (st : StationId) (id : Nat) (x : PState) : (s.setPState st id x).stack = s.stack := by
  unfold State.setPState
  have h := State.stack_of_ground
    (((s.setPlan st ((s.plan.get st).modify id fun q => { q with state := x })).reschedule st).staleScan_ground.trans
      (State.reschedule_ground _ st))
  exact h

end

end Sys2Proof.Machine
end

section
/-! THEOREM. A grip that failed gives up its source at the end of CLEAR (R24, R27, R29, R61, R79, R82, R96, R100, R122, R124, R140,
R158). -/

namespace Sys2Proof.Machine

section

variable {s u : State} {st : StationId} {j : Job} {id : Nat} {i : SlotId}

/-! ### The grip fails -/

theorem exec_gripTimerExpiry_last (hg : s.gripper.state = .gripping) (ha : s.gripper.attempt ≠ 1) :
    exec .gripTimerExpiry s = .next (s.fresh.gripFail .failTimeout).settle := by
  have he : s.fresh.gripTimerEnds = s.fresh.gripFail .failTimeout := by
    unfold State.gripTimerEnds
    exact (if_pos hg).trans (if_neg ha)
  exact congrArg (fun t : State => Host.Outcome.next t.settle) he

/-- What a failed grip leaves beside the gripper and the reports (R140). -/
theorem State.gripFailed_leaves (hj : s.job = some j) (e : GripEvent) :
    (s.gripFailed e).gantry = s.gantry ∧ (s.gripFailed e).inputs = s.inputs ∧ (s.gripFailed e).stack = s.stack
      ∧ (s.gripFailed e).dir = s.dir ∧ (s.gripFailed e).job = some { j with gripFailed := true } := by
  rw [State.gripFailed_eq, hj]
  exact ⟨rfl, rfl, rfl, rfl, rfl⟩

/-- A rise from below the travel height, written out (R113, R120). -/
theorem State.computeTravel_rising (hz : s.gantry.axes.z.at < ((s.travelHeight : Nat) : Int)) (j : Job) :
    s.computeTravel.rising j = { s.gantry with
      motion := .rise, lastTravel := s.travelHeight
      axes := { s.gantry.axes with z := { s.gantry.axes.z with
        move := some (newMove s.inputs.warning .Z (s.gantry.profileOf j.laden) s.gantry.axes.z.at s.travelHeight) } } } := by
  have hn : ((s.travelHeight : Nat) : Int) ≠ s.gantry.axes.z.at := by omega
  have hs : s.gantry.axes.z.sentTo s.inputs.warning .Z (s.gantry.profileOf j.laden) s.travelHeight
      = { s.gantry.axes.z with
          move := some (newMove s.inputs.warning .Z (s.gantry.profileOf j.laden) s.gantry.axes.z.at s.travelHeight) } := if_neg hn
  rw [← hs]
  rfl

/-- A BUSY gantry below the travel height rises with nothing carried (R122). -/
theorem State.gripFail_rises (hj : s.job = some j) (hb : s.gantry.state = .busy) (hl : s.inputs.limitHigh.z = false)
    (hz : s.gantry.axes.z.at < ((s.travelHeight : Nat) : Int)) (e : GripEvent) :
    (s.gripFail e).job = some { j with gripFailed := true, phase := .clear }
      ∧ (s.gripFail e).gantry = { s.gantry with
          motion := .rise, lastTravel := s.travelHeight
          axes := { s.gantry.axes with z := { s.gantry.axes.z with
            move := some (newMove s.inputs.warning .Z (s.gantry.profileOf j.laden) s.gantry.axes.z.at s.travelHeight) } } } := by
  obtain ⟨hg, hi, hk, hd, hjob⟩ := State.gripFailed_leaves hj e
  have hc := State.setPhase_of hjob .clear
  have hh : ((s.gripFailed e).setPhase .clear).travelHeight = s.travelHeight := by
    refine State.travelHeight_congr ?_ ?_ ?_ ?_ ?_ <;> rw [hc]
    · exact hk
    · exact hd
    · exact congrArg Gantry.geometry hg
    · exact congrArg Gantry.clearance hg
    · simp [hj]
  have hg' : ((s.gripFailed e).setPhase .clear).gantry = s.gantry := by
    rw [hc]
    exact hg
  have hi' : ((s.gripFailed e).setPhase .clear).inputs = s.inputs := by
    rw [hc]
    exact hi
  have hf : s.gripFail e = ((s.gripFailed e).setPhase .clear).riseOr { j with gripFailed := true, phase := .clear } State.endClear := by
    unfold State.gripFail State.startClear
    dsimp only
    rw [if_pos (by rw [hg]; exact hb), hc]
  rw [hf, State.riseOr_below (by rw [hg', hh]; exact hz) (by rw [hi']; exact hl)]
  refine ⟨?_, ?_⟩
  · rw [hc]
    rfl
  · refine (State.computeTravel_rising (by rw [hg', hh]; exact hz) _).trans ?_
    rw [hg', hi', hh]

/-- Any other keeps, and the job notes the failure (R124). -/
theorem State.gripFail_rests (hj : s.job = some j) (hb : s.gantry.state ≠ .busy) (e : GripEvent) :
    (s.gripFail e).gantry = s.gantry ∧ (s.gripFail e).job = some { j with gripFailed := true } := by
  obtain ⟨hg, -, -, -, hjob⟩ := State.gripFailed_leaves hj e
  unfold State.gripFail
  dsimp only
  rw [if_neg (by rw [hg]; exact hb)]
  exact ⟨hg, hjob⟩

/-! ### The end of its CLEAR -/

/-- The state in which the job of a failed grip ends: its placement handed back, its reservation gone and its source given up. -/
def State.gripGivenUp (s : State) (j : Job) : State := s.handBack.dropReservation.sourceLost j

/-- The job as it ends. -/
abbrev Job.unreserved (j : Job) : Job := { j with reservation := none }

theorem State.gripGivenUp_job (hj : s.job = some j) : (s.gripGivenUp j).job = some j.unreserved :=
  State.sourceLost_job.trans (State.dropReservation_job (State.handBack_job.trans hj))

theorem State.failedJobEnd_gives (s : State) (j : Job) : s.failedJobEnd j = (s.gripGivenUp j).jobEnd := rfl

/-- The end of the job of a failed grip. -/
theorem State.endClear_failed (hj : s.job = some j) (hf : j.gripFailed = true) (hg : j.gripped = false) :
    s.endClear = (s.gripGivenUp j).jobEnd.gantryTo .idle := by
  unfold State.endClear
  rw [hj]
  dsimp only
  rw [if_pos (by simp [hf, hg])]
  rfl

theorem State.gripGivenUp_ends (hj : s.job = some j) : State.EndsAt j.station s (s.gripGivenUp j) :=
  ((State.EndsAt.handBack hj).trans (.dropReservation (State.handBack_job.trans hj))).trans (.sourceLost _ j)

theorem State.failedEnd_ends (hj : s.job = some j) (hg : j.gripped = false) : State.EndsAt j.station s (s.gripGivenUp j).jobEnd :=
  have he := State.EndsAt.jobEnd (State.gripGivenUp_job hj) (.inl hg)
  (State.gripGivenUp_ends hj).trans he

/-- The end of a job leaves a FINISHING cell OFF (R124). -/
theorem State.jobEnd_cell (hj : s.job = some j) :
    s.jobEnd.cell = ⟨if s.cell.run = .finishing then .off else s.cell.run, s.cell.auto⟩ := by
  have hc : (((s.jobOff j).sourceEnd j.source).stallTestAt j.station).cell = s.cell := by
    refine (congrArg Floor.cell (State.stallTestAt_floor ..)).trans ?_
    exact (congrArg Floor.cell (State.sourceEnd_floor ..)).trans (congrArg Floor.cell (State.jobOff_floor ..))
  rw [State.jobEnd_eq hj]
  have hj : (((s.jobOff j).sourceEnd j.source).stallTestAt j.station).job = none := by
    refine (congrArg Floor.job (State.stallTestAt_floor ..)).trans ?_
    exact (congrArg Floor.job (State.sourceEnd_floor ..)).trans (congrArg Floor.job (State.jobOff_floor ..))
  generalize (((s.jobOff j).sourceEnd j.source).stallTestAt j.station) = t at hc hj
  rw [← hc, State.dispatchEvent_cell]
  unfold State.finishCell
  split
  next h =>
    rw [if_pos h.1]
    rfl
  next h => rw [if_neg fun hr => h ⟨hr, hj⟩]

/-- The frame of a job end at which the gantry becomes IDLE. -/
theorem State.EndsOnly.to_idle {v : State} {c : CellGuard} (hr : s.EndsOnly u) (hj : u.job = none) (hc : u.cell = c)
    (hv : v = { u with gantry := { u.gantry with state := .idle }, link := v.link, evalDue := true }) : v = { s with
      gantry := { s.gantry with state := .idle }
      job := none
      cell := c
      plan := v.plan, stack := v.stack, stn := v.stn, stall := v.stall, lanes := v.lanes, slots := v.slots
      link := v.link, evalDue := true, awaitDue := v.awaitDue } := by
  unfold State.EndsOnly at hr
  cases s
  cases u
  cases v
  simp only [State.mk.injEq] at hr hj hc hv ⊢
  simp [hr, hj, hc, hv]

/-! ### The source -/

/-- The state from which the source is given up: the placement handed back and the reservation gone. -/
abbrev State.gripReturned (s : State) : State := s.handBack.dropReservation

theorem State.gripReturned_floor (hj : s.job = some j) : s.gripReturned.floor = { s.floor with job := some j.unreserved } := by
  rw [State.gripReturned, State.dropReservation_floor (State.handBack_job.trans hj), s.handBack_floor]

theorem State.gripReturned_remarks (s : State) : s.Remarks s.gripReturned :=
  (State.Remarks.handBack s).trans (.of_eq s.handBack.dropReservation_slots)

/-- A front case that was not gripped is released as UNGRIPPABLE (R79, R96). -/
theorem State.failedJobEnd_lane {l : LaneId} {r : ArrivalRec} {rest : List ArrivalRec} (hj : s.job = some j)
    (hs : j.source = .lane l) (hp : (s.lanes.get l).pick = .front) (hf : (s.lanes.get l).fifo = r :: rest) :
    (s.failedJobEnd j).lanes = s.lanes.set l { s.lanes.get l with
      pick := .releasing true .ungrippable, wait := 0, fifo := { r with disp := .runOff .ungrippable } :: rest } := by
  have hl : s.gripReturned.lanes = s.lanes := congrArg Floor.lanes (State.gripReturned_floor hj)
  have hg : (s.gripGivenUp j).lanes = s.lanes.set l { s.lanes.get l with
      pick := .releasing true .ungrippable, wait := 0, fifo := { r with disp := .runOff .ungrippable } :: rest } := by
    have hp' : (s.gripReturned.lanes.get l).pick = .front := by rw [hl]; exact hp
    have he : s.gripGivenUp j = s.gripReturned.startRelease l true .ungrippable := by
      simp only [State.gripGivenUp, State.sourceLost, hs, State.ungrippableLane, if_pos hp']
    rw [he]
    unfold State.startRelease
    rw [hl]
    simp [Lane.headRunOff, ArrivalRec.runOff, hf, hl]
  rw [State.failedJobEnd_gives]
  refine (State.jobEnd_lanes fun k l' hk hl' => ?_).trans hg
  rw [State.gripGivenUp_job hj] at hk
  cases hk
  obtain rfl : l = l' := Source.lane.inj (hs.symm.trans hl')
  rw [hg, PerLane.get_set_same]
  simp

theorem State.failedJobEnd_lanes_other (hj : s.job = some j) (h : ∀ l, j.source ≠ .lane l) : (s.failedJobEnd j).lanes = s.lanes := by
  have hl : s.gripReturned.lanes = s.lanes := congrArg Floor.lanes (State.gripReturned_floor hj)
  rw [State.failedJobEnd_gives]
  refine (State.jobEnd_lanes fun k l hk hl' => ?_).trans ((State.sourceLost_lanes_other h).trans hl)
  rw [State.gripGivenUp_job hj] at hk
  cases hk
  exact absurd hl' (h l)

theorem State.gripGivenUp_slot {r : ArrivalRec} {n : Nat} {k : Bool} (hs : j.source = .slot i) (hi : s.slots[i] = .held r n k) :
    (s.gripGivenUp j).slots[i] = .blocked := by
  obtain ⟨k', hi'⟩ := s.gripReturned_remarks.held hi
  have hb : ((s.gripReturned.setSlot i .blocked).slots[i]) = .blocked := by simp
  rw [State.gripGivenUp, State.sourceLost_slot hs hi']
  exact hb

/-- A slot becomes BLOCKED (R82, R96). -/
theorem State.failedJobEnd_slot {r : ArrivalRec} {n : Nat} {k : Bool} (hj : s.job = some j) (hs : j.source = .slot i)
    (hi : s.slots[i] = .held r n k) : (s.failedJobEnd j).slots[i] = .blocked := by
  have hb := State.gripGivenUp_slot hs hi
  rcases State.jobEnd_slot (State.gripGivenUp_job hj) (i := i) (fun _ b => by simp [hb]) with h | ⟨_, _, _, _, h, -⟩
  · exact h.trans hb
  · simp [hb] at h

theorem State.failedJobEnd_slot_other (hj : s.job = some j) (hs : j.source ≠ .slot i) :
    s.slots[i].Remarked (s.failedJobEnd j).slots[i] := by
  have h := s.gripReturned_remarks i
  rw [← State.sourceLost_slot_other (s := s.gripReturned) hs] at h
  exact h.trans (State.jobEnd_slot (State.gripGivenUp_job hj) fun h => absurd h hs)

/-- The end of a job that is no SHEET job, whose plan stands, and whose source is left as it is. -/
theorem State.jobEnd_adds_quiet (hj : s.job = some j) (hk : j.kind ≠ .sheet) (ha : j.abandoned = false)
    (hq : (s.jobOff j).sourceEnd j.source = s.jobOff j) : State.AddsStation 12 s s.jobEnd := by
  have htest : State.AddsStation 1 (s.jobOff j) ((s.jobOff j).stallTestAt j.station) := by
    unfold State.stallTestAt
    split
    · exact State.stallTest_adds _ _
    · exact (State.Adds.refl _ _).mono (Nat.zero_le _)
  rw [State.jobEnd_eq hj, hq]
  refine ((State.jobOff_adds hj hk ha).trans htest).before ?_
  unfold State.finishCell
  split <;> rfl

/-- The SLOT report of a slot given up, where no report waits (R82). -/
theorem State.failedJobEnd_report {r : ArrivalRec} {n : Nat} {k : Bool} (hj : s.job = some j) (hs : j.source = .slot i)
    (hi : s.slots[i] = .held r n k) (hr : s.link.reports = []) (hk : j.kind ≠ .sheet) (ha : j.abandoned = false) :
    ReportBody.slot i .blocked .ungrippable (some r.ref) ∈ ((s.failedJobEnd j).gantryTo .idle).link.reports.map Report.body := by
  obtain ⟨k', hi'⟩ := s.gripReturned_remarks.held hi
  have h1 : State.AddsStation 10 s s.gripReturned :=
    (State.handBack_adds fun k hk => by rw [hj] at hk; cases hk; exact ha).trans (State.dropReservation_adds _)
  obtain ⟨l, hl, hn, -⟩ := h1 (by simp [hr, Config.reportMax])
  have hg : s.gripGivenUp j
      = ((s.gripReturned.setSlot i .blocked).report (.slot i .blocked .ungrippable (some r.ref))).slotEvent :=
    State.sourceLost_slot hs hi'
  have h2 : (s.gripGivenUp j).link.reports = l ++ [⟨.slot i .blocked .ungrippable (some r.ref),
      (ReportBody.slot i .blocked .ungrippable (some r.ref)).cls, s.gripReturned.clock % 4294967296⟩] := by
    have hlen : (s.gripReturned.setSlot i .blocked).link.reports.length < Config.reportMax := by
      have : (s.gripReturned.setSlot i .blocked).link.reports = l := by simp [hl, hr]
      rw [this, Config.reportMax]
      omega
    rw [hg]
    refine (State.report_reports _ _ hlen).trans ?_
    simp [hl, hr]
  have hq : ((s.gripGivenUp j).jobOff j.unreserved).sourceEnd j.source = (s.gripGivenUp j).jobOff j.unreserved := by
    have hb := State.gripGivenUp_slot hs hi
    have ho := (State.Remarks.jobOff (s.gripGivenUp j) j.unreserved).free (i := i) (by simp [hb])
    rw [hs]
    exact if_neg (by rw [ho, hb]; simp)
  have h3 : State.Adds (fun _ => true) 13 (s.gripGivenUp j) ((s.failedJobEnd j).gantryTo .idle) := by
    have he := State.jobEnd_adds_quiet (State.gripGivenUp_job hj) hk ha hq
    exact (he.imp fun _ _ => rfl).trans (State.gantryTo_adds _ _ fun _ _ _ _ _ _ => rfl)
  obtain ⟨l', hl', -⟩ := h3 (by rw [h2, List.length_append, Config.reportMax]; simp; omega)
  rw [hl', h2]
  simp

/-! ### The placement and the plan -/

section place

variable {q : Placement}

theorem State.gripGivenUp_placements (hj : s.job = some j) (hk : j.kind = .place) (hd : j.dest = some (.placement st id))
    (hf : (s.plan.get st).find? id = some q) (hq : q.state = .bound) {p : Placement}
    (hp : p ∈ ((s.gripGivenUp j).plan.get st).placements) (hi : p.id = id) :
    p.state = if j.abandoned then .void else .pending := by
  rw [State.gripGivenUp, (State.sourceLost_plan _ j).1] at hp
  obtain ⟨x, hx, hxi, hxs⟩ := Plan.From.dropReservation (State.handBack_job.trans hj) st p hp
  rw [State.handBack_of_place hj hk hd] at hx
  exact hxs.trans (State.returnPlacement_state hf hq hx (hxi.symm.trans hi))

/-- Once the placement is back and the source given up, the end of the job leaves plans and stacks. -/
theorem State.failedJobEnd_settled (hj : s.job = some j) (hk : j.kind = .place)
    (hd : j.dest = some (.placement st id)) (hf : (s.plan.get st).find? id = some q) (hq : q.state = .bound) :
    (s.failedJobEnd j).plan = s.gripReturned.plan ∧ (s.failedJobEnd j).stack = s.gripReturned.stack := by
  have hb := State.handBack_settled (State.gripGivenUp_job hj) (st := st) (id := id) hk hd fun p hp hi => by
    rw [State.gripGivenUp_placements hj hk hd hf hq hp hi]
    split <;> simp
  obtain ⟨hp, hs⟩ := State.jobEnd_settled (State.gripGivenUp_job hj) (st := st) hk (by simp [Job.station, hk, hd]) hb
  obtain ⟨lp, ls⟩ := s.gripReturned.sourceLost_plan j
  exact ⟨hp.trans lp, hs.trans ls⟩

/-- The placement is PENDING again with its verdict kept, and a sweep that waited for the reservation starts (R24, R61). -/
theorem State.gripReturned_plan (hj : s.job = some j) (hk : j.kind = .place) (hd : j.dest = some (.placement st id))
    (hf : (s.plan.get st).find? id = some q) (hq : q.state = .bound) (ha : j.abandoned = false) :
    ∃ t : State, (t.plan.get st) = (s.plan.get st).modify id (fun q => { q with state := .pending }) ∧ t.stack = s.stack
      ∧ t.outstanding st = none ∧ s.gripReturned = t.sweepResume st := by
  have hs : j.station = some st := by simp [Job.station, hk, hd]
  have hb : s.handBack = s.setPState st id .pending := by
    rw [State.handBack_of_place hj hk hd, ha]
    unfold State.returnPlacement
    simp only [hf, hq]
    rfl
  refine ⟨(s.setPState st id .pending).setJob (some j.unreserved), ?_,
    (State.setJob_stack _ _).trans (s.setPState_stack st id _), ?_, ?_⟩
  · rw [State.setJob_plan, State.setPState_plan, PerStation.get_set_same]
  · simp [State.outstanding]
  · rw [← hb]
    exact State.dropReservation_of (State.handBack_job.trans hj) hs

end place

/-! ### The station -/

/-- The state of the station after the end of the job of a failed grip (R29, R96). -/
theorem State.failedJobEnd_mode (hj : s.job = some j) (hs : j.station = some st) : ((s.failedJobEnd j).stn.get st).mode =
    if (s.stn.get st).mode = .plain .building then
      if j.source = .magazine then .plain (.held .sheetsOut)
      else if ((s.failedJobEnd j).plan.get st).queue = [] then .plain (if (s.plan.get st).closed then .complete else .idle)
      else .plain .building
    else (s.stn.get st).mode := by
  have hm : (s.gripReturned.stn.get st).mode = (s.stn.get st).mode := by
    rw [State.gripReturned, State.dropReservation_stn]
    exact State.handBack_mode hj hs
  have hl := State.sourceLost_mode (s := s.gripReturned) hs
  have hc : ((s.gripGivenUp j).plan.get st).closed = (s.plan.get st).closed := by
    rw [State.gripGivenUp, (State.sourceLost_plan _ j).1, State.dropReservation_of (State.handBack_job.trans hj) hs]
    unfold State.sweepResume
    split
    · exact (State.Winds.startSweep _ st).closed.trans (State.handBack_winds hj hs).closed
    · exact (State.handBack_winds hj hs).closed
  have he := State.jobEnd_mode (State.gripGivenUp_job hj) (st := st) hs
  rw [State.failedJobEnd_gives, he, hc, State.gripGivenUp, hl, hm]
  by_cases hb : (s.stn.get st).mode = .plain .building
  · by_cases hg : j.source = .magazine
    · simp [hb, hg]
    · simp [hb, hg]
  · simp [hb]

end

end Sys2Proof.Machine
end

section
/-! THEOREM. A grip that failed gives up its source at the end of CLEAR (R24, R27, R29, R61, R79, R82, R96, R100, R122, R124, R140,
R158). -/

namespace Sys2Proof.Machine

section

variable {s u : State} {st : StationId} {j : Job} {id : Nat} {i : SlotId}

/-- The state in which the last axis has come to rest with the CLEAR of a job. -/
def State.clearDone (s : State) (g : Gantry) : State := (s.fresh.setGantry g).setMotion .none

theorem exec_moveEnd_clear {a : LinAxis} {m : Move} {g : Gantry} (hm : (s.gantry.axes.get a).move = some m)
    (hg : g = { s.gantry with axes := s.gantry.axes.set a { s.gantry.axes.get a with counter := some m.goal, move := none } })
    (hr : g.moving = false) (hk : g.motion = .rise) (hj : s.job = some j) (hp : j.phase = .clear) :
    exec (.moveEnd (.lin a)) s = .next (s.clearDone g).endClear.settle := by
  have he : s.gantry.setAxis a ((s.gantry.axes.get a).arrived m) = g := hg.symm
  have hd : (s.fresh.setGantry g).settleMotion = (s.clearDone g).endClear :=
    (State.settleMotion_still hr).trans (State.motionDone_clear (s := s.fresh.setGantry g) hj hk hp)
  rw [exec_moveEnd_lin hm, he, hd]

theorem State.sourceLost_cell : (s.sourceLost j).cell = s.cell := by
  unfold State.sourceLost
  split
  · unfold State.ungrippableLane
    split <;> rfl
  · unfold State.ungrippableSlot
    split <;> rfl
  · split
    · split
      · exact congrArg Floor.cell (s.stationSet_floor _ _ _)
      · rfl
    · rfl

/-- The frame of the end of the job of a failed grip. -/
theorem State.failedEnd_frame (hj : s.job = some j) (hg : j.gripped = false) (hu : u = (s.failedJobEnd j).gantryTo .idle) :
    u = { s with
      gantry := { s.gantry with state := .idle }
      job := none
      cell := ⟨if s.cell.run = .finishing then .off else s.cell.run, s.cell.auto⟩
      plan := u.plan, stack := u.stack, stn := u.stn, stall := u.stall, lanes := u.lanes, slots := u.slots
      link := u.link, evalDue := true, awaitDue := u.awaitDue } := by
  have hend := State.failedEnd_ends hj hg
  have hjob := State.gripGivenUp_job hj
  have hcell : (s.gripGivenUp j).cell = s.cell :=
    State.sourceLost_cell.trans (congrArg Floor.cell (State.gripReturned_floor hj))
  refine hend.rest.to_idle (State.jobEnd_job _) ?_ ?_
  · rw [State.jobEnd_cell hjob, hcell]
  · have he := State.gantryTo_eq (s.failedJobEnd j) .idle
    rw [State.gantryTo_evalDue_of .idle (s := s.failedJobEnd j) (State.jobEnd_evalDue hjob), ← hu] at he
    exact he

/-- The placement of a failed grip, and the plan it stands in, at the end of the job (R24, R61). -/
theorem State.failedJobEnd_place {q : Placement} (hj : s.job = some j) (hk : j.kind = .place)
    (hd : j.dest = some (.placement st id)) (hf : (s.plan.get st).find? id = some q) (hq : q.state = .bound) :
    (∀ p ∈ ((s.failedJobEnd j).plan.get st).placements, p.id = id → p.state = if j.abandoned then .void else .pending)
    ∧ ∀ p : Plan, j.abandoned = false → p = (s.plan.get st).modify id (fun q => { q with state := .pending }) →
      ((s.stack.get st).sweep.state ≠ .waiting → (s.failedJobEnd j).plan.get st = p
        ∧ (s.failedJobEnd j).stack.get st = s.stack.get st)
      ∧ ((s.stack.get st).sweep.state = .waiting →
        ((s.failedJobEnd j).plan.get st).queue.map Layer.unswept = p.queue.map Layer.unswept
        ∧ ((s.failedJobEnd j).stack.get st).sweep = (match p.candidates with
          | [] => ⟨.idle, []⟩
          | cs => ⟨.running, cs⟩)
        ∧ ∀ q ∈ ((s.failedJobEnd j).plan.get st).eligiblePending, q.verdict = .unswept) := by
  obtain ⟨hp, hs⟩ := State.failedJobEnd_settled hj hk hd hf hq
  refine ⟨fun p hm hi => ?_, fun p ha he => ?_⟩
  · rw [hp, ← (s.gripReturned.sourceLost_plan j).1] at hm
    exact State.gripGivenUp_placements hj hk hd hf hq hm hi
  · obtain ⟨t, htp, hts, hto, hr⟩ := State.gripReturned_plan hj hk hd hf hq ha
    rw [hp, hs, hr, he, ← htp, ← hts]
    unfold State.sweepResume
    refine ⟨fun hw => ?_, fun hw => ?_⟩
    · rw [if_neg hw]
      exact ⟨rfl, rfl⟩
    · rw [if_pos hw]
      have hsw := State.startSweep_swept hto
      obtain ⟨hrun, -, hun⟩ := hsw.runs hto
      exact ⟨hsw.queue, hrun, hun⟩

/-- Settles O53, each clause by its own lemma on the end of the job: the parts of `failedJobEnd` touch each its own part of the
state. -/
theorem failedGripsGiveUpTheirSource : Obligations.FailedGripsGiveUpTheirSource := by
  unfold Obligations.FailedGripsGiveUpTheirSource
  refine ⟨fun s j hg ha hj => ⟨fun hb hl hz => ?_, fun hb => ?_⟩, fun s a m g j hm hg hr hk hj hp hf hgr => ?_⟩
  · exact ⟨_, exec_gripTimerExpiry_last hg ha, State.gripFail_rises (s := s.fresh) hj hb hl hz .failTimeout⟩
  · exact ⟨_, exec_gripTimerExpiry_last hg ha, State.gripFail_rests (s := s.fresh) hj hb .failTimeout⟩
  have hx : (s.clearDone g).job = some j := hj
  obtain ⟨gp, gs, gk⟩ := State.gantryTo_plan ((s.clearDone g).failedJobEnd j) .idle
  have hend := State.failedEnd_ends hx hgr
  have hframe := State.failedEnd_frame hx hgr rfl
  have hlanes := State.gantryTo_lanes ((s.clearDone g).failedJobEnd j) .idle
  have hslots : (((s.clearDone g).failedJobEnd j).gantryTo .idle).slots = ((s.clearDone g).failedJobEnd j).slots := by
    rw [State.gantryTo_eq]
  have hstall : (((s.clearDone g).failedJobEnd j).gantryTo .idle).stall = ((s.clearDone g).failedJobEnd j).stall := by
    rw [State.gantryTo_eq]
  refine ⟨((s.clearDone g).failedJobEnd j).gantryTo .idle, ?_, hframe, fun l r rest hs hfront hfifo => ?_, fun h => ?_,
    fun i r n k hs hi => ⟨?_, fun hrep hkind hab => ?_⟩, fun i hs => ?_, fun st id q hkind hd hfind hq => ?_,
    fun st hs => ⟨?_, fun hkind => ?_⟩, fun st hs => ?_⟩
  · rw [exec_moveEnd_clear hm hg hr hk hj hp, State.endClear_failed hx hf hgr, State.failedJobEnd_gives]
  · exact hlanes.trans (State.failedJobEnd_lane hx hs hfront hfifo)
  · exact hlanes.trans (State.failedJobEnd_lanes_other hx h)
  · rw [hslots]
    exact State.failedJobEnd_slot hx hs hi
  · exact State.failedJobEnd_report hx hs hi hrep hkind hab
  · rw [hslots]
    exact State.failedJobEnd_slot_other hx hs
  · rw [gp, gk]
    exact State.failedJobEnd_place hx hkind hd hfind hq
  · rw [gs, gp]
    exact State.failedJobEnd_mode hx hs
  · rw [gp]
    exact State.jobEnd_layers (State.gripGivenUp_job hx) hkind hs
  · rw [gp, gk, gs, hstall]
    exact hend.other st hs

end

end Sys2Proof.Machine
end

section
/-! SUPPORT. The timers of the gripper, the decay of its counter, and a release that does not let go (R134, R143, R144, R147). -/

namespace Sys2Proof.Machine

section

variable {s : State} {z : Zone}

/-! ### The release timer -/

theorem exec_releaseTimerExpiry_idle (h : s.gripper.state ≠ .releasing) : exec .releaseTimerExpiry s = .next s.ended := by
  have he : s.fresh.releaseTimerEnds = s.fresh := if_neg h
  change run State.releaseTimerEnds s = _
  rw [run_ended] <;> rw [he] <;> rfl

/-- The gripper once the blow has ended (R143). -/
def Gripper.blown (g : Gripper) : Gripper := { g.mapUsed (ZoneRec.setBlow false) with timer := none }

theorem Gripper.blown_zones (g : Gripper) (z : Zone) :
    g.blown.zones.get z = if g.used.get z && !(g.zones.get z).faulted then { g.zones.get z with blow := false } else g.zones.get z := by
  have hb : g.blown.zones.get z = (g.mapUsed (ZoneRec.setBlow false)).zones.get z := rfl
  rw [hb, Gripper.mapUsed_zones]
  cases g.used.get z <;> cases hf : (g.zones.get z).faulted <;> simp [ZoneRec.setBlow, hf]

theorem mem_allZones (z : Zone) : z ∈ allZones := by cases z <;> decide

theorem forall_mem_allZones {P : Zone → Prop} : (∀ z ∈ allZones, P z) ↔ ∀ z, P z := ⟨fun h z => h z (mem_allZones z), fun h z _ => h z⟩

/-- Does every used zone read at most the release level (R143)? -/
theorem State.letGo_iff : s.letGo = true ↔ ∀ z, s.gripper.used.get z = true → s.inputs.reading.get z ≤ 10 := by
  simp only [State.letGo, List.all_eq_true, forall_mem_allZones, Bool.or_eq_true, Bool.not_eq_true']
  refine forall_congr' fun z => ?_
  cases s.gripper.used.get z with
  | false => simp
  | true =>
    simp only [Bool.true_eq_false, false_or, true_implies]
    exact decide_eq_true_iff (p := s.inputs.reading.get z ≤ 10)

theorem State.releaseTimerEnds_holds (h : s.gripper.state = .releasing)
    (hr : ∃ z, s.gripper.used.get z = true ∧ 10 < s.inputs.reading.get z) : s.releaseTimerEnds =
      if s.gripper.attempt = 1 then s.setGripper (s.gripper.blown.blow 2) else (s.setGripper s.gripper.blown).releaseStuck := by
  have hl : ¬(s.setGripper s.gripper.blown).letGo = true := by
    rw [State.letGo_iff]
    obtain ⟨z, hu, hz⟩ := hr
    exact fun hn => absurd (hn z hu) (Nat.not_le.mpr hz)
  unfold State.releaseTimerEnds
  exact (if_pos h).trans (if_neg hl)

theorem State.releaseTimerEnds_releases (h : s.gripper.state = .releasing)
    (hr : ∀ z, s.gripper.used.get z = true → s.inputs.reading.get z ≤ 10) :
    s.releaseTimerEnds = (s.setGripper s.gripper.blown).releaseComplete := by
  have hl : (s.setGripper s.gripper.blown).letGo = true := State.letGo_iff.mpr hr
  unfold State.releaseTimerEnds
  exact (if_pos h).trans (if_pos hl)

/-- A zone in the second blow (R143). -/
theorem Gripper.blown_blow_zones (g : Gripper) (z : Zone) : (g.blown.blow 2).zones.get z =
    if g.used.get z && !(g.zones.get z).faulted then ⟨.off, true, false⟩ else g.zones.get z := by
  rw [Gripper.blow_zones, Gripper.blown_zones, show g.blown.used = g.used from rfl]
  cases g.used.get z <;> cases hf : (g.zones.get z).faulted <;> simp [hf]

/-- A gripper that could not let go holds again (R144). -/
def Gripper.holdsAgain (g : Gripper) : Gripper :=
  { g.blown.mapUsed (ZoneRec.setValve (.hold 0)) with state := .holding, timer := none }

theorem Gripper.holdsAgain_zones (g : Gripper) (z : Zone) : g.holdsAgain.zones.get z =
    if g.used.get z && !(g.zones.get z).faulted then ⟨.hold 0, false, false⟩ else g.zones.get z := by
  have hb : g.holdsAgain.zones.get z = (g.blown.mapUsed (ZoneRec.setValve (.hold 0))).zones.get z := rfl
  rw [hb, Gripper.mapUsed_zones, Gripper.blown_zones, show g.blown.used = g.used from rfl]
  cases g.used.get z <;> cases hf : (g.zones.get z).faulted <;> simp [ZoneRec.setValve, hf]

/-- A release that is stuck holds again and halts the gantry in FAULTED; beside it only the report queue is touched (R144). -/
theorem State.releaseStuck_eq : (s.setGripper s.gripper.blown).releaseStuck = { s with
    gripper := s.gripper.holdsAgain
    gantry := { s.gantry.halt with heldChange := false, state := .faulted .release }
    link := (s.setGripper s.gripper.blown).releaseStuck.link } := by
  unfold State.releaseStuck
  dsimp only
  rw [State.faultStop_eq]
  rfl

/-! ### Pull-in and decay -/

theorem exec_pullInExpiry_idle (h : ∀ ms, (s.gripper.zones.get z).valve ≠ .hold ms) : exec (.pullInExpiry z) s = .next s.ended := by
  have he : s.fresh.pullInEnds z = s.fresh := by
    unfold State.pullInEnds
    dsimp only
    split
    next ms hv => exact absurd hv (h ms)
    next => rfl
  change run (fun s => s.pullInEnds z) s = _
  rw [run_ended] <;> rw [he] <;> rfl

theorem exec_pullInExpiry_hold {ms : Nat} (h : (s.gripper.zones.get z).valve = .hold ms) : exec (.pullInExpiry z) s = .next ({ s with
    gripper := { s.gripper with zones := s.gripper.zones.set z { s.gripper.zones.get z with
      valve := .hold (max ms s.gripper.set.pullIn) } } } : State).ended := by
  have he : s.fresh.pullInEnds z = s.fresh.setGripper { s.gripper with zones := s.gripper.zones.set z { s.gripper.zones.get z with
      valve := .hold (max ms s.gripper.set.pullIn) } } := by
    unfold State.pullInEnds
    dsimp only
    rw [show (s.fresh.gripper.zones.get z).valve = .hold ms from h]
    rfl
  change run (fun s => s.pullInEnds z) s = _
  rw [run_ended] <;> rw [he] <;> rfl

theorem exec_decayExpiry_idle (h : ∀ n, s.gripper.decay = some n → n < 600000) : exec .decayExpiry s = .next s.ended := by
  have he : s.fresh.decays = s.fresh := by
    unfold State.decays
    dsimp only
    split
    next => rfl
    next n hn => exact if_neg (Nat.not_le.mpr (h n hn))
  change run State.decays s = _
  rw [run_ended] <;> rw [he] <;> rfl

theorem exec_decayExpiry_over {n : Nat} (h : s.gripper.decay = some n) (hn : 600000 ≤ n) : exec .decayExpiry s = .next ({ s with
    gripper := { s.gripper with
      counter := s.gripper.counter - 1
      decay := if s.gripper.counter ≤ 1 then none else some 0 } } : State).ended := by
  have he : s.fresh.decays = s.fresh.setGripper { s.gripper with
      counter := s.gripper.counter - 1
      decay := if s.gripper.counter ≤ 1 then none else some 0 } := by
    unfold State.decays
    dsimp only
    rw [show s.fresh.gripper.decay = some n from h]
    exact if_pos hn
  change run State.decays s = _
  rw [run_ended] <;> rw [he] <;> rfl

end

end Sys2Proof.Machine
end

section
/-! SUPPORT. A zone that becomes FAULTED, and the sequence it meets: a grip that goes on, ends or fails, a carry that is lost (R140,
R141, R145, R146); and the start of CLEAR as a rise or the end of the job (R120, R122). -/

namespace Sys2Proof.Machine

section

variable {s u : State} {j : Job} {z : Zone} {k : FaultKind}

/-! ### The start of CLEAR -/

/-- Z sent up for a job, or stopped by its limit: beside the gantry only the report queue is touched. -/
structure State.Rises (s u : State) : Prop where
  rest : u = { s with gantry := u.gantry, link := u.link }
  lastTravel : u.gantry.lastTravel = s.gantry.lastTravel
  adds : State.Adds (fun b => match b with | .gantry .. => true | _ => false) 1 s u

theorem State.faultStop_rises (c : FaultCause) : s.Rises (s.faultStop c) where
  rest := by
    have h := s.faultStop_eq c
    rw [congrArg State.gantry h]
    exact h
  lastTravel := by rw [State.faultStop_eq]; rfl
  adds := (State.gantryTo_adds _ _ fun _ _ _ _ _ _ => rfl).after rfl

theorem State.startMove_rises (s : State) (p : Profile) (x : Int) : s.Rises (s.startMove .Z p x).1 := by
  have hg (g : Gantry) (hl : g.lastTravel = s.gantry.lastTravel) : s.Rises (s.setGantry g) :=
    ⟨rfl, hl, (State.Adds.of_link_eq (s := s) (t := s.setGantry g) rfl).mono (Nat.zero_le _)⟩
  unfold State.startMove State.startLin
  dsimp only
  split
  · exact hg s.gantry rfl
  · split
    next h => simp at h
    · split
      · exact State.faultStop_rises _
      · exact hg _ rfl

/-- A rise below the travel height, whatever stands in its way. -/
theorem State.riseOr_rises {next : State → State} (h : s.gantry.axes.z.at < (s.travelHeight : Int)) :
    s.computeTravel.Rises (s.riseOr j next) := by
  have hz := s.computeTravel.startMove_rises (s.computeTravel.gantry.profileOf j.laden) s.computeTravel.gantry.lastTravel
  unfold State.riseOr
  dsimp only
  split
  · split
    next e =>
      rw [e] at hz
      obtain ⟨hr, hl, ha⟩ := hz
      exact ⟨congrArg (fun t : State => t.setMotion .rise) hr, hl, ha⟩
    next e =>
      rw [e] at hz
      exact hz
  next hn => exact absurd h hn

/-- CLEAR starts with a rise, or where Z stands no lower than the travel height the job ends at once (R122). -/
theorem State.startClear_cases (hj : s.job = some j) :
    (s.setPhase .clear).computeTravel.Rises s.startClear
    ∨ s.startClear = (s.setPhase .clear).computeTravel.endClear := by
  have hc := State.setPhase_of hj .clear
  have hs : s.startClear = (s.setPhase .clear).riseOr { j with phase := .clear } State.endClear := by
    unfold State.startClear
    dsimp only
    rw [hc]
  by_cases hz : (s.setPhase .clear).gantry.axes.z.at < ((s.setPhase .clear).travelHeight : Int)
  · rw [hs]
    exact .inl (State.riseOr_rises hz)
  · rw [hs]
    exact .inr (State.riseOr_above (Int.not_lt.mp hz))

theorem State.dropReservation_gripper (s : State) : s.dropReservation.gripper = s.gripper := by
  cases h : s.job with
  | none => simp only [State.dropReservation, h]
  | some k => exact congrArg Floor.gripper (State.dropReservation_floor h)

theorem State.failedJobEnd_gripper : (s.failedJobEnd j).gripper = s.gripper := by
  have hl (t : State) : (t.sourceLost j).gripper = t.gripper := by
    have h := (State.EndsAt.sourceLost t j).rest
    unfold State.EndsOnly at h
    rw [h]
  rw [State.failedJobEnd_eq, State.jobEnd_gripper, hl, State.dropReservation_gripper]
  exact congrArg Floor.gripper s.handBack_floor

theorem State.endClear_gripper : s.endClear.gripper = s.gripper := by
  unfold State.endClear
  split
  · exact State.gantryTo_gripper _ _
  · rw [State.gantryTo_gripper]
    split
    · exact State.failedJobEnd_gripper
    · exact s.jobEnd_gripper

theorem State.startClear_gripper : s.startClear.gripper = s.gripper := by
  cases hj : s.job with
  | none => simp [State.startClear, State.setPhase, hj]
  | some j =>
    rcases State.startClear_cases hj with h | h
    · rw [h.rest]
      rfl
    · rw [h, State.endClear_gripper]
      rfl

/-! ### The counter -/

/-- A growth of the counter, and the state it leaves the gripper in (R147). -/
theorem Gripper.growth_counts (g : Gripper) : g.growth.counter = min (g.counter + 1) 6
    ∧ g.growth.state = (if g.growth.counter = 6 then .lockedOut else .idle) ∧ g.growth.zones = g.zones := by
  unfold Gripper.growth
  dsimp only
  by_cases h : min (g.counter + 1) Config.lockoutAt = Config.lockoutAt
  · rw [if_pos h]
    exact ⟨rfl, (if_pos h).symm, rfl⟩
  · rw [if_neg h]
    exact ⟨rfl, (if_neg h).symm, rfl⟩

theorem State.gripFail_gripper (e : GripEvent) : (s.gripFail e).gripper =
    { (s.gripper.mapUsed (ZoneRec.setValve .off)).growth with timer := none, used := noZones } := by
  have hg : (s.gripFailed e).gripper = { (s.gripper.mapUsed (ZoneRec.setValve .off)).growth with timer := none, used := noZones } := by
    rw [State.gripFailed_eq]
  unfold State.gripFail
  dsimp only
  split
  · rw [State.startClear_gripper, hg]
  · exact hg

theorem State.carryLoss_gripper (e : GripEvent) (z : Zone) : (s.carryLoss e z).gripper =
    { (s.gripper.mapUsed (ZoneRec.setValve .off)).growth with dropMark := true, used := noZones } := by
  have hd (t : State) : t.dropJob.gripper = t.gripper := by
    rw [State.dropJob, State.jobEnd_gripper, State.dropReservation_gripper]
    exact congrArg Floor.gripper t.handBack_floor
  unfold State.carryLoss
  dsimp only
  rw [hd, State.faultStop_eq, State.gripReported_eq]

/-! ### A zone becomes FAULTED -/

/-- The gripper with a zone FAULTED (R145). -/
def Gripper.faultAt (g : Gripper) (z : Zone) : Gripper := { g with zones := g.zones.set z ⟨.off, false, true⟩ }

/-- The state in which a fault input is taken, with the zone it makes FAULTED. -/
def State.faultTaken (s : State) (z : Zone) (k : FaultKind) (i : Inputs) : State := (s.fresh.setInputs i).zoneFault z (faultEvent k)

theorem exec_faultInput_steady {v : Bool} (hl : s.inputs.fault z k = v) (hc : s.inputs.changing (.fault z k) = none) :
    exec (.faultInput z k v) s = .next s.ended := exec_sensor_steady (c := .faultInput z k v) rfl hc hl

/-- A fault input whose change has stood for 2 ms (R145). -/
theorem exec_faultInput {v : Bool} (hl : s.inputs.fault z k ≠ v) (hm : s.inputs.missing (.fault z k) = 0) :
    exec (.faultInput z k v) s = .next (if v && !(s.gripper.zones.get z).faulted
      then (s.faultTaken z k ((s.inputs.noteEvent (.fault z k)).setFault z k v)).zoneFaultEffect z
      else s.fresh.setInputs ((s.inputs.noteEvent (.fault z k)).setFault z k v)).settle := by
  rw [exec_sensor_stood (c := .faultInput z k v) rfl hm hl]
  have hn : ¬(s.atEvent (.fault z k)).inputs.fault z k = v := by
    rw [show (s.atEvent (.fault z k)).inputs.fault z k = s.inputs.fault z k from s.atEvent_level (.fault z k) (.fault z k)]
    exact hl
  have he : (s.atEvent (.fault z k)).inputEvent (.fault z k) v = _ := if_neg hn
  rw [he]
  rfl

end

end Sys2Proof.Machine
end

section
/-! SUPPORT. A zone that becomes FAULTED, continued: what it does to the sequence it meets (R145, R146). -/

namespace Sys2Proof.Machine

section

variable {s t u : State} {j : Job} {z : Zone} {k : FaultKind} {i : Inputs}

theorem State.zoneFaultEffect_none (h : s.gripper.used.get z = false ∨ s.gripper.state ≠ .gripping ∧ s.watched = false) :
    s.zoneFaultEffect z = s := by
  unfold State.zoneFaultEffect
  split
  next hu =>
    obtain ⟨hg, hw⟩ := h.resolve_left (by simp [hu])
    split
    next hs => exact absurd hs hg
    · exact if_neg (by simp [hw])
    · rfl
  · rfl

/-! ### A carry that is lost -/

/-- A used zone that is FAULTED loses the carry (R141). -/
theorem State.lossZone_of_faulted (hu : s.gripper.used.get z = true) (hf : (s.gripper.zones.get z).faulted = true) :
    s.lossZone? ≠ none := by
  intro hn
  have := List.find?_eq_none.mp hn z (mem_allZones z)
  simp [hu, hf] at this

theorem State.zoneFaultEffect_watched (hu : s.gripper.used.get z = true) (hf : (s.gripper.zones.get z).faulted = true)
    (hw : s.watched = true) : ∃ e y, s.zoneFaultEffect z = s.carryLoss e y := by
  have hs : s.gripper.state = .holding := by
    simp only [State.watched, Bool.and_eq_true, beq_iff_eq] at hw
    exact hw.1.1
  obtain ⟨y, hy⟩ := Option.ne_none_iff_exists'.mp (State.lossZone_of_faulted hu hf)
  refine ⟨if s.inputs.reading.get y < s.gripper.set.lo then .lostReading else .lostFault, y, ?_⟩
  unfold State.zoneFaultEffect
  rw [if_pos hu, hs]
  dsimp only
  unfold State.carryTest
  rw [if_pos hw, hy]

/-- What a lost carry leaves (R100, R141, R147). -/
theorem State.carryLoss_leaves (e : GripEvent) (y : Zone) : (s.carryLoss e y).job = none ∧ (s.carryLoss e y).gripper.dropMark = true
    ∧ (s.carryLoss e y).gripper.counter = min (s.gripper.counter + 1) 6 ∧ (s.carryLoss e y).gantry.state = .faulted .drop
    ∧ (s.carryLoss e y).gantry.moving = false ∧ (s.carryLoss e y).gantry.counters = s.gantry.counters := by
  rw [State.carryLoss_gripper, State.carryLoss_gantry]
  exact ⟨State.carryLoss_job e y, rfl, (Gripper.growth_counts _).1, rfl, rfl, Gantry.halt_counters _⟩

/-! ### A grip that loses a zone -/

/-- The state in which a grip goes on without a zone (R146). -/
def State.gripsOn (s : State) (z : Zone) : State := s.setGripper { s.gripper with used := s.gripper.used.set z false }

theorem State.zoneFaultEffect_gripping (hu : s.gripper.used.get z = true) (hg : s.gripper.state = .gripping) (hj : s.job = some j) :
    s.zoneFaultEffect z = if zoneCount (s.gripper.used.set z false) < (s.gripNeeds (s.sourceCase j)).2
      then (s.gripsOn z).gripFail .failZones else (s.gripsOn z).gripTest := by
  unfold State.zoneFaultEffect State.gripLosesZone
  rw [if_pos hu, hg]
  dsimp only
  rw [show (s.setGripper { s.gripper with used := s.gripper.used.set z false }).job = some j from hj]
  rfl

/-- A failed grip grows the counter, and leaves a zone that is not used (R140, R147). -/
theorem State.gripFail_counts (e : GripEvent) (hz : s.gripper.used.get z = false) :
    (s.gripFail e).gripper.counter = min (s.gripper.counter + 1) 6
      ∧ (s.gripFail e).gripper.state = (if (s.gripFail e).gripper.counter = 6 then .lockedOut else .idle)
      ∧ (s.gripFail e).gripper.timer = none ∧ (s.gripFail e).gripper.zones.get z = s.gripper.zones.get z := by
  obtain ⟨hc, hs, hzones⟩ := (s.gripper.mapUsed (ZoneRec.setValve .off)).growth_counts
  rw [State.gripFail_gripper]
  refine ⟨hc, hs, rfl, ?_⟩
  dsimp only
  rw [hzones, Gripper.mapUsed_zones, hz]
  rfl

theorem State.allRead_iff {n : Nat} : s.allRead n = true ↔ ∀ z, s.gripper.used.get z = true → n ≤ s.inputs.reading.get z := by
  simp only [State.allRead, List.all_eq_true, forall_mem_allZones, Bool.or_eq_true, Bool.not_eq_true']
  refine forall_congr' fun z => ?_
  cases s.gripper.used.get z with
  | false => simp
  | true =>
    simp only [Bool.true_eq_false, false_or, true_implies]
    exact decide_eq_true_iff (p := n ≤ s.inputs.reading.get z)

/-! ### A grip that ends -/

/-- The job has its item, and the zones that hold it are sound. -/
def State.HoldsItem (s : State) : Prop := (∃ j, s.job = some j ∧ j.gripped = true) ∧ s.lossZone? = none

theorem State.HoldsItem.of_eq (h : s.HoldsItem) (hj : t.job = s.job) (hg : t.gripper = s.gripper) (hi : t.inputs = s.inputs) :
    t.HoldsItem := by
  unfold State.HoldsItem State.lossZone?
  rw [hj, hg, hi]
  exact h

theorem State.HoldsItem.map (h : s.HoldsItem) {f : Job → Job} (hf : ∀ j, (f j).gripped = j.gripped) : (s.modifyJob f).HoldsItem := by
  obtain ⟨⟨j, hj, hg⟩, hl⟩ := h
  exact ⟨⟨f j, by simp [State.modifyJob, hj], (hf j).trans hg⟩, hl⟩

/-- An item that is held stays held on the way, up to the start of its release. -/
theorem State.holdsItem_carries : State.Carries State.HoldsItem (fun s => ∃ j, s.job = some j ∧ j.gripped = true) where
  weaken := And.left
  gantry := fun _ _ h => h.of_eq rfl rfl rfl
  report := fun _ h => h.of_eq rfl rfl rfl
  dispatch := fun h => h.of_eq rfl rfl rfl
  cell := fun _ h => h.of_eq rfl rfl rfl
  phase := fun _ h => h.map fun _ => rfl
  spill := fun _ h => h.map fun j => by split <;> rfl
  blow := fun h => h.1
  carry := fun h => .inl (by rwa [State.carryTest_kept h.2])

theorem State.laneTest_leaves (s : State) (l : LaneId) :
    (s.laneTest l).job = s.job ∧ (s.laneTest l).gripper = s.gripper ∧ (s.laneTest l).inputs = s.inputs := by
  unfold State.laneTest
  dsimp only
  split <;> exact ⟨rfl, rfl, rfl⟩

theorem State.lossZone_mapUsed {g : Gripper} (hu : g.used = s.gripper.used) (hs : g.set = s.gripper.set)
    (hf : ∀ z, (g.zones.get z).faulted = (s.gripper.zones.get z).faulted) : (s.setGripper g).lossZone? = s.lossZone? := by
  simp only [State.lossZone?, State.setGripper_gripper, State.setGripper_inputs, hu, hs, hf]

theorem State.takeItem_holds (j : Job) (hl : s.lossZone? = none) : (s.takeItem j).HoldsItem := by
  have hj (item : Option Item) : (s.setJob (some { j with gripped := true, carried := item })).HoldsItem := ⟨⟨_, rfl, rfl⟩, hl⟩
  unfold State.takeItem
  dsimp only
  split
  · exact hj _
  · obtain ⟨lj, lg, li⟩ := State.laneTest_leaves _ _
    exact (hj _).of_eq lj lg li
  · exact (hj _).of_eq rfl rfl rfl

/-- GRIPPED leaves the job with its item (R139). -/
theorem State.gripDone_holds (j : Job) (hl : s.lossZone? = none) : (s.gripDone j).HoldsItem := by
  refine State.takeItem_holds j ((State.lossZone_mapUsed ?_ ?_ fun z => ?_).trans hl)
  · rfl
  · rfl
  · refine (congrArg ZoneRec.faulted (s.gripper.mapUsed_zones (ZoneRec.setValve (.hold 0)) z)).trans ?_
    unfold ZoneRec.setValve
    split
    · split <;> rfl
    · rfl

theorem State.gripped_job (hj : s.job = some j) (hl : s.lossZone? = none) : ∃ j', s.gripped.job = some j' ∧ j'.gripped = true := by
  have hd := State.gripDone_holds j hl
  unfold State.gripped
  rw [hj]
  dsimp only
  split
  · exact State.holdsItem_carries.startPickUp hd
  · exact hd.1

end

end Sys2Proof.Machine
end

section
/-! SUPPORT. The commit of a case or a sheet (R25, R28, R52, R53): the stack, the layers and the reports it leaves while its job is
there. -/

namespace Sys2Proof.Machine

section

variable {s t u : State} {st : StationId} {j : Job} {id : Nat}

/-! ### The stacks but for their sweeps -/

/-- Between `s` and `u` the stacks differ in sweeps and cached sheet verdicts alone. -/
def State.Bodies (s u : State) : Prop := ∀ st, (u.stack.get st).body = (s.stack.get st).body

namespace State.Bodies

theorem of_eq (h : u.stack = s.stack) : s.Bodies u := fun _ => by rw [h]

theorem refl (s : State) : s.Bodies s := of_eq rfl

theorem trans (h : s.Bodies t) (k : t.Bodies u) : s.Bodies u := fun st => (k st).trans (h st)

theorem examineLayers (s : State) (st : StationId) : s.Bodies (s.examineLayers st) := (s.examineLayers_calms st).body

theorem startSweep (s : State) (st : StationId) : s.Bodies (s.startSweep st) := (s.startSweep_calms st).body

theorem endOfQueue (s : State) (st : StationId) : s.Bodies (s.endOfQueue st) := of_eq (State.StationsOnly.endOfQueue s st).stack

theorem sheetJobOver (s : State) (st : StationId) : s.Bodies (s.sheetJobOver st) := (s.sheetJobOver_calms st).body

theorem returnPlacement (s : State) (st : StationId) (id : Nat) (b : Bool) : s.Bodies (s.returnPlacement st id b) := by
  have hp (t : State) (x : PState) : t.Bodies (t.setPState st id x) := of_eq (t.setPState_stack st id x)
  unfold State.returnPlacement
  split
  · split
    · split
      · exact (((hp s _).trans (hp _ _)).trans (State.noteVoid_calms _ st id).body).trans (examineLayers _ st)
      · exact hp s _
    · exact refl s
  · exact refl s

theorem handBack (s : State) : s.Bodies s.handBack := by
  unfold State.handBack
  split
  · exact refl s
  · split
    · exact returnPlacement s _ _ _
    · exact refl s

theorem jobOff (s : State) (j : Job) : s.Bodies (s.jobOff j) := by
  have hg : s.Bodies ((s.handBack.setJob none).sheetGone j) := (handBack s).trans (of_eq State.sheetGone_keeps.2)
  have hc : s.Bodies (s.jobCut j) := by
    unfold State.jobCut
    dsimp only
    split
    · exact hg.trans (sheetJobOver _ _)
    · exact hg
  cases hs : j.station with
  | none =>
    rw [State.jobOff_cut hs]
    exact hc
  | some st =>
    rw [State.jobOff_station hs]
    exact hc.trans (endOfQueue _ st)

theorem jobEnd (h : s.job = some j) : s.Bodies s.jobEnd := (jobOff s j).trans (of_eq (State.jobEnd_plan h).2.2)

end State.Bodies

/-- The body of a stack holds its entries, map, gross weight and highest top. -/
theorem Stack.of_body {k l : Stack} (h : k.body = l.body) :
    k.table = l.table ∧ k.map = l.map ∧ k.gross = l.gross ∧ k.highest = l.highest :=
  ⟨congrArg (fun b => b.table) h, congrArg (fun b => b.map) h, congrArg (fun b => b.gross) h, congrArg (fun b => b.highest) h⟩

/-! ### Reports while a job is bound -/

theorem State.stallTest_link_bound (h : s.boundTo st = true) : (s.stallTest st).link = s.link := by
  have hs : s.stalled st = false := by simp [State.stalled, h]
  unfold State.stallTest
  split
  · rfl
  · rw [if_neg (by simp [hs])]
    rfl

theorem State.startSweep_link_bound (h : s.boundTo st = true) : (s.startSweep st).link = s.link := by
  have hv (l : List Cand) (t : State) : (l.foldl (fun s c => s.setVerdict st c .unswept) t).link = t.link
      ∧ (l.foldl (fun s c => s.setVerdict st c .unswept) t).job = t.job := by
    induction l generalizing t with
    | nil => exact ⟨rfl, rfl⟩
    | cons c l ih =>
      obtain ⟨hl, hj⟩ := ih (t.setVerdict st c .unswept)
      exact ⟨hl.trans (t.setVerdict_link st c .unswept), hj.trans (congrArg Floor.job (t.setVerdict_floor st c .unswept))⟩
  obtain ⟨hl, hj⟩ := hv (s.plan.get st).candidates s
  unfold State.startSweep
  dsimp only
  split
  · unfold State.sweepEnd
    refine (State.stallTest_link_bound ?_).trans hl
    rw [← h]
    exact congrArg (fun x : Option Job => x.bind Job.station == some st) hj
  · exact hl

theorem State.sweepTrigger_link_bound (h : s.boundTo st = true) : (s.sweepTrigger st).link = s.link := by
  unfold State.sweepTrigger
  split
  · rfl
  · exact State.startSweep_link_bound h

theorem State.endOfQueue_bound (h : s.boundTo st = true) : s.endOfQueue st = s := by
  unfold State.endOfQueue
  dsimp only
  rw [if_neg (by simp [h])]

section files

variable {k : ReportBody → Bool} (hk : ∀ b : ReportBody, b.routine = true → k b = false) {before after : List Layer} {l : Layer}
include hk

/-- The reports of an examination of the layers while a job is bound, of which one layer may be complete. -/
theorem State.examineLayers_files_bound (hb : s.boundTo st = true) (hq : (s.plan.get st).queue = before ++ l :: after)
    (hx : ∀ x ∈ before ++ after, x.settle.complete = false) :
    State.Files k 10 (if l.settle.complete then (l.doneReports st).filter k else []) s (s.examineLayers st) := by
  have hg := State.gone_of_append hq hx
  split at hg
  next hc =>
    have hf := State.layersGone_files hk hg
    have hw : State.Files k 10 ((l.settle.doneReports st).filter k) s (s.layersSwept st) := by
      unfold State.layersSwept
      split
      · exact hf.before (State.sweepTrigger_link_bound (((s.layersGone_within st).boundTo st).trans hb))
      · exact hf
    rw [if_pos hc, ← Layer.settle_doneReports, State.examineLayers_gone (by simp [hg]),
      State.endOfQueue_bound ((State.layersSwept_within.boundTo st).trans hb)]
    exact hw
  next hc =>
    rw [if_neg hc, State.examineLayers_kept hg]
    exact (State.Files.refl s).mono (Nat.zero_le _)

end files

/-! ### What follows the entry of an item -/

/-- The layers are examined, the reservation is spent and the sweep starts anew (R28, R52, R53). -/
def State.committedAt (s : State) (st : StationId) : State := ((s.examineLayers st).modifyJob Job.done).startSweep st

/-- A case on the stack, its placement PLACED (R52). -/
def State.casePut (s : State) (st : StationId) (p : Placement) (e : Entry) (r : WalkResult) : State :=
  (s.setStack st ((s.stack.get st).commit r e)).setPlan st ((s.plan.get st).modify p.id (fun q => { q with state := .placed }))

/-- Its PLACED report (R25). -/
def State.placedReport (s : State) (st : StationId) (p : Placement) (e : Entry) : ReportBody :=
  .placed st p.id ((((s.plan.get st).queue.find? (fun l => l.placements.any (fun q => q.id == p.id))).map Layer.tag).getD 0)
    p.aisle (s.stack.get st).table.length e.weight p.order

/-- A case entered: reported, with the schedule and the buffered cases examined (R106, R164). -/
def State.caseEntered (s : State) (st : StationId) (p : Placement) (e : Entry) (r : WalkResult) : State :=
  (((s.casePut st p e r).report (s.placedReport st p e)).reschedule st).staleScan

theorem State.commitCase_committed (p : Placement) (y : CaseType) (r : WalkResult) (c : ArrivalRec) : s.commitCase st p y r c =
    (s.caseEntered st p (caseEntry p y r ((c.meas.map Measured.wei).getD 0)) r).committedAt st := rfl

theorem State.committedAt_floor (s : State) (st : StationId) :
    (s.committedAt st).floor = { s.floor with job := s.job.map Job.done } := by
  have he := s.examineLayers_floor st
  have hj : ((s.examineLayers st).modifyJob Job.done).floor =
      { (s.examineLayers st).floor with job := (s.examineLayers st).job.map Job.done } := rfl
  rw [State.committedAt, State.startSweep_floor, hj, he, State.job_of_floor he]

theorem State.committedAt_bodies (s : State) (st : StationId) : s.Bodies (s.committedAt st) :=
  ((State.Bodies.examineLayers s st).trans (.of_eq rfl)).trans (.startSweep _ st)

/-- The queue after a commit: the layers that are not complete, but for their verdicts. -/
theorem State.committedAt_queue (s : State) (st : StationId) :
    ((s.committedAt st).plan.get st).queue.map Layer.unswept = (s.plan.get st).staying.queue.map Layer.unswept
      ∧ ((s.committedAt st).plan.get st).closed = (s.plan.get st).closed
      ∧ (s.plan.get st).From ((s.committedAt st).plan.get st) := by
  obtain ⟨ids, hp⟩ := State.startSweep_plan ((s.examineLayers st).modifyJob Job.done) st
  obtain ⟨hq, hc⟩ := State.examineLayers_queue (s := s) (st := st)
  have hm : ((s.examineLayers st).modifyJob Job.done).plan = (s.examineLayers st).plan := rfl
  rw [State.committedAt, hp, Plan.unsweep_unswept, hm]
  exact ⟨hq, hc, (Plan.From.examineLayers s st).trans (.unsweep _ ids)⟩

theorem State.boundTo_modifyJob_done (s : State) (st : StationId) : (s.modifyJob Job.done).boundTo st = s.boundTo st := by
  cases hj : s.job with
  | none => simp [State.boundTo, State.modifyJob, hj]
  | some j =>
    simp only [State.boundTo, State.modifyJob, State.setJob_job, hj]
    rfl

/-- A commit ends no queue: the job is still bound (R29). -/
theorem State.committedAt_mode (h : s.boundTo st = true) : ((s.committedAt st).stn.get st).mode = (s.stn.get st).mode := by
  rw [State.committedAt, (State.startSweep_stn _ st).1]
  exact State.examineLayers_mode_bound h

theorem State.committedAt_files {k : ReportBody → Bool} (hk : ∀ b : ReportBody, b.routine = true → k b = false)
    {before after : List Layer} {l : Layer} (hb : s.boundTo st = true) (hq : (s.plan.get st).queue = before ++ l :: after)
    (hx : ∀ x ∈ before ++ after, x.settle.complete = false) :
    State.Files k 10 (if l.settle.complete then (l.doneReports st).filter k else []) s (s.committedAt st) := by
  refine (State.examineLayers_files_bound hk hb hq hx).before ?_
  refine State.startSweep_link_bound ((State.boundTo_modifyJob_done _ st).trans ?_)
  exact ((s.examineLayers_within st).boundTo st).trans hb

/-! ### The entry of a case -/

theorem State.caseEntered_ground (p : Placement) (e : Entry) (r : WalkResult) :
    (s.caseEntered st p e r).ground = (s.casePut st p e r).ground := by
  rw [State.caseEntered, State.staleScan_ground, State.reschedule_ground, State.report_ground]

theorem State.caseEntered_plan (p : Placement) (e : Entry) (r : WalkResult) :
    (s.caseEntered st p e r).plan.get st = (s.plan.get st).modify p.id (fun q => { q with state := .placed }) := by
  rw [State.plan_of_ground (State.caseEntered_ground p e r)]
  exact PerStation.get_set_same ..

theorem State.caseEntered_stack (p : Placement) (e : Entry) (r : WalkResult) :
    (s.caseEntered st p e r).stack.get st = (s.stack.get st).commit r e := by
  rw [State.stack_of_ground (State.caseEntered_ground p e r)]
  exact PerStation.get_set_same ..

theorem State.caseEntered_floor (p : Placement) (e : Entry) (r : WalkResult) : (s.caseEntered st p e r).floor = s.floor := by
  rw [State.caseEntered, State.staleScan_floor, State.reschedule_floor, State.report_floor]
  rfl

theorem State.caseEntered_mode (p : Placement) (e : Entry) (r : WalkResult) :
    ((s.caseEntered st p e r).stn.get st).mode = (s.stn.get st).mode := by
  rw [State.caseEntered, (State.staleScan_keeps _).stn, State.reschedule_mode]
  rfl

theorem State.caseEntered_files {k : ReportBody → Bool} (hk : ∀ b : ReportBody, b.routine = true → k b = false)
    (p : Placement) (e : Entry) (r : WalkResult) (hp : k (s.placedReport st p e) = true) :
    State.Files k 10 [s.placedReport st p e] s (s.caseEntered st p e r) := by
  have hr := (State.report_files (k := k) (s.casePut st p e r) (s.placedReport st p e)).after (s := s) rfl
  rw [if_pos hp] at hr
  exact (hr.quiet (State.reschedule_files hk _ st)).quiet (State.staleScan_files hk _)

end

end Sys2Proof.Machine
end

section
/-! SUPPORT. The item a release delivers, and the start of CLEAR behind it (R98, R120, R122, R143). -/

namespace Sys2Proof.Machine

section

variable {s t u d e q v : State} {st : StationId} {j k : Job} {id : Nat} {i : SlotId}

/-! ### The delivery -/

/-- What a delivery leaves beside the stack, the plan, the slot or the spill count it goes to: the job, but for its reservation, and the
state of its station. -/
structure State.Delivers (q v : State) (j : Job) : Prop where
  job : ∃ b c, v.job = some { j with reservation := b, committed := c }
  rest : v.floor = { q.floor with job := v.job, spill := v.spill, magazine := v.magazine, awaitDue := v.awaitDue }
  mode : ∀ st, j.station = some st → (v.stn.get st).mode = (q.stn.get st).mode
  closed : ∀ st, j.station = some st → (v.plan.get st).closed = (q.plan.get st).closed

theorem State.Delivers.refl (hj : q.job = some j) : q.Delivers q j :=
  ⟨⟨j.reservation, j.committed, hj⟩, rfl, fun _ _ => rfl, fun _ _ => rfl⟩

theorem State.boundTo_of_station (hj : q.job = some j) (hs : j.station = some st) : q.boundTo st = true :=
  State.boundTo_iff.mpr ⟨j, hj, hs⟩

/-- A commit at the station of the job. -/
theorem State.Delivers.committedAt {n : Nat} (hj : q.job = some j) (hs : j.station = some st)
    (hf : t.floor = { q.floor with magazine := n }) (hm : (t.stn.get st).mode = (q.stn.get st).mode)
    (hc : (t.plan.get st).closed = (q.plan.get st).closed) : q.Delivers (t.committedAt st) j := by
  have htj : t.job = some j := (congrArg Floor.job hf).trans hj
  have hfl := t.committedAt_floor st
  have hjob : (t.committedAt st).job = some j.done := (congrArg Floor.job hfl).trans (by rw [htj]; rfl)
  refine ⟨⟨none, true, hjob⟩, ?_, fun st' hs' => ?_, fun st' hs' => ?_⟩
  · have hmag : (t.committedAt st).magazine = n := (congrArg Floor.magazine hfl).trans (congrArg Floor.magazine hf)
    have hspill : (t.committedAt st).spill = q.spill := (congrArg Floor.spill hfl).trans (congrArg Floor.spill hf)
    have haw : (t.committedAt st).awaitDue = q.awaitDue := (congrArg Floor.awaitDue hfl).trans (congrArg Floor.awaitDue hf)
    rw [hmag, hspill, haw, hjob, hfl, hf, htj]
    rfl
  · obtain rfl : st = st' := Option.some.inj (hs.symm.trans hs')
    exact (State.committedAt_mode (State.boundTo_of_station htj hs)).trans hm
  · obtain rfl : st = st' := Option.some.inj (hs.symm.trans hs')
    exact (State.committedAt_queue t st).2.1.trans hc

/-- A sheet on the stack, off the magazine, and no longer due (R53, R90). -/
def State.sheetEntered (s : State) (st : StationId) (r : WalkResult) : State :=
  (((s.setStack st (((s.stack.get st).commit r (sheetEntry (s.stack.get st).limits.foot r)).setSheetVerdict .unswept)).setMagazine
    (s.magazine - 1)).setPlan st (s.plan.get st).sheetCommitted).reschedule st

theorem State.commitSheet_committed (r : WalkResult) : s.commitSheet st r = (s.sheetEntered st r).committedAt st := rfl

theorem State.sheetEntered_floor (r : WalkResult) : (s.sheetEntered st r).floor = { s.floor with magazine := s.magazine - 1 } := by
  rw [State.sheetEntered, State.reschedule_floor]
  rfl

theorem Plan.sheetCommitted_closed (p : Plan) : p.sheetCommitted.closed = p.closed := by
  unfold Plan.sheetCommitted
  split <;> rfl

theorem State.sheetEntered_plan (r : WalkResult) : (s.sheetEntered st r).plan.get st = (s.plan.get st).sheetCommitted := by
  rw [State.sheetEntered, (State.StationsOnly.reschedule _ st).plan]
  exact PerStation.get_set_same ..

theorem State.sheetEntered_stack (r : WalkResult) : (s.sheetEntered st r).stack.get st =
    ((s.stack.get st).commit r (sheetEntry (s.stack.get st).limits.foot r)).setSheetVerdict .unswept := by
  rw [State.sheetEntered, (State.StationsOnly.reschedule _ st).stack]
  exact PerStation.get_set_same ..

theorem State.sheetEntered_mode (r : WalkResult) : ((s.sheetEntered st r).stn.get st).mode = (s.stn.get st).mode := by
  rw [State.sheetEntered, State.reschedule_mode]
  rfl

/-- A slot that takes the case, its stale mark set by its scan (R81, R106). -/
def State.slotFilled (s : State) (i : SlotId) (c : ArrivalRec) : State :=
  (((s.setSlot i (.held c s.clock false)).report (.buffered i c.ref)).slotEvent).staleScanSlot i

theorem State.Delivers.of_floor (hj : q.job = some j) (hs : j.station = none)
    (hf : v.floor = { q.floor with spill := v.spill, awaitDue := v.awaitDue }) : q.Delivers v j where
  job := ⟨j.reservation, j.committed, (congrArg Floor.job hf).trans hj⟩
  rest := by
    have hjob : v.job = q.job := congrArg Floor.job hf
    have hmag : v.magazine = q.magazine := congrArg Floor.magazine hf
    rw [hf, hjob, hmag]
    rfl
  mode := fun st hst => by simp [hs] at hst
  closed := fun st hst => by simp [hs] at hst

theorem State.slotFilled_floor (q : State) (i : SlotId) (c : ArrivalRec) :
    (q.slotFilled i c).floor = { q.floor with awaitDue := true } := State.staleScanSlot_floor _ i

/-- Every delivery (R98). -/
theorem State.deliver_delivers (hj : q.job = some j) : q.Delivers (q.deliver j) j := by
  unfold State.deliver
  split
  next st id c hk hd hc =>
    have hs : j.station = some st := by simp [Job.station, hk, hd]
    split
    next r p hr hp =>
      split
      next y hy =>
        rw [State.commitCase_committed]
        refine .committedAt (n := q.magazine) hj hs (State.caseEntered_floor ..) (State.caseEntered_mode ..) ?_
        rw [State.caseEntered_plan]
        rfl
      · exact .refl hj
    · exact .refl hj
  next st hk hd hc =>
    have hs : j.station = some st := by simp [Job.station, hk, hd]
    split
    next r hr =>
      rw [State.commitSheet_committed]
      refine .committedAt (n := q.magazine - 1) hj hs (State.sheetEntered_floor r) (State.sheetEntered_mode r) ?_
      rw [State.sheetEntered_plan, Plan.sheetCommitted_closed]
    · exact .refl hj
  next i c hd hc =>
    have hs : j.station = none := by
      unfold Job.station
      split <;> simp_all
    split
    · have hf := q.slotFilled_floor i c
      have hw : (q.slotFilled i c).awaitDue = true := congrArg Floor.awaitDue hf
      have hp : (q.slotFilled i c).spill = q.spill := congrArg Floor.spill hf
      refine .of_floor hj hs ?_
      change (q.slotFilled i c).floor = { q.floor with spill := (q.slotFilled i c).spill, awaitDue := (q.slotFilled i c).awaitDue }
      rw [hf, hw, hp]
      rfl
    · exact .refl hj
  next hd hn1 hn2 =>
    exact ⟨⟨j.reservation, j.committed, hj⟩, rfl, fun _ _ => rfl, fun _ _ => rfl⟩
  · exact .refl hj

end

end Sys2Proof.Machine
end

section
/-! SUPPORT. The end of a release up to the end of its CLEAR (R29, R98, R120, R122, R143). -/

namespace Sys2Proof.Machine

section

variable {s t u d e : State} {st : StationId} {j k : Job} {id : Nat} {i : SlotId}

/-! ### The release is done -/

/-- The gripper let go. -/
def State.letGone (s : State) : State := (s.setGripper { s.gripper with state := .idle, timer := none }).clearUsed

/-- The job with its item out of the gripper. -/
abbrev Job.freed (j : Job) : Job := { j with released := true }

theorem State.releaseDone_of (hj : s.job = some j) : s.releaseDone =
    ((s.letGone.setJob (some j.freed)).deliver j.freed).modifyJob (fun k => { k with carried := none, delivered := j.deliveredType }) := by
  unfold State.releaseDone
  dsimp only
  rw [show ((s.setGripper { s.gripper with state := .idle, timer := none }).clearUsed).job = some j from hj]
  rfl

/-- The job after the delivery. -/
theorem State.releaseDone_job (hj : s.job = some j) : ∃ b c, s.releaseDone.job =
    some { j with released := true, carried := none, delivered := j.deliveredType, reservation := b, committed := c } := by
  have hd := State.deliver_delivers (q := s.letGone.setJob (some j.freed)) (j := j.freed) rfl
  obtain ⟨b, c, hb⟩ := hd.job
  refine ⟨b, c, ?_⟩
  rw [State.releaseDone_of hj]
  simp [State.modifyJob, hb]

theorem State.releaseDone_gantry (hj : s.job = some j) : s.releaseDone.gantry = s.gantry := by
  rw [State.releaseDone_of hj]
  exact congrArg Floor.gantry (State.deliver_delivers (q := s.letGone.setJob (some j.freed)) (j := j.freed) rfl).rest

theorem State.releaseDone_gripper (hj : s.job = some j) :
    s.releaseDone.gripper = { s.gripper with state := .idle, timer := none, used := noZones } := by
  rw [State.releaseDone_of hj]
  exact congrArg Floor.gripper (State.deliver_delivers (q := s.letGone.setJob (some j.freed)) (j := j.freed) rfl).rest

theorem State.releaseDone_mode (hj : s.job = some j) (hs : j.station = some st) :
    (s.releaseDone.stn.get st).mode = (s.stn.get st).mode ∧ (s.releaseDone.plan.get st).closed = (s.plan.get st).closed := by
  have hd := State.deliver_delivers (q := s.letGone.setJob (some j.freed)) (j := j.freed) rfl
  rw [State.releaseDone_of hj]
  exact ⟨hd.mode st hs, hd.closed st hs⟩

/-! ### CLEAR -/

/-- From `d` to `e` the gantry starts CLEAR, or waits. -/
structure State.Trails (d e : State) : Prop where
  job : ∀ k, d.job = some k → ∃ p, e.job = some { k with phase := p }
  rest : e = { d with job := e.job, gantry := e.gantry, link := e.link }
  travel : d.gantry.state = .busy → e.gantry.lastTravel = d.travelHeight
  fixed : e.fixed = d.fixed
  adds : State.Adds (fun b => match b with | .gantry .. => true | _ => false) 1 d e

/-- From `d` to `u` CLEAR starts, or ends at once, or waits. -/
def State.Clears (d u : State) : Prop := ∃ e, d.Trails e ∧ (u = e ∨ e.link = d.link ∧ u = e.jobEnd.gantryTo .idle)

theorem State.clears_of_waiting (h : d.gantry.state ≠ .busy) : d.Clears d :=
  ⟨d, ⟨fun k hk => ⟨k.phase, hk⟩, rfl, fun hb => absurd hb h, rfl, (State.Adds.refl _ d).mono (Nat.zero_le _)⟩, .inl rfl⟩

/-- A job that gripped its item ends with CLEAR alone (R122). -/
theorem State.endClear_gripped (hj : s.job = some k) (hg : k.gripped = true) : s.endClear = s.jobEnd.gantryTo .idle := by
  unfold State.endClear
  rw [hj]
  dsimp only
  rw [if_neg (by simp [hg])]

theorem State.startClear_clears (hj : d.job = some k) (hg : k.gripped = true) : d.Clears d.startClear := by
  have hc := State.setPhase_of hj .clear
  have hh : (d.setPhase .clear).travelHeight = d.travelHeight := by
    refine State.travelHeight_congr ?_ ?_ ?_ ?_ ?_ <;> rw [hc]
    simp [hj]
  have hjob (k' : Job) (hk : d.job = some k') : (d.setPhase .clear).job = some { k' with phase := .clear } := by
    rw [State.setPhase_of hk]
  rcases State.startClear_cases hj with hr | he
  · refine ⟨d.startClear, ⟨fun k' hk => ⟨.clear, ?_⟩, ?_, fun _ => ?_, d.startClear_fixed, ?_⟩, .inl rfl⟩
    · exact (congrArg State.job hr.rest).trans (hjob k' hk)
    · refine hr.rest.trans ?_
      have hsj : d.startClear.job = (d.setPhase .clear).computeTravel.job := by rw [hr.rest]
      rw [hsj]
      rfl
    · exact hr.lastTravel.trans hh
    · exact hr.adds.after rfl
  · refine ⟨(d.setPhase .clear).computeTravel, ⟨fun k' hk => ⟨.clear, hjob k' hk⟩, rfl, fun _ => hh, ?_,
      (State.Adds.of_link_eq (s := d) (t := (d.setPhase .clear).computeTravel) rfl).mono (Nat.zero_le _)⟩, .inr ⟨rfl, ?_⟩⟩
    · simp
    · exact he.trans (State.endClear_gripped (hjob k hj) hg)

theorem State.releaseComplete_clears (hj : s.job = some j) (hg : j.gripped = true) : s.releaseDone.Clears s.releaseComplete := by
  obtain ⟨b, c, hd⟩ := State.releaseDone_job hj
  unfold State.releaseComplete
  dsimp only
  split
  · exact State.startClear_clears hd hg
  next h => exact State.clears_of_waiting h

/-! ### What CLEAR leaves -/

namespace State.Trails

theorem gripper (h : d.Trails e) : e.gripper = d.gripper := by rw [h.rest]
theorem plan (h : d.Trails e) : e.plan = d.plan := by rw [h.rest]
theorem stack (h : d.Trails e) : e.stack = d.stack := by rw [h.rest]
theorem stn (h : d.Trails e) : e.stn = d.stn := by rw [h.rest]
theorem slots (h : d.Trails e) : e.slots = d.slots := by rw [h.rest]
theorem spill (h : d.Trails e) : e.spill = d.spill := by rw [h.rest]
theorem magazine (h : d.Trails e) : e.magazine = d.magazine := by rw [h.rest]

theorem travelHeight (h : d.Trails e) (hk : d.job = some k) : e.travelHeight = d.travelHeight := by
  obtain ⟨p, hp⟩ := h.job k hk
  exact State.travelHeight_fixed h.stack h.fixed (by rw [hp, hk]; rfl)

end State.Trails

theorem State.gantryTo_slots (s : State) (x : GState) : (s.gantryTo x).slots = s.slots ∧ (s.gantryTo x).spill = s.spill
    ∧ (s.gantryTo x).magazine = s.magazine := by
  rw [State.gantryTo_eq]
  exact ⟨rfl, rfl, rfl⟩

namespace State.Clears

theorem gripper (h : d.Clears u) : u.gripper = d.gripper := by
  obtain ⟨e, he, rfl | ⟨-, rfl⟩⟩ := h
  · exact he.gripper
  · rw [State.gantryTo_gripper, State.jobEnd_gripper, he.gripper]

theorem fixed (h : d.Clears u) : u.fixed = d.fixed := by
  obtain ⟨e, he, rfl | ⟨-, rfl⟩⟩ := h
  · exact he.fixed
  · rw [State.gantryTo_fixed, State.jobEnd_fixed, he.fixed]

theorem spill (h : d.Clears u) : u.spill = d.spill := by
  obtain ⟨e, he, rfl | ⟨-, rfl⟩⟩ := h
  · exact he.spill
  · rw [(State.gantryTo_slots _ _).2.1, State.jobEnd_spill, he.spill]

/-- The job stays, in its phase, or has ended. -/
theorem job (h : d.Clears u) (hk : d.job = some k) : u.job = none ∨ ∃ p, u.job = some { k with phase := p } := by
  obtain ⟨e, he, rfl | ⟨-, rfl⟩⟩ := h
  · exact .inr (he.job k hk)
  · rw [State.gantryTo_job, State.jobEnd_job]
    exact .inl rfl

theorem bodies (h : d.Clears u) (hk : d.job = some k) : d.Bodies u := by
  obtain ⟨e, he, rfl | ⟨-, rfl⟩⟩ := h
  · exact .of_eq he.stack
  · obtain ⟨p, hp⟩ := he.job k hk
    exact ((State.Bodies.of_eq he.stack).trans (.jobEnd hp)).trans (.of_eq (State.gantryTo_plan _ _).2.2)

/-- CLEAR reads the travel height with the new top (R120). -/
theorem travel (h : d.Clears u) (hk : d.job = some k) (hc : k.carried = none) (hb : d.gantry.state = .busy) :
    u.gantry.lastTravel = u.travelHeight := by
  have hbod := h.bodies hk
  have hfix := h.fixed
  have hj : u.job.bind Job.carried = d.job.bind Job.carried := by
    rcases h.job hk with hj | ⟨p, hj⟩ <;> rw [hj, hk]
    · simp [hc]
    · rfl
  have hh : u.travelHeight = d.travelHeight := by
    have ha (st : StationId) : (u.stack.get st).highest = (d.stack.get st).highest := (Stack.of_body (hbod st)).2.2.2
    have hc' : u.carriedHeight = d.carriedHeight := by
      rw [State.carriedHeight, hj]
      rw [State.carriedHeight, show u.dir = d.dir from congrArg Fixed.dir hfix]
    rw [State.travelHeight, State.travelHeight, show u.stack.a.highest = d.stack.a.highest from ha .A,
      show u.stack.b.highest = d.stack.b.highest from ha .B, hc',
      show u.gantry.geometry = d.gantry.geometry from congrArg (fun f => f.settings.geometry) hfix,
      show u.gantry.clearance = d.gantry.clearance from congrArg (fun f => f.settings.clearance) hfix]
  rw [hh]
  obtain ⟨e, he, rfl | ⟨-, rfl⟩⟩ := h
  · exact he.travel hb
  · rw [State.gantryTo_gantry, State.jobEnd_gantry]
    exact he.travel hb

/-- The state of the station (R29). -/
theorem mode (h : d.Clears u) (hk : d.job = some k) (hs : k.station = some st) : (u.stn.get st).mode =
    if (d.stn.get st).mode = .plain .building ∧ (u.plan.get st).queue = [] ∧ u.boundTo st = false
      then .plain (if (d.plan.get st).closed then .complete else .idle) else (d.stn.get st).mode := by
  obtain ⟨e, he, rfl | ⟨-, rfl⟩⟩ := h
  · obtain ⟨p, hp⟩ := he.job k hk
    rw [he.stn, if_neg]
    rintro ⟨-, -, hb⟩
    rw [State.boundTo_of_station hp hs] at hb
    cases hb
  · obtain ⟨p, hp⟩ := he.job k hk
    obtain ⟨gp, gs, -⟩ := State.gantryTo_plan e.jobEnd .idle
    have hb : (e.jobEnd.gantryTo .idle).boundTo st = false :=
      State.boundTo_of_none ((State.gantryTo_job _ _).trans (State.jobEnd_job _)) st
    rw [gp, gs, State.jobEnd_mode hp hs, he.stn, he.plan, hb]
    simp only [and_true]

theorem outstanding (h : d.Clears u) (hk : d.job = some k) (hr : k.reservation = none) : u.outstanding st = none := by
  rcases h.job hk with hj | ⟨p, hj⟩ <;> simp [State.outstanding, hj, hr]

end State.Clears

end

end Sys2Proof.Machine
end

section
/-! SUPPORT. The plan, the slots and the reports at the end of a release (R27 to R29, R81, R106). -/

namespace Sys2Proof.Machine

section

variable {s t u d e : State} {st : StationId} {j k : Job} {id : Nat} {i : SlotId}

/-! ### The plan a job end leaves -/

/-- A plan with no SHEET job for any of its layers. -/
def Plan.jobless (p : Plan) : Plan := { p with queue := p.queue.map fun l => { l with sheetJob := false } }

theorem State.handBack_sheet (h : s.job = some j) (hk : j.kind = .sheet) : s.handBack = s := by
  simp only [State.handBack, h, hk]

/-- The end of a SHEET job that leaves no layer complete. -/
theorem State.jobCut_sheet (h : s.job = some j) (hk : j.kind = .sheet) (hs : j.station = some st)
    (hx : ∀ l ∈ (s.plan.get st).jobless.queue, l.settle.complete = false) :
    s.jobCut j = ((s.setJob none).sheetGone j).setPlan st (s.plan.get st).jobless := by
  have hd : j.dest = some (.sheet st) := by
    unfold Job.station at hs
    split at hs <;> simp_all
  have hp : ((s.setJob none).sheetGone j).plan = s.plan := State.sheetGone_plan.1
  have hc : s.jobCut j = ((s.setJob none).sheetGone j).sheetJobOver st := by
    simp only [State.jobCut, State.handBack_sheet h hk, hk, hd]
  have hg : (splitQueue 0 ((((s.setJob none).sheetGone j).setPlan st (s.plan.get st).jobless).plan.get st).queue).2 = [] := by
    rw [State.setPlan_plan, PerStation.get_set_same]
    exact splitQueue_gone.mpr hx
  rw [hc]
  unfold State.sheetJobOver
  dsimp only
  rw [hp]
  exact State.examineLayers_kept hg

theorem State.jobCut_place (hk : j.kind = .place) (hb : s.handBack = s) :
    s.jobCut j = (s.setJob none).sheetGone j := by simp [State.jobCut, hk, hb]

theorem State.jobEnd_magazine (h : s.job = some j) (hc : j.committed = true) : s.jobEnd.magazine = s.magazine := by
  have he := (State.EndsAt.jobEnd h (.inr (.inl hc))).rest
  unfold State.EndsOnly at he
  rw [he]

namespace State.Clears

theorem magazine (h : d.Clears u) (hk : d.job = some k) (hc : k.committed = true) : u.magazine = d.magazine := by
  obtain ⟨e, he, rfl | ⟨-, rfl⟩⟩ := h
  · exact he.magazine
  · obtain ⟨p, hp⟩ := he.job k hk
    rw [(State.gantryTo_slots _ _).2.2, State.jobEnd_magazine hp hc, he.magazine]

/-- The plan of a PLACE job whose placement is no longer BOUND stays. -/
theorem plan_place (h : d.Clears u) (hk : d.job = some k) (hp : k.kind = .place) (hd : k.dest = some (.placement st id))
    (hb : ∀ p ∈ (d.plan.get st).placements, p.id = id → p.state ≠ .bound) : u.plan = d.plan := by
  obtain ⟨e, he, rfl | ⟨-, rfl⟩⟩ := h
  · exact he.plan
  · obtain ⟨p, hj⟩ := he.job k hk
    have hb' := State.handBack_settled hj (st := st) (id := id) hp hd (by rw [he.plan]; exact hb)
    rw [(State.gantryTo_plan _ _).1, (State.jobEnd_settled (st := st) hj hp (by simp [Job.station, hp, hd]) hb').1, he.plan]

/-- The plan of a SHEET job loses at most its mark. -/
theorem plan_sheet (h : d.Clears u) (hk : d.job = some k) (hp : k.kind = .sheet) (hs : k.station = some st)
    (hx : ∀ l ∈ (d.plan.get st).jobless.queue, l.settle.complete = false) :
    u.plan.get st = d.plan.get st ∨ u.plan.get st = (d.plan.get st).jobless := by
  obtain ⟨e, he, rfl | ⟨-, rfl⟩⟩ := h
  · exact .inl (by rw [he.plan])
  · obtain ⟨p, hj⟩ := he.job k hk
    have hc := State.jobCut_sheet hj hp hs (by rw [he.plan]; exact hx)
    refine .inr ?_
    rw [(State.gantryTo_plan _ _).1, (State.jobEnd_plan hj).1, State.jobOff_station (j := { k with phase := p }) hs,
      (State.StationsOnly.endOfQueue _ st).plan, hc, he.plan]
    exact PerStation.get_set_same ..

/-- A slot that holds a case keeps it, at the end of a job that is bound to no station. -/
theorem slot (h : d.Clears u) (hk : d.job = some k) (hs : k.station = none) {r : ArrivalRec} {n : Nat} {m : Bool}
    (hi : d.slots[i] = .held r n m) : u.slots[i] = .held r n m := by
  obtain ⟨e, he, rfl | ⟨-, rfl⟩⟩ := h
  · rw [he.slots]
    exact hi
  · obtain ⟨p, hj⟩ := he.job k hk
    have ho : (e.jobOff { k with phase := p }).slots[i] = .held r n m := by
      rw [State.jobOff_of_free hj hs, State.sheetGone_keeps.1, State.setJob_slots, he.slots]
      exact hi
    rw [(State.gantryTo_slots _ _).1, State.jobEnd_eq hj, State.dispatchEvent_slots, State.finishCell_slots, State.stallTestAt_slots,
      State.sourceEnd_slot fun _ => by simp [ho]]
    exact ho

end State.Clears

theorem State.sheetGone_link : (s.sheetGone j).link = s.link := by
  unfold State.sheetGone
  split <;> rfl

theorem State.Trails.jobCut_link_place {p : Phase} (h : d.Trails e) (hj : e.job = some { k with phase := p }) (hk : k.kind = .place)
    (hd : k.dest = some (.placement st id)) (hb : ∀ p ∈ (d.plan.get st).placements, p.id = id → p.state ≠ .bound) :
    (e.jobCut { k with phase := p }).link = e.link := by
  have hb' := State.handBack_settled hj (st := st) (id := id) hk hd (by rw [h.plan]; exact hb)
  rw [State.jobCut_place (j := { k with phase := p }) hk hb', State.sheetGone_link]
  rfl

theorem State.Trails.jobCut_link_sheet {p : Phase} (h : d.Trails e) (hj : e.job = some { k with phase := p }) (hk : k.kind = .sheet)
    (hs : k.station = some st) (hx : ∀ l ∈ (d.plan.get st).jobless.queue, l.settle.complete = false) :
    (e.jobCut { k with phase := p }).link = e.link := by
  rw [State.jobCut_sheet hj hk hs (by rw [h.plan]; exact hx)]
  exact State.sheetGone_link

/-! ### The reports a job end leaves -/

/-- The reports of the gantry. -/
abbrev ReportBody.ofGantry (b : ReportBody) : Bool := match b with | .gantry .. => true | _ => false

theorem State.Adds.files {p f : ReportBody → Bool} {n : Nat} (h : State.Adds p n s t) (hf : ∀ b, p b = true → f b = false) :
    State.Files f n [] s t := by
  intro hr
  obtain ⟨l, hl, hn, hp⟩ := h hr
  refine ⟨by rw [hl, List.length_append]; omega, ?_⟩
  have hnil : (l.map Report.body).filter f = [] := List.filter_eq_nil_iff.mpr fun b hb => by
    obtain ⟨r, hr, rfl⟩ := List.mem_map.mp hb
    simp [hf _ (hp r hr)]
  rw [State.filed, State.filed, hl, List.map_append, List.filter_append, hnil]

/-- A station that is BUILDING after the end of its queue was looked for is not at it (R29). -/
theorem State.endOfQueue_building (h : ((s.endOfQueue st).stn.get st).mode = .plain .building) : s.endOfQueue st = s := by
  rw [State.endOfQueue_mode] at h
  unfold State.endOfQueue
  dsimp only
  split
  next hc =>
    rw [if_pos hc] at h
    split at h <;> simp at h
  · rfl

section files

variable {f : ReportBody → Bool} (hr : ∀ b : ReportBody, b.routine = true → f b = false)
  (hg : ∀ b : ReportBody, b.ofGantry = true → f b = false)
include hr

theorem State.sourceEnd_files (s : State) (src : Source) : State.Files f 1 [] s (s.sourceEnd src) := by
  unfold State.sourceEnd
  dsimp only
  split
  · exact (State.Files.refl s).mono (Nat.zero_le _)
  · split <;> exact (State.Files.of_link (by rfl)).mono (Nat.zero_le _)
  · split
    · split
      · exact (State.report_routine hr (s.setSlot _ .blocked) rfl).after rfl
      · exact (State.Files.of_link rfl).mono (Nat.zero_le _)
    · exact (State.Files.refl s).mono (Nat.zero_le _)

/-- The end of the queue and the stall test behind it: of the two only one has something to report (R29, R105). -/
theorem State.jobEnd_files (h : s.job = some j) (hs : j.station = some st) (hc : (s.jobCut j).link = s.link) :
    State.Files f 3 [] s s.jobEnd := by
  have hsrc := State.sourceEnd_files hr (s.jobOff j) j.source
  have hlast : (s.jobEnd).link = (((s.jobOff j).sourceEnd j.source).stallTest st).link := by
    rw [State.jobEnd_eq h, hs]
    unfold State.finishCell
    split <;> rfl
  refine State.Files.before (t := ((s.jobOff j).sourceEnd j.source).stallTest st) ?_ hlast
  by_cases hm : ((s.jobOff j).stn.get st).mode = .plain .building
  · have hk : s.jobOff j = s.jobCut j := by
      rw [State.jobOff_station hs] at hm ⊢
      exact State.endOfQueue_building hm
    rw [hk] at hsrc ⊢
    exact ((hsrc.after hc).quiet (State.stallTest_files hr _ st)).mono (by omega)
  · have ho : State.Files f 2 [] s (s.jobOff j) := by
      rw [State.jobOff_station hs]
      exact (State.endOfQueue_files hr _ st).after hc
    refine (ho.quiet hsrc).before (State.stallTest_link _ st ?_)
    rw [(State.sourceEnd_plan _).2.1]
    exact hm

include hg

/-- The reports at the end of a release, where the end of the job leaves its layers. -/
theorem State.Clears.files (h : d.Clears u) (hk : d.job = some k) (hs : k.station = some st)
    (hc : ∀ e p, d.Trails e → e.job = some { k with phase := p } → (e.jobCut { k with phase := p }).link = e.link) :
    State.Files f 4 [] d u := by
  obtain ⟨e, he, rfl | ⟨hl, rfl⟩⟩ := h
  · exact (he.adds.files hg).mono (by omega)
  · obtain ⟨p, hp⟩ := he.job k hk
    have hj := State.jobEnd_files hr hp hs (hc e p he hp)
    have ha := State.Adds.files (f := f) (State.gantryTo_adds e.jobEnd .idle (p := ReportBody.ofGantry) fun _ _ _ _ _ _ => rfl) hg
    exact (hj.after hl).quiet ha

end files

end

end Sys2Proof.Machine
end

section
/-! SUPPORT. The commit of a case and of a sheet at the end of a release (R25, R27, R28, R52, R53, R90). -/

namespace Sys2Proof.Machine

section

variable {s t u d : State} {st : StationId} {j : Job} {id : Nat} {r : WalkResult}

/-- The reports of a commit: PLACED and LAYER_DONE (R25, R28). -/
def ReportBody.ofCommit (b : ReportBody) : Bool := match b with | .placed .. => true | .layerDone .. => true | _ => false

theorem ReportBody.ofCommit_routine (b : ReportBody) (h : b.routine = true) : b.ofCommit = false := by
  cases b
  case layerDone | placed => exact absurd h Bool.false_ne_true
  all_goals rfl

theorem ReportBody.ofCommit_gantry (b : ReportBody) (h : b.ofGantry = true) : b.ofCommit = false := by
  cases b
  case layerDone | placed => exact absurd h Bool.false_ne_true
  all_goals rfl

theorem Layer.doneReports_commit (l : Layer) (st : StationId) : (l.doneReports st).filter ReportBody.ofCommit = l.doneReports st := by
  unfold Layer.doneReports
  split <;> rfl

/-- A job that has committed its item. -/
def Job.spent (j : Job) : Job :=
  { j with released := true, carried := none, delivered := j.deliveredType, reservation := none, committed := true }

/-- The state in which the item is delivered. -/
def State.delivering (s : State) (j : Job) : State := s.letGone.setJob (some j.freed)

/-- A release whose delivery is a commit. -/
structure State.Commits (s t : State) (st : StationId) (j : Job) : Prop where
  deliver : (s.delivering j).deliver j.freed = t.committedAt st
  job : t.job = some j.freed

namespace State.Commits

theorem done (h : s.Commits t st j) (hj : s.job = some j) : s.releaseDone = (t.committedAt st).setJob (some j.spent) := by
  have hc : (t.committedAt st).job = some j.freed.done := by
    have := congrArg Floor.job (t.committedAt_floor st)
    exact this.trans (by rw [h.job]; rfl)
  rw [State.releaseDone_of hj]
  have hd : (s.letGone.setJob (some j.freed)).deliver j.freed = t.committedAt st := h.deliver
  rw [hd]
  unfold State.modifyJob
  rw [hc]
  rfl

theorem job_done (h : s.Commits t st j) (hj : s.job = some j) : s.releaseDone.job = some j.spent := by
  rw [h.done hj]
  rfl

theorem boundTo (h : s.Commits t st j) (hs : j.station = some st) : t.boundTo st = true := State.boundTo_of_station h.job hs

/-- The stack at the end of the release is that of the entry. -/
theorem stack (h : s.Commits t st j) (hj : s.job = some j) (hu : s.releaseDone.Clears u) :
    (u.stack.get st).body = (t.stack.get st).body := by
  have hb := hu.bodies (h.job_done hj) st
  rw [h.done hj] at hb
  exact hb.trans (t.committedAt_bodies st st)

theorem queue (h : s.Commits t st j) (hj : s.job = some j) :
    (s.releaseDone.plan.get st).queue.map Layer.unswept = (t.plan.get st).staying.queue.map Layer.unswept
      ∧ (t.plan.get st).From (s.releaseDone.plan.get st) := by
  obtain ⟨hq, -, hf⟩ := State.committedAt_queue t st
  rw [h.done hj]
  exact ⟨hq, hf⟩

/-- The reports of a release that commits: those of the entry, and LAYER_DONE of a layer it completes. -/
theorem files (h : s.Commits t st j) (hj : s.job = some j) (hs : j.station = some st) {n : Nat} {l : List ReportBody}
    (ht : State.Files ReportBody.ofCommit n l s t) {before after : List Layer} {x : Layer}
    (hq : (t.plan.get st).queue = before ++ x :: after) (hx : ∀ y ∈ before ++ after, y.settle.complete = false) :
    State.Files ReportBody.ofCommit (n + 10) (l ++ if x.settle.complete then x.doneReports st else []) s s.releaseDone := by
  have hc := State.committedAt_files ReportBody.ofCommit_routine (h.boundTo hs) hq hx
  rw [Layer.doneReports_commit] at hc
  rw [h.done hj]
  exact (ht.trans hc).before rfl

end State.Commits

/-! ### A case -/

section case

variable {c : ArrivalRec} {p : Placement} {y : CaseType} {e : Entry}

theorem State.deliver_case (hk : j.kind = .place) (hd : j.dest = some (.placement st id)) (hc : j.carried = some (.case c))
    (hr : j.reservation = some r) (hf : (s.plan.get st).find? id = some p) (hy : s.dir.typeAt p.type = some y) :
    s.deliver j = s.commitCase st p y r c := by
  simp only [State.deliver, hk, hd, hc, hr, hf, hy]

theorem State.commits_case (hk : j.kind = .place) (hd : j.dest = some (.placement st id)) (hc : j.carried = some (.case c))
    (hr : j.reservation = some r) (hf : (s.plan.get st).find? id = some p) (hy : s.dir.typeAt p.type = some y)
    (he : e = caseEntry p y r ((c.meas.map Measured.wei).getD 0)) : s.Commits ((s.delivering j).caseEntered st p e r) st j := by
  have hj : ((s.delivering j).caseEntered st p e r).job = some j.freed :=
    State.job_of_floor (s := s.delivering j) (State.caseEntered_floor p e r)
  refine ⟨?_, hj⟩
  rw [State.deliver_case (s := s.delivering j) (j := j.freed) hk hd hc hr hf hy, he]
  exact State.commitCase_committed p y r c

theorem State.delivering_link (s : State) (j : Job) : (s.delivering j).link = s.link := rfl

theorem State.Commits.case_stack (h : s.Commits ((s.delivering j).caseEntered st p e r) st j) (hj : s.job = some j)
    (hu : s.releaseDone.Clears u) : (u.stack.get st).table = ((s.stack.get st).commit r e).table
      ∧ (u.stack.get st).map = ((s.stack.get st).commit r e).map ∧ (u.stack.get st).gross = (s.stack.get st).gross + e.weight
      ∧ (u.stack.get st).highest = max (s.stack.get st).highest e.top := by
  have hb := h.stack hj hu
  rw [State.caseEntered_stack] at hb
  exact Stack.of_body hb

/-- The placement is PLACED, and the plan stays as the commit left it. -/
theorem State.Commits.placed (h : s.Commits ((s.delivering j).caseEntered st p e r) st j) (hj : s.job = some j)
    (hk : j.kind = .place) (hd : j.dest = some (.placement st p.id)) (hu : s.releaseDone.Clears u) :
    u.plan = s.releaseDone.plan ∧ ∀ q ∈ (s.releaseDone.plan.get st).placements, q.id = p.id → q.state = .placed := by
  have hp : ∀ q ∈ (s.releaseDone.plan.get st).placements, q.id = p.id → q.state = .placed := by
    intro q hq hi
    obtain ⟨x, hx, hxi, hxs⟩ := (h.queue hj).2 q hq
    rw [State.caseEntered_plan, Plan.placements_modify] at hx
    obtain ⟨z, -, rfl⟩ := List.mem_map.mp hx
    rw [hxs]
    split
    · rfl
    next hn =>
      rw [if_neg hn] at hxi
      exact absurd (hxi.symm.trans hi) hn
  exact ⟨hu.plan_place (h.job_done hj) hk hd fun q hq hi => by rw [hp q hq hi]; simp, hp⟩

theorem State.placedReport_append {before after : List Layer} {l : Layer} (hq : (s.plan.get st).queue = before ++ l :: after)
    (hl : ∃ q ∈ l.placements, q.id = p.id) (hx : ∀ x ∈ before ++ after, ∀ q ∈ x.placements, q.id ≠ p.id) :
    s.placedReport st p e = .placed st p.id l.tag p.aisle (s.stack.get st).table.length e.weight p.order := by
  have hn : before.find? (fun l => l.placements.any fun q => q.id == p.id) = none := by
    simpa using fun x h => hx x (by simp [h])
  have hy : (l.placements.any fun q => q.id == p.id) = true := by simpa using hl
  rw [State.placedReport, hq, List.find?_append, hn, List.find?_cons, hy]
  rfl

/-- A layer whose placement with an id is PLACED. -/
def Layer.placedAt (l : Layer) (id : Nat) : Layer :=
  { l with placements := l.placements.map fun q => if q.id = id then { q with state := .placed } else q }

/-- The layers, and the reports, of a case that is committed (R25, R28). -/
theorem State.Commits.layers (h : s.Commits ((s.delivering j).caseEntered st p e r) st j) (hj : s.job = some j)
    (hk : j.kind = .place) (hd : j.dest = some (.placement st p.id)) (hu : s.releaseDone.Clears u)
    {before after : List Layer} {l : Layer} (hq : (s.plan.get st).queue = before ++ l :: after)
    (hl : ∃ q ∈ l.placements, q.id = p.id)
    (hx : ∀ x ∈ before ++ after, (∀ q ∈ x.placements, q.id ≠ p.id) ∧ x.settle.complete = false) :
    (u.plan.get st).queue.map Layer.unswept =
        (if (l.placedAt p.id).settle.complete then before ++ after else before ++ l.placedAt p.id :: after).map Layer.unswept
      ∧ (s.link.reports = [] → (u.link.reports.map Report.body).filter ReportBody.ofCommit =
        .placed st p.id l.tag p.aisle (s.stack.get st).table.length e.weight p.order ::
          if (l.placedAt p.id).settle.complete then (l.placedAt p.id).doneReports st else []) := by
  have hs : j.station = some st := by simp [Job.station, hk, hd]
  obtain ⟨hup, hpl⟩ := h.placed hj hk hd hu
  have htq : (((s.delivering j).caseEntered st p e r).plan.get st).queue = before ++ l.placedAt p.id :: after := by
    rw [State.caseEntered_plan]
    exact Plan.modify_append _ hq fun x hm => (hx x hm).1
  refine ⟨?_, fun hrep => ?_⟩
  · rw [hup, (h.queue hj).1]
    generalize ((s.delivering j).caseEntered st p e r).plan.get st = P at htq
    cases P
    dsimp only at htq
    rw [htq, Plan.staying_append fun x hm => (hx x hm).2]
  · have hrp : (s.delivering j).placedReport st p e =
        .placed st p.id l.tag p.aisle (s.stack.get st).table.length e.weight p.order :=
      State.placedReport_append hq hl fun x hm => (hx x hm).1
    have hent := State.caseEntered_files (s := s.delivering j) (st := st) ReportBody.ofCommit_routine p e r (by rw [hrp]; rfl)
    have hcom := h.files hj hs (hent.after (s.delivering_link j)) htq fun x hm => (hx x hm).2
    have hend := hu.files ReportBody.ofCommit_routine ReportBody.ofCommit_gantry (h.job_done hj) hs fun e' ph he' hje' =>
      he'.jobCut_link_place hje' hk hd fun q hq' hi => by rw [hpl q hq' hi]; simp
    have hall := ((hcom.quiet hend) (by simp [hrep, Config.reportMax])).2
    rw [State.filed, State.filed, hrep, hrp] at hall
    exact hall

end case

/-! ### A sheet -/

section sheet

theorem State.deliver_sheet (hk : j.kind = .sheet) (hd : j.dest = some (.sheet st)) (hc : j.carried = some .sheet)
    (hr : j.reservation = some r) : s.deliver j = s.commitSheet st r := by
  simp only [State.deliver, hk, hd, hc, hr]

theorem State.commits_sheet (hk : j.kind = .sheet) (hd : j.dest = some (.sheet st)) (hc : j.carried = some .sheet)
    (hr : j.reservation = some r) : s.Commits ((s.delivering j).sheetEntered st r) st j := by
  have hj : ((s.delivering j).sheetEntered st r).job = some j.freed := by
    have h := State.sheetEntered_floor (s := s.delivering j) (st := st) r
    generalize (s.delivering j).sheetEntered st r = t at h
    exact congrArg Floor.job h
  refine ⟨?_, hj⟩
  rw [State.deliver_sheet (s := s.delivering j) (j := j.freed) hk hd hc hr]
  exact State.commitSheet_committed r

theorem State.Commits.magazine (h : s.Commits ((s.delivering j).sheetEntered st r) st j) (hj : s.job = some j)
    (hu : s.releaseDone.Clears u) : u.magazine = s.magazine - 1 := by
  have hm : ((s.delivering j).sheetEntered st r).magazine = s.magazine - 1 := by
    have h := State.sheetEntered_floor (s := s.delivering j) (st := st) r
    generalize (s.delivering j).sheetEntered st r = t at h
    exact congrArg Floor.magazine h
  have hc : (((s.delivering j).sheetEntered st r).committedAt st).magazine = ((s.delivering j).sheetEntered st r).magazine := by
    have h := State.committedAt_floor ((s.delivering j).sheetEntered st r) st
    generalize ((s.delivering j).sheetEntered st r).committedAt st = t at h
    exact congrArg Floor.magazine h
  rw [hu.magazine (h.job_done hj) rfl, h.done hj]
  exact hc.trans hm

theorem State.Commits.sheet_stack (h : s.Commits ((s.delivering j).sheetEntered st r) st j) (hj : s.job = some j)
    (hu : s.releaseDone.Clears u) :
    (u.stack.get st).table = ((s.stack.get st).commit r (sheetEntry (s.stack.get st).limits.foot r)).table
      ∧ (u.stack.get st).map = ((s.stack.get st).commit r (sheetEntry (s.stack.get st).limits.foot r)).map
      ∧ (u.stack.get st).gross = (s.stack.get st).gross + 3 := by
  have hb := h.stack hj hu
  rw [State.sheetEntered_stack] at hb
  obtain ⟨ht, hm, hg, -⟩ := Stack.of_body hb
  exact ⟨ht, hm, hg⟩

/-- A layer with its sheet on the stack (R53). -/
def Layer.sheeted (l : Layer) : Layer := { l with sheetDue := false, sheetDone := true }

theorem Layer.settle_complete_unswept (l : Layer) : l.unswept.settle.complete = l.settle.complete := by
  have ho : l.unswept.over = l.over := by
    simp only [Layer.over, Layer.unswept, List.all_map]
    rfl
  have hv : l.unswept.allVoid = l.allVoid := by
    simp only [Layer.allVoid, Layer.unswept, List.all_map]
    rfl
  have hd : l.unswept.sheetDue = l.sheetDue := rfl
  have hj : l.unswept.sheetJob = l.sheetJob := rfl
  unfold Layer.settle
  rw [hv, hd, hj]
  split
  · exact congrArg (· && !false) ho
  · exact congrArg (· && !l.sheetDue) ho

theorem Layer.settle_complete_of_live {l : Layer} (h : l.over = false) : l.settle.complete = false := by
  have ho : l.settle.over = l.over := by
    unfold Layer.settle
    split <;> rfl
  rw [Layer.complete, ho, h]
  rfl

/-- A layer whose sheet is on the stack is complete once its placements are over (R27). -/
theorem Layer.sheeted_complete (l : Layer) : l.sheeted.settle.complete = l.over := by
  have hs : l.sheeted.settle = l.sheeted := if_neg (by simp [Layer.sheeted])
  rw [hs]
  simp [Layer.complete, Layer.sheeted, Layer.over]

variable {w : Layer} {rest : List Layer}

theorem State.sheetEntered_queue (hq : (s.plan.get st).queue = w :: rest) :
    (((s.delivering j).sheetEntered st r).plan.get st).queue = [] ++ w.sheeted :: rest := by
  rw [State.sheetEntered_plan, Plan.sheetCommitted]
  rw [show (s.delivering j).plan.get st = s.plan.get st from rfl]
  split
  next h => simp [hq] at h
  next w' rest' h =>
    rw [hq] at h
    cases h
    rfl

/-- The queue when a sheet is on the stack: its layer leaves where it is complete. -/
theorem State.Commits.sheet_queue (h : s.Commits ((s.delivering j).sheetEntered st r) st j) (hj : s.job = some j)
    (hq : (s.plan.get st).queue = w :: rest) (hx : ∀ x ∈ rest, x.settle.complete = false) :
    (s.releaseDone.plan.get st).queue.map Layer.unswept = (if w.over then rest else w.sheeted :: rest).map Layer.unswept := by
  rw [(h.queue hj).1]
  have htq := State.sheetEntered_queue (j := j) (r := r) hq
  generalize ((s.delivering j).sheetEntered st r).plan.get st = P at htq
  cases P
  dsimp only at htq
  rw [htq, Plan.staying_append (by simpa using hx), w.sheeted_complete]
  rfl

/-- No layer of it becomes complete with the end of the SHEET job. -/
theorem State.Commits.sheet_jobless (h : s.Commits ((s.delivering j).sheetEntered st r) st j) (hj : s.job = some j)
    (hq : (s.plan.get st).queue = w :: rest) (hx : ∀ x ∈ rest, x.sheetJob = false ∧ x.settle.complete = false) :
    ∀ l ∈ (s.releaseDone.plan.get st).jobless.queue, l.settle.complete = false := by
  intro l hl
  obtain ⟨x, hxm, rfl⟩ := List.mem_map.mp hl
  have hm : x.unswept ∈ (if w.over then rest else w.sheeted :: rest).map Layer.unswept :=
    h.sheet_queue hj hq (fun x hx' => (hx x hx').2) ▸ List.mem_map_of_mem hxm
  obtain ⟨y, hy, hyx⟩ := List.mem_map.mp hm
  have hun : ({ x with sheetJob := false } : Layer).unswept = ({ y with sheetJob := false } : Layer).unswept :=
    congrArg (fun l : Layer => { l with sheetJob := false }) hyx.symm
  rw [← Layer.settle_complete_unswept, hun, Layer.settle_complete_unswept]
  have hrest (hr : y ∈ rest) : ({ y with sheetJob := false } : Layer).settle.complete = false := by
    obtain ⟨hj, hc⟩ := hx y hr
    have he : ({ y with sheetJob := false } : Layer) = y := by rw [← hj]
    rw [he]
    exact hc
  split at hy
  · exact hrest hy
  next ho =>
    rcases List.mem_cons.mp hy with rfl | hr
    · exact Layer.settle_complete_of_live (eq_false_of_ne_true ho)
    · exact hrest hr

/-- The layers, and the reports, of a sheet that is committed (R28, R53). -/
theorem State.Commits.sheet_layers (h : s.Commits ((s.delivering j).sheetEntered st r) st j) (hj : s.job = some j)
    (hk : j.kind = .sheet) (hs : j.station = some st) (hu : s.releaseDone.Clears u)
    (hq : (s.plan.get st).queue = w :: rest) (hx : ∀ x ∈ rest, x.sheetJob = false ∧ x.settle.complete = false) :
    (u.plan.get st).queue.map Layer.tag = (if w.over then rest else w :: rest).map Layer.tag
      ∧ (w.over = false → (u.plan.get st).sheetDue = false)
      ∧ (s.link.reports = [] → (u.link.reports.map Report.body).filter ReportBody.ofCommit =
        if w.over then w.sheeted.doneReports st else []) := by
  have hjl := h.sheet_jobless hj hq hx
  have hqu := h.sheet_queue hj hq fun x hm => (hx x hm).2
  have hplan := hu.plan_sheet (h.job_done hj) hk hs hjl
  have htag (q : List Layer) : (q.map Layer.unswept).map Layer.tag = q.map Layer.tag := by simp [Function.comp_def, Layer.unswept]
  refine ⟨?_, fun ho => ?_, fun hrep => ?_⟩
  · have hd : (s.releaseDone.plan.get st).queue.map Layer.tag = (if w.over then rest else w :: rest).map Layer.tag := by
      rw [← htag, hqu, htag]
      split <;> rfl
    rcases hplan with hp | hp <;> rw [hp]
    · exact hd
    · rw [← hd]
      simp [Plan.jobless, Function.comp_def]
  · have hd : (s.releaseDone.plan.get st).sheetDue = false := by
      rw [ho] at hqu
      unfold Plan.sheetDue
      generalize (s.releaseDone.plan.get st).queue = q at hqu
      cases q with
      | nil => rfl
      | cons x q => exact congrArg Layer.sheetDue (List.cons.inj hqu).1
    rcases hplan with hp | hp <;> rw [hp]
    · exact hd
    · rw [← hd]
      unfold Plan.sheetDue Plan.jobless
      cases (s.releaseDone.plan.get st).queue <;> rfl
  · have hent : State.Files ReportBody.ofCommit 1 [] s ((s.delivering j).sheetEntered st r) :=
      (State.reschedule_files ReportBody.ofCommit_routine _ st).after rfl
    have hcom := h.files hj hs hent (State.sheetEntered_queue hq) (by simpa using fun x hm => (hx x hm).2)
    have hend := hu.files ReportBody.ofCommit_routine ReportBody.ofCommit_gantry (h.job_done hj) hs fun e' ph he' hje' =>
      he'.jobCut_link_sheet hje' hk hs hjl
    have hall := ((hcom.quiet hend) (by simp [hrep, Config.reportMax])).2
    rw [State.filed, State.filed, hrep, w.sheeted_complete] at hall
    exact hall

end sheet

end

end Sys2Proof.Machine
end

section
/-! THEOREM. Releases, the pull-in time, fault inputs and the decay of the grip-fault counter (R25, R28, R29, R52, R53, R81, R85, R90,
R143, R145 to R147). -/

namespace Sys2Proof.Machine

section

variable {s t u d : State} {st : StationId} {j : Job} {id : Nat} {i : SlotId} {c : ArrivalRec}

/-! ### A slot and the spill table -/

theorem State.deliver_slot (hd : j.dest = some (.slot i)) (hc : j.carried = some (.case c)) (hi : s.slots[i] = .empty false) :
    s.deliver j = s.slotFilled i c := by
  cases hk : j.kind <;> simp only [State.deliver, hk, hd, hc, hi, if_true] <;> rfl

theorem State.deliver_spill (hd : j.dest = some .spill) : s.deliver j = s.setSpill (min (s.spill + 1) Config.spillMax) := by
  cases hk : j.kind <;> simp only [State.deliver, hk, hd]

/-- A slot filled has its stale mark from the plans (R81, R106). -/
theorem State.slotFilled_slot (s : State) (i : SlotId) (c : ArrivalRec) :
    (s.slotFilled i c).slots[i] = .held c s.clock (!s.wantedRec c) := by
  have h := State.staleScanSlot_slots (((s.setSlot i (.held c s.clock false)).report (.buffered i c.ref)).slotEvent) i
  have hi : (((s.setSlot i (.held c s.clock false)).report (.buffered i c.ref)).slotEvent).slots[i] = .held c s.clock false := by
    have hs : (s.setSlot i (.held c s.clock false)).slots[i] = .held c s.clock false := by simp
    exact hs
  rw [hi] at h
  refine (congrArg (fun v => v[i]) h).trans ?_
  simp only [Fin.getElem_fin, Vector.getElem_set_self]
  rfl

theorem State.releaseDone_slot (hj : s.job = some j) (hd : j.dest = some (.slot i)) (hc : j.carried = some (.case c))
    (hi : s.slots[i] = .empty false) : s.releaseDone.slots[i] = .held c s.clock (!s.wantedRec c) := by
  rw [State.releaseDone_of hj]
  have hdel : (s.letGone.setJob (some j.freed)).deliver j.freed = (s.letGone.setJob (some j.freed)).slotFilled i c :=
    State.deliver_slot hd hc hi
  rw [hdel]
  exact State.slotFilled_slot _ i c

theorem State.releaseDone_spill (hj : s.job = some j) (hd : j.dest = some .spill) : s.releaseDone.spill = min (s.spill + 1) 6 := by
  rw [State.releaseDone_of hj]
  have hdel : (s.letGone.setJob (some j.freed)).deliver j.freed =
      (s.letGone.setJob (some j.freed)).setSpill (min (s.spill + 1) Config.spillMax) :=
    State.deliver_spill hd
  rw [hdel]
  rfl

/-! ### The gripper -/

theorem State.releaseComplete_gripper (s : State) : s.releaseComplete.gripper =
    { s.gripper with state := .idle, timer := none, used := noZones } := by
  have hd : s.releaseDone.gripper = { s.gripper with state := .idle, timer := none, used := noZones } := by
    cases hj : s.job with
    | none =>
      unfold State.releaseDone
      dsimp only
      rw [show ((s.setGripper { s.gripper with state := .idle, timer := none }).clearUsed).job = none from hj]
      rfl
    | some j => exact State.releaseDone_gripper hj
  unfold State.releaseComplete
  dsimp only
  split
  · rw [State.startClear_gripper, hd]
  · exact hd

/-! ### The release timer -/

theorem exec_releaseTimerExpiry (s : State) : exec .releaseTimerExpiry s = .next s.fresh.releaseTimerEnds.settle := rfl

/-- The state in which a release completes. -/
def State.releasing (s : State) : State := s.fresh.setGripper s.gripper.blown

theorem exec_releaseTimerExpiry_again (hg : s.gripper.state = .releasing)
    (hr : ∃ z, s.gripper.used.get z = true ∧ 10 < s.inputs.reading.get z) (ha : s.gripper.attempt = 1) :
    exec .releaseTimerExpiry s = .next (s.setGripper (s.gripper.blown.blow 2)).ended := by
  have he : s.fresh.releaseTimerEnds = s.fresh.setGripper (s.gripper.blown.blow 2) :=
    (State.releaseTimerEnds_holds (s := s.fresh) hg hr).trans (if_pos ha)
  rw [exec_releaseTimerExpiry, he, State.settle_ended _ rfl rfl]
  rfl

theorem exec_releaseTimerExpiry_stuck (hg : s.gripper.state = .releasing)
    (hr : ∃ z, s.gripper.used.get z = true ∧ 10 < s.inputs.reading.get z) (ha : s.gripper.attempt ≠ 1) :
    exec .releaseTimerExpiry s = .next s.releasing.releaseStuck.settle := by
  have he : s.fresh.releaseTimerEnds = s.releasing.releaseStuck := (State.releaseTimerEnds_holds (s := s.fresh) hg hr).trans (if_neg ha)
  rw [exec_releaseTimerExpiry, he]

theorem exec_releaseTimerExpiry_done (hg : s.gripper.state = .releasing)
    (hr : ∀ z, s.gripper.used.get z = true → s.inputs.reading.get z ≤ 10) :
    exec .releaseTimerExpiry s = .next s.releasing.releaseComplete.settle := by
  rw [exec_releaseTimerExpiry, State.releaseTimerEnds_releases (s := s.fresh) hg hr]
  rfl

theorem Gripper.blown_blow {g : Gripper} (h : g.state = .releasing) : g.blown.blow 2 =
    { g with attempt := 2, timer := some g.set.releaseMs, zones := (g.blown.blow 2).zones } := by
  cases g
  cases h
  rfl

theorem Job.station_of_slot (hd : j.dest = some (.slot i)) : j.station = none := by
  cases hk : j.kind <;> simp only [Job.station, hk, hd]

/-- The type a PUT or PUTAWAY job goes on referencing (R7). -/
theorem Job.deliveredType_of (hk : j.kind = .put ∨ j.kind = .putaway) (hc : j.carried = some (.case c)) : j.deliveredType = c.type := by
  rcases hk with hk | hk <;> simp only [Job.deliveredType, hk, hc]

/-! ### A fault -/

theorem Gripper.faultAt_faulted (g : Gripper) (z : Zone) : ((g.faultAt z).zones.get z).faulted = true := by
  rw [Gripper.faultAt, PerZone.get_set_same]

theorem exec_faultInput_taken {z : Zone} {k : FaultKind} {v : Bool} (hl : s.inputs.fault z k ≠ v)
    (hm : s.inputs.missing (.fault z k) = 0) (hv : v = true) (hf : (s.gripper.zones.get z).faulted = false) :
    exec (.faultInput z k v) s = .next
      ((s.faultTaken z k ((s.inputs.noteEvent (.fault z k)).setFault z k v)).zoneFaultEffect z).settle := by
  rw [exec_faultInput hl hm, if_pos (by simp [hv, hf])]

theorem exec_faultInput_gripping {z : Zone} {k : FaultKind} {v : Bool} (hl : s.inputs.fault z k ≠ v)
    (hm : s.inputs.missing (.fault z k) = 0) (hv : v = true) (hf : (s.gripper.zones.get z).faulted = false)
    (hu : s.gripper.used.get z = true) (hg : s.gripper.state = .gripping) (hj : s.job = some j) : exec (.faultInput z k v) s = .next
      (if zoneCount (s.gripper.used.set z false) < (s.gripNeeds (s.sourceCase j)).2
        then ((s.faultTaken z k ((s.inputs.noteEvent (.fault z k)).setFault z k v)).gripsOn z).gripFail .failZones
        else ((s.faultTaken z k ((s.inputs.noteEvent (.fault z k)).setFault z k v)).gripsOn z).gripTest).settle := by
  rw [exec_faultInput_taken hl hm hv hf, State.zoneFaultEffect_gripping
    (s := s.faultTaken z k ((s.inputs.noteEvent (.fault z k)).setFault z k v)) (j := j) hu hg hj]
  rfl

theorem Inputs.setFault_reading (i : Inputs) (z : Zone) (k : FaultKind) (v : Bool) : (i.setFault z k v).reading = i.reading := by
  cases k <;> rfl

/-- Used zones that read G and are sound hold the item (R141). -/
theorem State.gripsOn_holds {z : Zone} {k : FaultKind} {i : Inputs} (hi : i.reading = s.inputs.reading)
    (hlo : s.gripper.set.lo ≤ s.gripper.set.g) (hall : ∀ y, (s.gripper.used.set z false).get y = true →
      s.gripper.set.g ≤ s.inputs.reading.get y ∧ (s.gripper.zones.get y).faulted = false) :
    ((s.faultTaken z k i).gripsOn z).allRead s.gripper.set.g = true ∧ ((s.faultTaken z k i).gripsOn z).lossZone? = none := by
  have hr (y : Zone) : ((s.faultTaken z k i).gripsOn z).inputs.reading.get y = s.inputs.reading.get y := congrArg (PerZone.get · y) hi
  refine ⟨State.allRead_iff.mpr fun y hy => ?_, List.find?_eq_none.mpr fun y _ => ?_⟩
  · rw [hr]
    exact (hall y hy).1
  · cases hy : (s.gripper.used.set z false).get y with
    | false =>
      rw [show ((s.faultTaken z k i).gripsOn z).gripper.used.get y = false from hy]
      simp
    | true =>
      obtain ⟨hg, hf⟩ := hall y hy
      have hn : y ≠ z := by
        rintro rfl
        rw [PerZone.get_set_same] at hy
        cases hy
      have hz : ((s.faultTaken z k i).gripsOn z).gripper.zones.get y = s.gripper.zones.get y := PerZone.get_set_ne _ _ hn
      have hlow : ¬s.inputs.reading.get y < ((s.faultTaken z k i).gripsOn z).gripper.set.lo := Nat.not_lt.mpr (hlo.trans hg)
      simp [hr, hz, hf, hlow]

/-! ### LAYER_DONE -/

/-- The reports of a layer whose last placement is PLACED. -/
theorem Layer.doneReports_placedAt (l : Layer) (st : StationId) (id : Nat) :
    (if (l.placedAt id).settle.complete then (l.placedAt id).doneReports st else []) =
      if (l.placedAt id).settle.complete = true ∧ l.report = true then
        [.layerDone st l.tag ((l.placedAt id).placements.countP (fun q => q.state == .placed))
          ((l.placedAt id).placements.countP (fun q => q.state == .void)) l.sheetDone]
      else [] := by
  cases hc : (l.placedAt id).settle.complete with
  | false => simp
  | true => cases hr : l.report <;> simp [Layer.doneReports, Layer.placedAt, Layer.count, hr]

/-- The reports of a layer whose sheet was its last item. -/
theorem Layer.doneReports_sheeted (l : Layer) (st : StationId) : (if l.over then l.sheeted.doneReports st else []) =
    if l.over = true ∧ l.report = true then
      [.layerDone st l.tag (l.placements.countP (fun q => q.state == .placed)) (l.placements.countP (fun q => q.state == .void)) true]
    else [] := by
  cases hc : l.over with
  | false => simp
  | true => cases hr : l.report <;> simp [Layer.doneReports, Layer.sheeted, Layer.count, hr]

/-- Settles O54: a release that completes goes by its delivery (`State.Commits` for a case and a sheet) and by the start of CLEAR
behind it (`State.Clears`), the others by one lemma each. -/
theorem releasePullInFaultAndDecayAreTaken : Obligations.ReleasePullInFaultAndDecayAreTaken := by
  unfold Obligations.ReleasePullInFaultAndDecayAreTaken
  have hreading {s : State} {z : Zone} {k : FaultKind} {v : Bool} {i : Inputs}
      (hi : i = (s.inputs.noteEvent (.fault z k)).setFault z k v) : i.reading = s.inputs.reading := by
    rw [hi, Inputs.setFault_reading]
    rfl
  refine ⟨fun s => ⟨exec_releaseTimerExpiry_idle, fun hg hr => ⟨fun ha => ?_, fun ha => ?_⟩, fun hg hr => ?_⟩, fun s z => ⟨?_, ?_⟩,
    fun s z k v => ⟨?_, fun hl hm i f hi hf => ⟨fun hv => ?_, fun hv hnf => ⟨fun hu => ?_, fun hu hw => ?_,
      fun j left hu hgr hj hleft => ⟨fun hz => ?_, fun hz hlow => ?_, fun hz hng hlo hall => ?_⟩⟩⟩⟩,
    fun s => ⟨fun hd => ?_, fun n hd hn => ?_, fun n hd hn => ?_⟩⟩
  · exact ⟨_, exec_releaseTimerExpiry_again hg hr ha, congrArg s.setGripper (Gripper.blown_blow hg), s.gripper.blown_blow_zones⟩
  · have he := State.releaseStuck_eq (s := s.fresh)
    have hgr : s.releasing.releaseStuck.gripper = s.gripper.holdsAgain := congrArg State.gripper he
    have hga : s.releasing.releaseStuck.gantry = { s.gantry.halt with heldChange := false, state := .faulted .release } :=
      congrArg State.gantry he
    refine ⟨_, exec_releaseTimerExpiry_stuck hg hr ha, ?_, ?_⟩
    · rw [hgr, hga]
      exact he
    · rw [hgr, hga]
      exact ⟨rfl, rfl, rfl, rfl, rfl, s.gripper.holdsAgain_zones⟩
  · have hgrip : s.releasing.releaseComplete.gripper = { s.gripper.blown with state := .idle, timer := none, used := noZones } :=
      s.releasing.releaseComplete_gripper
    refine ⟨_, exec_releaseTimerExpiry_done hg hr, ?_, ?_, ?_, s.releasing.releaseComplete_fixed, fun z hz hf => ?_, fun j hj hgr => ?_⟩
    · rw [hgrip]
    · rw [hgrip]
    · rw [hgrip]
      rfl
    · rw [hgrip]
      dsimp only
      rw [Gripper.blown_zones, hz, hf]
      rfl
    · have hjr : s.releasing.job = some j := hj
      have hcl := State.releaseComplete_clears hjr hgr
      obtain ⟨b, c, hjd⟩ := State.releaseDone_job hjr
      refine ⟨fun hb => ?_, fun j' hj' => ?_, fun st hs => ?_, fun st id c r p t e hk hd hc hres hf hy he => ?_,
        fun st r e hk hd hc hres he => ?_, fun i c hd hc hi => ?_, fun hd => ?_⟩
      · exact hcl.travel hjd rfl ((State.releaseDone_gantry hjr).symm ▸ hb)
      · rcases hcl.job hjd with hn | ⟨p, hp⟩
        · rw [hn] at hj'
          cases hj'
        · rw [hp] at hj'
          cases hj'
          exact ⟨rfl, rfl, fun c => Job.deliveredType_of⟩
      · obtain ⟨hm, hcd⟩ := State.releaseDone_mode hjr hs
        rw [hcl.mode hjd hs, hm, hcd]
        rfl
      · obtain ⟨-, rfl⟩ := Plan.find?_eq_some hf
        have hcom := State.commits_case (s := s.releasing) hk hd hc hres hf hy he
        obtain ⟨htab, hmap, hgross, hhigh⟩ := hcom.case_stack hjr hcl
        obtain ⟨hup, hpl⟩ := hcom.placed hjr hk hd hcl
        refine ⟨htab, hmap, hgross, ?_, hcl.outstanding (hcom.job_done hjr) rfl, fun q hq hi => ?_,
          fun before l after l' hrep hqu hl hx hl' => ?_, fun before l after l' hqu hl hx hl' => ?_⟩
        · rw [hhigh, he]
          rfl
        · rw [hup] at hq
          exact hpl q hq hi
        · obtain rfl : l' = l.placedAt p.id := hl'
          have hrl := (hcom.layers hjr hk hd hcl hqu hl hx).2 hrep
          rw [Layer.doneReports_placedAt] at hrl
          exact hrl
        · obtain rfl : l' = l.placedAt p.id := hl'
          exact (hcom.layers hjr hk hd hcl hqu hl hx).1
      · have hs : j.station = some st := by simp [Job.station, hk, hd]
        have hcom := State.commits_sheet (s := s.releasing) hk hd hc hres
        obtain ⟨htab, hmap, hgross⟩ := hcom.sheet_stack hjr hcl
        rw [he]
        refine ⟨htab, hmap, hgross, hcom.magazine hjr hcl, hcl.outstanding (hcom.job_done hjr) rfl, fun w rest hqu hx => ?_⟩
        obtain ⟨htag, hdue, hlayers⟩ := hcom.sheet_layers hjr hk hs hcl hqu hx
        refine ⟨fun hrep => ?_, htag, hdue⟩
        have hrl := hlayers hrep
        rw [Layer.doneReports_sheeted] at hrl
        exact hrl
      · exact hcl.slot hjd (Job.station_of_slot hd) (State.releaseDone_slot hjr hd hc hi)
      · exact hcl.spill.trans (State.releaseDone_spill hjr hd)
  · exact exec_pullInExpiry_idle
  · exact fun ms => exec_pullInExpiry_hold
  · exact exec_faultInput_steady
  · have he := exec_faultInput hl hm
    rw [if_neg (by rcases hv with h | h <;> simp [h])] at he
    rw [he, hi, State.settle_ended _ rfl rfl]
    rfl
  · have he := exec_faultInput_taken hl hm hv hnf
    rw [← hi, State.zoneFaultEffect_none (s := s.faultTaken z k i) hu, State.settle_ended _ rfl rfl] at he
    exact ⟨{ s with inputs := i, gripper := f, link := (s.faultTaken z k i).link }, by rw [he, hf]; rfl, rfl⟩
  · have he := exec_faultInput_taken hl hm hv hnf
    rw [← hi] at he
    obtain ⟨e, y, hloss⟩ := State.zoneFaultEffect_watched (s := s.faultTaken z k i) hu (Gripper.faultAt_faulted _ z) hw
    rw [hloss] at he
    exact ⟨_, he, State.carryLoss_leaves e y⟩
  · have he := exec_faultInput_gripping hl hm hv hnf hu hgr hj
    rw [← hi, ← hleft, if_pos hz] at he
    obtain ⟨hc, hs, ht, hzone⟩ := State.gripFail_counts (s := (s.faultTaken z k i).gripsOn z) (z := z) .failZones
      (PerZone.get_set_same _ z false)
    exact ⟨_, he, hc, hs, ht, hzone.trans (PerZone.get_set_same _ z _)⟩
  · have he := exec_faultInput_gripping hl hm hv hnf hu hgr hj
    have ht : ((s.faultTaken z k i).gripsOn z).gripTest = (s.faultTaken z k i).gripsOn z := by
      refine if_neg fun h => ?_
      obtain ⟨y, hy, hread⟩ := hlow
      rw [hleft] at hy
      have hn := State.allRead_iff.mp h.2 y hy
      rw [show ((s.faultTaken z k i).gripsOn z).inputs.reading = s.inputs.reading from hreading hi] at hn
      exact absurd hn (Nat.not_le.mpr hread)
    rw [← hi, ← hleft, if_neg (Nat.not_lt.mpr hz), ht, State.settle_ended _ rfl rfl] at he
    refine ⟨{ s with inputs := i, gripper := { f with used := left }, link := (s.faultTaken z k i).link }, ?_, rfl⟩
    rw [he, hf, hleft]
    rfl
  · have he := exec_faultInput_gripping hl hm hv hnf hu hgr hj
    obtain ⟨hall', hloss⟩ := State.gripsOn_holds (k := k) (hreading hi) hlo (by rwa [← hleft])
    have ht : ((s.faultTaken z k i).gripsOn z).gripTest = ((s.faultTaken z k i).gripsOn z).gripped := if_pos ⟨hgr, hall'⟩
    rw [← hi, ← hleft, if_neg (Nat.not_lt.mpr hz), ht] at he
    obtain ⟨j', hj', hg'⟩ := State.gripped_job (s := (s.faultTaken z k i).gripsOn z) hj hloss
    exact ⟨_, j', he, hj', hg'⟩
  · exact exec_decayExpiry_idle fun n hn => by simp [hd] at hn
  · exact exec_decayExpiry_idle fun m hm => by
      obtain rfl : n = m := by simpa [hd] using hm
      exact hn
  · exact exec_decayExpiry_over hd hn

end

end Sys2Proof.Machine
end
